-- ==== Sys2Proof/Word.lean ====
section
/-! DEFINITION. The plain quantities of the ZB-460: bytes, times, pages and the numbered things
of section 0.6.4 (agents, tags, nodes, contexts, miss ids, sets, ways, purge slots). -/

namespace Sys2Proof

/-- One byte of a frame. -/
abbrev Byte := BitVec 8

/-- A value of the 32-bit microsecond time base, or a time derived from it (R173). -/
abbrev Time := BitVec 32

/-- A 26-bit logical page number (section 0.6.3). -/
abbrev Page := BitVec 26

/-- A 22-bit physical page number (section 0.6.3). -/
abbrev PhysPage := BitVec 22

/-- A near-side agent, 0 to 7 (section 0.6.4). -/
abbrev Agent := Fin 8

/-- A near tag, 0 to 63 (section 0.6.4). -/
abbrev NearTag := Fin 64

/-- A fabric node id, 0 to 63 (section 0.6.4). -/
abbrev NodeId := Fin 64

/-- A context number, 0 to 15 (section 0.6.4). -/
abbrev Ctx := Fin 16

/-- A miss id, 0 to 15 (section 0.6.4). -/
abbrev MissId := Fin 16

/-- A bridge tag, 0 to 127: the index of an outstanding entry (R83). -/
abbrev BridgeTag := Fin 128

/-- A purge slot, 0 to 3 (R105). -/
abbrev SlotId := Fin 4

/-- A way of a set, 0 to 3 (R1). -/
abbrev WayId := Fin 4

/-- A set of the translation cache, 0 to 63 (R1). -/
abbrev SetId := Fin 64

end Sys2Proof
end

