-- ==== Sys2Proof/Syntax.lean ====
section
/-! DEFINITION. The commands the bridge takes: one constructor per row of the table of operations
and events (`spec/opcode_table.json`), with the row's operands. -/

namespace Sys2Proof

/-- The two fabric-link ports (section 0.2). -/
inductive Port where
  | near
  | far
  deriving DecidableEq, Repr

/-- The four encodings of a frame's class (Table 10-1, R179): the fourth names no class. -/
inductive FrameClass where
  | request
  | response
  | mgmt
  | fourth
  deriving DecidableEq, Repr

/-- The kinds of a near request that carry a body (Table 10-2). FENCE has a command of its own. -/
inductive ReqKind where
  | read
  | write
  | post
  deriving DecidableEq, Repr

/-- The header bytes that a command leaves open (Table 10-1): destination (byte 1), source (byte 2),
tag (byte 3), management sequence number (byte 6) and byte 7. The class and the kind (byte 0) come
from the command, the body length (bytes 4 and 5) from the body. -/
structure Header where
  dst  : Byte
  src  : Byte
  tag  : Byte
  seq  : Byte
  last : Byte
  deriving DecidableEq, Repr

/-- The commands: every frame a port can receive, by the row that names its outcome, the time events,
the link and power events, and the consequence events. A frame-bearing command is the arrival of that
frame; what becomes of it the rules decide in the state that it finds (log entry 7). -/
inductive Instr where
  /-- NEAR_REQUEST (R59): a READ, WRITE or POST frame on the near port. -/
  | nearRequest (kind : ReqKind) (h : Header) (body : List Byte)
  /-- FENCE (R79): a FENCE frame on the near port. -/
  | fence (h : Header) (body : List Byte)
  /-- NEAR_FRAME_DISCARD (R179): a near frame of class RESPONSE or of the fourth encoding. -/
  | nearFrameDiscard (cls : FrameClass) (kind : BitVec 6) (h : Header) (body : List Byte)
  /-- NEAR_MGMT_DISCARD (R180): a MGMT frame on the near port. -/
  | nearMgmtDiscard (kind : BitVec 6) (h : Header) (body : List Byte)
  /-- CRC_DISCARD (R177): the raw bytes received on a port. -/
  | crcDiscard (port : Port) (bytes : List Byte)
  /-- FAR_RESPONSE (R86): a RESPONSE frame on the far port. -/
  | farResponse (kind : BitVec 6) (h : Header) (body : List Byte)
  /-- NOT_TARGET (R99): a REQUEST frame on the far port. -/
  | notTarget (kind : BitVec 6) (h : Header) (body : List Byte)
  /-- FAR_FRAME_DISCARD (R181): a far REQUEST or RESPONSE for another node, or the fourth encoding. -/
  | farFrameDiscard (cls : FrameClass) (kind : BitVec 6) (h : Header) (body : List Byte)
  /-- MISROUTED_MGMT (R138): a far MGMT frame not addressed to the bridge. -/
  | misroutedMgmt (kind : BitVec 6) (h : Header) (body : List Byte)
  /-- FOREIGN_MGMT (R139): a far MGMT frame from a node that is not the manager. -/
  | foreignMgmt (kind : BitVec 6) (h : Header) (body : List Byte)
  /-- REPLAY (R142): a far MGMT frame under E-1 while a reply is stored. -/
  | replay (kind : BitVec 6) (h : Header) (body : List Byte)
  /-- NAK_SEQ (R143): a far MGMT frame under a number that is neither E nor a replayable E-1. -/
  | nakSeq (kind : BitVec 6) (h : Header) (body : List Byte)
  /-- NAK_UNKNOWN (R145): a far MGMT frame whose kind is not a command kind. -/
  | nakUnknown (kind : BitVec 6) (h : Header) (body : List Byte)
  /-- FILL (R16). -/
  | fill (h : Header) (body : List Byte)
  /-- DENY (R51). -/
  | deny (h : Header) (body : List Byte)
  /-- PIN (R25). -/
  | pin (h : Header) (body : List Byte)
  /-- READ-ENTRY (R26). -/
  | readEntry (h : Header) (body : List Byte)
  /-- PURGE (R102). -/
  | purge (h : Header) (body : List Byte)
  /-- OPEN-CONTEXT (R119). -/
  | openContext (h : Header) (body : List Byte)
  /-- CLOSE-CONTEXT (R121). -/
  | closeContext (h : Header) (body : List Byte)
  /-- QUIESCE (R131). -/
  | quiesce (h : Header) (body : List Byte)
  /-- RESUME (R133). -/
  | resume (h : Header) (body : List Byte)
  /-- SET-PARAM (R149). -/
  | setParam (h : Header) (body : List Byte)
  /-- GET-PARAM (R150). -/
  | getParam (h : Header) (body : List Byte)
  /-- READ-STATUS (R151). -/
  | readStatus (h : Header) (body : List Byte)
  /-- READ-COUNTERS (R172). -/
  | readCounters (h : Header) (body : List Byte)
  /-- READ-FAULTS (R167). -/
  | readFaults (h : Header) (body : List Byte)
  /-- CLEAR-FAULTS (R168). -/
  | clearFaults (h : Header) (body : List Byte)
  /-- HANDOVER (R156). -/
  | handover (h : Header) (body : List Byte)
  /-- RESET-BRIDGE (R158). -/
  | resetBridge (h : Header) (body : List Byte)
  /-- MISS_TIMEOUT (R52): the deadline of a miss is reached. -/
  | missTimeout (id : MissId)
  /-- MISS_NOTICE (R43): the next notice time of a miss is reached. -/
  | missNotice (id : MissId)
  /-- RESPONSE_TIMEOUT (R90): the first deadline of an outstanding entry is reached. -/
  | responseTimeout (tag : BridgeTag)
  /-- SECOND_DEADLINE (R91): the second deadline of an EXPIRED entry is reached. -/
  | secondDeadline (tag : BridgeTag)
  /-- NEAR_LINK_DOWN (R184): loss of the near link. -/
  | nearLinkDown
  /-- FAR_LINK_DOWN (R185): loss of the far link. -/
  | farLinkDown
  /-- LINK_UP (R186): bring-up completes on a port. -/
  | linkUp (port : Port)
  /-- POWER_ON_RESET (R189): power-good rises, with the strap values sampled (R188). -/
  | powerOnReset (nodeStrap managerStrap : NodeId)
  /-- POWER_GOOD_FALL (R189): power-good falls. -/
  | powerGoodFall
  /-- ARBITER_FORWARD (R72): the head of the ready list leaves if it can. -/
  | arbiterForward
  /-- MISS_ENTRY_OFFER (R48): a free miss entry is offered to the UNNOTICED records. -/
  | missEntryOffer (id : MissId)
  /-- FENCE_DONE (R80): an agent's pending fence is judged. -/
  | fenceDone (agent : Agent)
  /-- PURGE_DONE (R109): a purge slot is judged. -/
  | purgeDone (slot : SlotId)
  /-- CLOSE_DONE (R126): a CLOSING context is judged. -/
  | closeDone (ctx : Ctx)
  /-- QUIESCED (R132): the drain condition is judged. -/
  | quiesced
  /-- UNKNOWN_KIND_REQUEST (R60): a near REQUEST frame of unknown kind. -/
  | unknownKindRequest (kind : BitVec 6) (h : Header) (body : List Byte)
  /-- FRAME_LEAVES_PORT (R182): the link carries the next frame a port holds. -/
  | frameLeavesPort (port : Port)
  deriving DecidableEq, Repr

end Sys2Proof
end

