-- ==== Sys2Proof/Decode.lean ====
section
/-! DEFINITION. The block has no instruction decoder: no row of `spec/opcode_table.json` gives a
command any bits (every row's "fields" is empty), so no word spells a command. Decoding the bytes of
a frame is in Machine/Frames.lean and Machine/Operands.lean. -/

namespace Sys2Proof

/-- The command that a word spells by the table's bits: none, since the table gives no row any. -/
def decodeTableWord (_nbits _w : Nat) : Option Instr := none

end Sys2Proof
end

