-- ==== Sys2Proof/Config.lean ====
section
/-! DEFINITION. What is fixed for the machine: its capacities, the power-on parameter values and the
two free orders. -/

namespace Sys2Proof.Config

/-- The park buffer holds up to 64 records (R28). -/
def parkCapacity : Nat := 64

/-- The fault log holds up to 32 records (R162). -/
def logCapacity : Nat := 32

/-- The longest body of a frame (R177). -/
def maxBody : Nat := 300

/-- A page is 16 KiB (section 0.6.3, R65). -/
def pageBytes : Nat := 16384

/-- Pinned ways of one set, at most (R11). -/
def maxPins : Nat := 3

/-- FREE VALUE (log entry 5, DESIGN CHOICE). The order in which the time events that fall due at one
microsecond are taken: section 0.6.6 orders no two events of different state. The event at place `i` of the
list of due events is taken by rising rank; the first argument makes each occasion fresh. -/
opaque dueRank : Nat → Nat → Nat

/-- FREE VALUE (log entry 6, DESIGN CHOICE). How the near-port refusals of a soft reset interleave: park records keep
park order (R56), outstanding entries go by ascending bridge tag (R97), each agent's fence follows its other refusals
(R81), and R159 leaves the rest open. -/
opaque resetRank : Nat → Nat → Nat

end Sys2Proof.Config
end

