-- ==== Sys2Proof/Machine/State.lean ====
section
/-! DEFINITION. Every piece of state the spec gives the bridge, as plain data, with its power-on value;
and the reasons a step can stop (there is none). -/

namespace Sys2Proof.Machine

/-! ## Frames -/

/-- A frame as the blocks hand it to a port or take it from one (Table 10-1). The body length field and
the CRC trailer are the port's (R183) and are added when the frame leaves. -/
structure Frame where
  cls  : FrameClass
  kind : BitVec 6
  hdr  : Header
  body : List Byte
  deriving DecidableEq, Repr

/-! ## The translation cache (chapter 1) -/

/-- What an entry does with a request that passes the rights checks (Table 1-2). -/
inductive Action where
  | forward
  | zero
  | guard
  deriving DecidableEq, Repr

/-- Whom an entry serves: every context, or one (Table 1-2). A global entry holds no context. -/
inductive Scope where
  | allContexts
  | context (c : Ctx)
  deriving DecidableEq, Repr

/-- One way of the cache (R2, Table 1-2). -/
structure Entry where
  valid  : Bool
  scope  : Scope
  page   : Page
  node   : NodeId
  ppage  : PhysPage
  action : Action
  read   : Bool
  write  : Bool
  user   : Bool
  pinned : Bool
  deriving DecidableEq, Repr

/-- The fields of a way at power-on (R3). -/
def Entry.initial : Entry :=
  { valid := false, scope := .context 0, page := 0, node := 0, ppage := 0, action := .forward,
    read := false, write := false, user := false, pinned := false }

/-- One set: four ways and their replacement order, front to back (R11). -/
structure CacheSet where
  ways  : Vector Entry 4
  order : List WayId
  deriving DecidableEq, Repr

/-- The replacement order at power-on (Table 1-1). -/
def initialOrder : List WayId := [3, 2, 1, 0]

/-- A set at power-on (R27). -/
def CacheSet.initial : CacheSet :=
  { ways := Vector.replicate 4 Entry.initial, order := initialOrder }

/-! ## The park buffer and the miss table (chapter 2) -/

/-- The privilege of a request (section 0.5). -/
inductive Mode where
  | user
  | supervisor
  deriving DecidableEq, Repr

/-- The access a request needs (Table 1-3). -/
inductive Access where
  | read
  | write
  deriving DecidableEq, Repr

/-- The translation result of a request translated by a FORWARD entry (R10). -/
structure Translation where
  node      : NodeId
  address   : BitVec 36
  isGlobal  : Bool
  deriving DecidableEq, Repr

/-- The three states of a park record (R31). Only a READY record holds a translation result and purge
marks, and only a WAITING one a miss id (Table 2-1). -/
inductive ParkState where
  | waiting (id : MissId)
  | unnoticed
  | ready (result : Translation) (marks : List SlotId)
  deriving DecidableEq, Repr

/-- A park record (R29, Table 2-1). Its park order is its place in `State.park`. -/
structure ParkRecord where
  agent   : Agent
  tag     : NearTag
  kind    : ReqKind
  ctx     : Ctx
  mode    : Mode
  address : BitVec 40
  len     : Nat
  payload : List Byte
  state   : ParkState
  held    : Bool
  deriving DecidableEq, Repr

/-- An active miss entry (R32, Table 2-3). Its waiter list is the WAITING park records that name it. -/
structure Miss where
  ctx      : Ctx
  page     : Page
  access   : Access
  mode     : Mode
  alloc    : Time
  deadline : Time
  interval : BitVec 16
  repeats  : Nat
  sent     : Nat
  next     : Option Time
  deriving DecidableEq, Repr

/-- One id of the miss table: its generation, and its entry while it is active (R32, R33). -/
structure MissSlot where
  gen    : Byte
  active : Option Miss
  deriving DecidableEq, Repr

/-! ## The outstanding table (chapter 4) -/

/-- The state of a non-FREE outstanding entry (R83). -/
inductive Phase where
  | waiting
  | expired
  deriving DecidableEq, Repr

/-- A non-FREE outstanding entry (R83, Table 4-1). -/
structure OutEntry where
  phase    : Phase
  agent    : Agent
  tag      : NearTag
  kind     : ReqKind
  len      : Nat
  ctx      : Ctx
  page     : Page
  isGlobal : Bool
  node     : NodeId
  issue    : Time
  deadline : Time
  marks    : List SlotId
  orphan   : Bool
  held     : Bool
  deriving DecidableEq, Repr

/-! ## The purge list (chapter 5) -/

/-- The patterns of a PURGE (R101, Table 5-1). -/
inductive Pattern where
  | all
  | context (c : Ctx)
  | page (c : Ctx) (p : Page) (globalToo : Bool)
  | allGlobal
  deriving DecidableEq, Repr

/-- A purge slot in use (R105, Table 5-2). Its carrier count is the number of records and entries that
carry its mark. -/
structure PurgeSlot where
  pattern : Pattern
  seq     : Byte
  deriving DecidableEq, Repr

/-! ## The context table and the bridge state (chapter 6) -/

/-- The state of a context; a CLOSING one holds its close sequence number (Table 6-1). -/
inductive CtxState where
  | closed
  | opened
  | closing (seq : Byte)
  deriving DecidableEq, Repr

/-- What the miss table does with a miss of the context (R36). -/
inductive MissPolicy where
  | notice
  | refuse
  deriving DecidableEq, Repr

/-- A context record (R117, Table 6-1). -/
structure CtxRecord where
  state   : CtxState
  policy  : MissPolicy
  supOnly : Bool
  deriving DecidableEq, Repr

/-- The bridge state, with the quiesce sequence number while there is one (R130). -/
inductive BridgeState where
  | running
  | quiescing (seq : Byte)
  | quiesced (seq : Byte)
  deriving DecidableEq, Repr

/-- The reset cause (R135). -/
inductive ResetCause where
  | powerOn
  | soft
  deriving DecidableEq, Repr

/-! ## The management channel (chapter 7) -/

/-- The parameter set (R147, Table 7-4). -/
structure Params where
  missTimeout     : BitVec 16
  noticeInterval  : BitVec 16
  noticeRepeats   : Nat
  responseTimeout : BitVec 16
  faultNotices    : Bool
  deriving DecidableEq, Repr

/-- The power-on parameter values (Table 7-4). -/
def Params.initial : Params :=
  { missTimeout := 2000, noticeInterval := 500, noticeRepeats := 3, responseTimeout := 4000,
    faultNotices := true }

/-- The management channel (R136, Table 7-1). -/
structure Channel where
  manager   : Option NodeId
  expected  : Byte
  stored    : Option Frame
  noticeSeq : Byte
  params    : Params
  deriving DecidableEq, Repr

/-! ## The fault log and the counters (chapter 8) -/

/-- The fourteen fault kinds (R164, Table 8-2). -/
inductive FaultKind where
  | rights
  | guard
  | boundary
  | denied
  | missTimeout
  | responseTimeout
  | targetError
  | lateResponse
  | dupTag
  | postLost
  | foreignMgmt
  | malformed
  | linkDown
  | reset
  deriving DecidableEq, Repr

/-- What a fault record says of its event: the kind, the optional fields and the detail (Table 8-1). -/
structure FaultBody where
  kind   : FaultKind
  agent  : Option Agent := none
  tag    : Option NearTag := none
  ctx    : Option Ctx := none
  page   : Option Page := none
  node   : Option NodeId := none
  port   : Option Port := none
  count  : Option Byte := none
  detail : Byte := 0
  deriving DecidableEq, Repr

/-- A fault record: its append number, its time, and what it says (Table 8-1). -/
structure FaultRecord where
  number : BitVec 16
  time   : Time
  what   : FaultBody
  deriving DecidableEq, Repr

/-- The fault log (R162): the ring, oldest first. -/
structure FaultLog where
  ring        : List FaultRecord
  nextNumber  : BitVec 16
  overwritten : Byte
  deriving DecidableEq, Repr

/-- The ten counters (R170, Table 8-3), in the table's order. -/
structure Counters where
  nearFrames : BitVec 32
  farFrames  : BitVec 32
  nearCrc    : BitVec 32
  farCrc     : BitVec 32
  hits       : BitVec 32
  misses     : BitVec 32
  exhaustion : BitVec 32
  notices    : BitVec 32
  refusals   : BitVec 32
  late       : BitVec 32
  deriving DecidableEq, Repr

/-- Every counter is 0 at power-on (R172). -/
def Counters.zero : Counters :=
  { nearFrames := 0, farFrames := 0, nearCrc := 0, farCrc := 0, hits := 0, misses := 0,
    exhaustion := 0, notices := 0, refusals := 0, late := 0 }

/-! ## The ports (chapter 9) -/

/-- One port: its link state (R175), the frames handed to it and not yet sent (R182), and, as the
model's own record, the bytes of the frames that have left (log entry 14). -/
structure PortState where
  up    : Bool
  queue : List Frame
  sent  : List (List Byte)
  deriving DecidableEq, Repr

/-- A port at power-on: its link is DOWN and it holds nothing (R175). -/
def PortState.initial : PortState := { up := false, queue := [], sent := [] }

/-! ## The whole bridge -/

/-- The state of the bridge. `pending` is the queue of commands that wait, first in first out; `moment`
is the model's own counter behind the free orders (log entries 5 and 6). -/
structure State where
  cache        : Vector CacheSet 64
  park         : List ParkRecord
  misses       : Vector MissSlot 16
  fences       : Vector (Option NearTag) 8
  outs         : Vector (Option OutEntry) 128
  slots        : Vector (Option PurgeSlot) 4
  ctxs         : Vector CtxRecord 16
  bridge       : BridgeState
  cause        : ResetCause
  chan         : Channel
  log          : FaultLog
  ctr          : Counters
  time         : Time
  near         : PortState
  far          : PortState
  node         : NodeId
  managerStrap : NodeId
  powered      : Bool
  moment       : Nat
  pending      : List Instr
  deriving DecidableEq, Repr

/-- The state at the end of a power-on reset with these strap values (R27, R55, R78, R83, R114, R117,
R135, R136, R137, R147, R162, R172, R173, R175, R188, R189). -/
def State.powerOn (nodeStrap managerStrap : NodeId) : State :=
  { cache := Vector.replicate 64 CacheSet.initial
    park := []
    misses := Vector.replicate 16 { gen := 0, active := none }
    fences := Vector.replicate 8 none
    outs := Vector.replicate 128 none
    slots := Vector.replicate 4 none
    ctxs := Vector.replicate 16 { state := .closed, policy := .notice, supOnly := false }
    bridge := .running
    cause := .powerOn
    chan :=
      { manager := if managerStrap = nodeStrap then none else some managerStrap
        expected := 0, stored := none, noticeSeq := 0, params := Params.initial }
    log := { ring := [], nextNumber := 0, overwritten := 0 }
    ctr := Counters.zero
    time := 0
    near := PortState.initial
    far := PortState.initial
    node := nodeStrap
    managerStrap := managerStrap
    powered := true
    moment := 0
    pending := [] }

/-- The machine right after a power-on reset. The straps are unconnected and read as 0 (R188): DESIGN
CHOICE, unsafe, log entry 1. -/
def State.reset : State := State.powerOn 0 0

/-- The reasons for which the machine stops with a fault: none. What the manual calls a fault is a record
of the fault log, and the step that makes it goes on; so this closed type has no constructor. -/
inductive Fault where
  deriving DecidableEq, Repr

/-- The reasons for which a command has no meaning. -/
inductive Refusal where
  /-- Raised by no arm of exec: every command has its meaning. Safe: a refused command claims nothing. -/
  | notModelled (mnemonic : String)
  deriving DecidableEq, Repr

end Sys2Proof.Machine
end

