-- ==== Sys2Proof/Machine/Frames.lean ====
section
/-! DEFINITION. Bytes, frames and records as chapter 10 lays them out: numbers in bytes, the codes of
Tables 10-2 to 10-8, the frame's bytes with its CRC trailer, and the frames the bridge builds. -/

namespace Sys2Proof.Machine

/-! ## Numbers in bytes, most significant byte first (chapter 10) -/

/-- The number a list of bytes spells, most significant byte first. -/
def beNat (bytes : List Byte) : Nat := bytes.foldl (fun n b => n * 256 + b.toNat) 0

/-- `n` bytes spelling `v` modulo 256^n, most significant byte first. -/
def beBytes : Nat → Nat → List Byte
  | 0, _ => []
  | n + 1, v => BitVec.ofNat 8 (v / 256 ^ n) :: beBytes n v

/-- A small number as one byte. -/
def byteOf (n : Nat) : Byte := BitVec.ofNat 8 n

/-- A yes/no field as one byte (section 10.4). -/
def flagByte (b : Bool) : Byte := if b then 1 else 0

/-- The node or agent field of a header byte: bits 5 to 0; bits 7 and 6 are not examined (R190). -/
def nodeField (b : Byte) : NodeId := ⟨b.toNat % 64, Nat.mod_lt _ (by decide)⟩

/-- A number below `k` as the numbered thing it names, or nothing when out of range. -/
def inRange (k : Nat) (n : Nat) : Option (Fin k) := if h : n < k then some ⟨n, h⟩ else none

/-! ## Codes -/

/-- Class codes (Table 10-1). -/
def classCode : FrameClass → Nat
  | .request => 0
  | .response => 1
  | .mgmt => 2
  | .fourth => 3

/-- The class a code names (Table 10-1). -/
def classOf (code : Nat) : FrameClass :=
  if code = 0 then .request else if code = 1 then .response else if code = 2 then .mgmt else .fourth

/-- Request kind codes (Table 10-2). -/
def reqCode : ReqKind → BitVec 6
  | .read => 1
  | .write => 2
  | .post => 3

/-- The kind code of FENCE (Table 10-2). -/
def fenceCode : BitVec 6 := 4

/-- Response kind codes (Table 10-2). -/
def dataCode : BitVec 6 := 1
def doneCode : BitVec 6 := 2
def refuseCode : BitVec 6 := 3

/-- The seventeen management commands (Table 7-3). -/
inductive Command where
  | fill | deny | pin | readEntry | purge | openContext | closeContext | quiesce | resume
  | setParam | getParam | readStatus | readCounters | readFaults | clearFaults | handover | resetBridge
  deriving DecidableEq, Repr

/-- Command kind codes (Table 10-2). -/
def commandCode : Command → BitVec 6
  | .fill => 1
  | .deny => 2
  | .pin => 3
  | .readEntry => 4
  | .purge => 5
  | .openContext => 6
  | .closeContext => 7
  | .quiesce => 8
  | .resume => 9
  | .setParam => 10
  | .getParam => 11
  | .readStatus => 12
  | .readCounters => 13
  | .readFaults => 14
  | .clearFaults => 15
  | .handover => 16
  | .resetBridge => 17

/-- The command a MGMT kind code names, if any (Table 10-2, R145). -/
def commandOf (kind : BitVec 6) : Option Command :=
  match kind.toNat with
  | 1 => some .fill
  | 2 => some .deny
  | 3 => some .pin
  | 4 => some .readEntry
  | 5 => some .purge
  | 6 => some .openContext
  | 7 => some .closeContext
  | 8 => some .quiesce
  | 9 => some .resume
  | 10 => some .setParam
  | 11 => some .getParam
  | 12 => some .readStatus
  | 13 => some .readCounters
  | 14 => some .readFaults
  | 15 => some .clearFaults
  | 16 => some .handover
  | 17 => some .resetBridge
  | _ => none

/-- Reply kind codes (Table 10-2). -/
def ackCode : BitVec 6 := 32
def nakCode : BitVec 6 := 33
def entryCode : BitVec 6 := 34
def paramCode : BitVec 6 := 35
def statusCode : BitVec 6 := 36
def countersCode : BitVec 6 := 37
def faultsCode : BitVec 6 := 38

/-- Notice kind codes (Table 10-2). -/
def missNoticeCode : BitVec 6 := 48
def faultNoticeCode : BitVec 6 := 49
def purgeDoneCode : BitVec 6 := 50
def closeDoneCode : BitVec 6 := 51
def quiescedCode : BitVec 6 := 52

/-- The reasons of a REFUSE (Table 10-4). -/
inductive Reason where
  | busy | noContext | noTranslation | missTimeout | responseTimeout | rights | guard | boundary
  | aborted | target | link | malformed | notTarget
  deriving DecidableEq, Repr

/-- Reason codes (Table 10-4). -/
def reasonCode : Reason → Byte
  | .busy => 1
  | .noContext => 2
  | .noTranslation => 3
  | .missTimeout => 4
  | .responseTimeout => 5
  | .rights => 6
  | .guard => 7
  | .boundary => 8
  | .aborted => 9
  | .target => 10
  | .link => 11
  | .malformed => 12
  | .notTarget => 13

/-- The NAK codes (Table 7-3a, section 10.4). -/
inductive NakCode where
  | seq | range | state | duplicate | pinnedFull | busy | unknown
  deriving DecidableEq, Repr

/-- NAK code bytes (section 10.4). -/
def nakByte : NakCode → Byte
  | .seq => 1
  | .range => 2
  | .state => 3
  | .duplicate => 4
  | .pinnedFull => 5
  | .busy => 6
  | .unknown => 7

/-- Fault kind codes (Table 10-8). -/
def faultKindCode : FaultKind → Byte
  | .rights => 1
  | .guard => 2
  | .boundary => 3
  | .denied => 4
  | .missTimeout => 5
  | .responseTimeout => 6
  | .targetError => 7
  | .lateResponse => 8
  | .dupTag => 9
  | .postLost => 10
  | .foreignMgmt => 11
  | .malformed => 12
  | .linkDown => 13
  | .reset => 14

/-- Mode bytes (Table 10-3). -/
def modeByte : Mode → Byte
  | .user => 0
  | .supervisor => 1

/-- Action codes (Table 10-5). -/
def actionCode : Action → Nat
  | .forward => 0
  | .zero => 1
  | .guard => 2

/-- Bridge state codes (section 10.4). -/
def bridgeByte : BridgeState → Byte
  | .running => 0
  | .quiescing _ => 1
  | .quiesced _ => 2

/-- Context state codes (Table 10-6a). -/
def ctxByte : CtxState → Byte
  | .closed => 0
  | .opened => 1
  | .closing _ => 2

/-- First access codes of a miss notice (Table 10-7). -/
def firstAccessByte : Access → Mode → Byte
  | .read, .user => 0
  | .read, .supervisor => 1
  | .write, .user => 2
  | .write, .supervisor => 3

/-! ## The CRC and the bytes of a frame (R178, R194, Table 10-1) -/

/-- One bit entering the CRC register (R194). -/
def crcBit (reg : BitVec 16) (bit : Bool) : BitVec 16 :=
  if reg.msb != bit then (reg <<< 1) ^^^ 0x1021#16 else reg <<< 1

/-- One byte entering the CRC register, most significant bit first (R194). -/
def crcByte (reg : BitVec 16) (b : Byte) : BitVec 16 :=
  (List.range 8).foldl (fun r i => crcBit r (b.getLsbD (7 - i))) reg

/-- The CRC of a list of bytes: the register starts at FFFFh and is not inverted (R178, R194). -/
def crc16 (bytes : List Byte) : BitVec 16 := bytes.foldl crcByte 0xFFFF#16

/-- Byte 0 of a header: class and kind (Table 10-1). -/
def classKindByte (cls : FrameClass) (kind : BitVec 6) : Byte := byteOf (classCode cls * 64 + kind.toNat)

/-- The header and body bytes of a frame, with its body length field set (R183). -/
def frameHead (f : Frame) : List Byte :=
  [classKindByte f.cls f.kind, f.hdr.dst, f.hdr.src, f.hdr.tag] ++ beBytes 2 f.body.length
    ++ [f.hdr.seq, f.hdr.last] ++ f.body

/-- A frame as its port sends it: header, body and CRC trailer, high byte first (R183, R194). -/
def frameBytes (f : Frame) : List Byte := frameHead f ++ beBytes 2 (crc16 (frameHead f)).toNat

/-- What a port makes of the bytes it received (R177): the length test, then the CRC; a frame that
passes both is taken. -/
def parseFrame (bytes : List Byte) : Option Frame :=
  match bytes with
  | b0 :: dst :: src :: tag :: l1 :: l0 :: seq :: last :: rest =>
    let n := beNat [l1, l0]
    if n ≤ Config.maxBody ∧ rest.length = n + 2 then
      let body := rest.take n
      let head := b0 :: dst :: src :: tag :: l1 :: l0 :: seq :: last :: body
      if rest.drop n = beBytes 2 (crc16 head).toNat then
        some { cls := classOf (b0.toNat / 64), kind := BitVec.ofNat 6 (b0.toNat % 64)
               hdr := { dst := dst, src := src, tag := tag, seq := seq, last := last }, body := body }
      else none
    else none
  | _ => none

/-! ## Records -/

/-- The flags byte of a translation entry record (Table 10-5). -/
def entryFlags (e : Entry) : Byte :=
  byteOf ((if e.valid then 128 else 0) + (if e.scope = .allContexts then 64 else 0)
    + (if e.pinned then 32 else 0) + actionCode e.action * 8 + (if e.read then 4 else 0)
    + (if e.write then 2 else 0) + (if e.user then 1 else 0))

/-- The context byte of an entry record: 0 for a global entry (R3, R26). -/
def scopeByte : Scope → Byte
  | .allContexts => 0
  | .context c => byteOf c.val

/-- A translation entry record, 10 bytes (Table 10-5). -/
def entryBytes (e : Entry) : List Byte :=
  [entryFlags e, scopeByte e.scope] ++ beBytes 4 e.page.toNat ++ [byteOf e.node.val]
    ++ beBytes 3 e.ppage.toNat

/-- An optional one-byte field of a fault record: all ones when absent (R193). -/
def optByte (x : Option Nat) : Byte :=
  match x with
  | some n => byteOf n
  | none => 0xFF#8

/-- The port byte of a fault record (Table 10-8). -/
def portCode : Port → Nat
  | .near => 0
  | .far => 1

/-- The presence byte of a fault record (Table 10-8, R193). -/
def presenceByte (w : FaultBody) : Byte :=
  byteOf ((if w.agent.isSome then 64 else 0) + (if w.tag.isSome then 32 else 0)
    + (if w.ctx.isSome then 16 else 0) + (if w.page.isSome then 8 else 0)
    + (if w.node.isSome then 4 else 0) + (if w.port.isSome then 2 else 0)
    + (if w.count.isSome then 1 else 0))

/-- A fault record as carried, 19 bytes (Table 10-8, R193). -/
def faultBytes (r : FaultRecord) : List Byte :=
  beBytes 2 r.number.toNat ++ beBytes 4 r.time.toNat
    ++ [faultKindCode r.what.kind, presenceByte r.what, optByte (r.what.agent.map Fin.val),
        optByte (r.what.tag.map Fin.val), optByte (r.what.ctx.map Fin.val)]
    ++ (match r.what.page with
        | some p => beBytes 4 p.toNat
        | none => [0xFF#8, 0xFF#8, 0xFF#8, 0xFF#8])
    ++ [optByte (r.what.node.map Fin.val), optByte (r.what.port.map portCode),
        optByte (r.what.count.map BitVec.toNat), r.what.detail]

/-- A COUNTERS body, 40 bytes (section 10.4). -/
def counterBytes (c : Counters) : List Byte :=
  [c.nearFrames, c.farFrames, c.nearCrc, c.farCrc, c.hits, c.misses, c.exhaustion, c.notices,
    c.refusals, c.late].flatMap fun v => beBytes 4 v.toNat

/-! ## The frames the bridge builds -/

/-- The header of a frame the bridge sends: source the bridge's node id, last byte 0 (R183). -/
def headerFrom (node : NodeId) (dst : Nat) (tag seq : Byte) : Header :=
  { dst := byteOf dst, src := byteOf node.val, tag := tag, seq := seq, last := 0 }

/-- An answer to a near request (R77). -/
inductive Answer where
  | data (payload : List Byte)
  | done
  | refuse (reason : Reason) (detail : Byte)
  deriving DecidableEq, Repr

/-- The RESPONSE kind of an answer (R77). -/
def Answer.kind : Answer → BitVec 6
  | .data _ => dataCode
  | .done => doneCode
  | .refuse _ _ => refuseCode

/-- The body of an answer (R77, section 10.2). -/
def Answer.body : Answer → List Byte
  | .data payload => payload
  | .done => []
  | .refuse reason detail => [reasonCode reason, detail]

/-- The RESPONSE frame of an answer, to an agent under its near tag (R77). -/
def answerFrame (node : NodeId) (agent : Agent) (tag : NearTag) (a : Answer) : Frame :=
  { cls := .response, kind := a.kind, hdr := headerFrom node agent.val (byteOf tag.val) 0,
    body := a.body }

/-- The far REFUSE NOT-TARGET answer to a stray REQUEST (R99). -/
def notTargetFrame (node : NodeId) (h : Header) : Frame :=
  { cls := .response, kind := refuseCode, hdr := headerFrom node (nodeField h.src).val h.tag 0,
    body := [reasonCode .notTarget, 0] }

/-- The far REQUEST frame of a translated request (R74): context 0, the physical address in the low 36
bits, under a bridge tag. -/
def requestFrame (node : NodeId) (kind : ReqKind) (mode : Mode) (len : Nat) (payload : List Byte)
    (result : Translation) (tag : Byte) : Frame :=
  { cls := .request, kind := reqCode kind, hdr := headerFrom node result.node.val tag 0,
    body := [0, modeByte mode] ++ beBytes 5 result.address.toNat ++ [byteOf (len - 1)]
      ++ (if kind = .read then [] else payload) }

/-- A reply frame to a command (R146). -/
def replyFrame (node : NodeId) (command : Frame) (kind : BitVec 6) (body : List Byte) : Frame :=
  { cls := .mgmt, kind := kind,
    hdr := headerFrom node (nodeField command.hdr.src).val command.hdr.tag command.hdr.seq, body := body }

/-- The code of the command kind answered, as ACK and NAK bodies carry it (section 10.4). -/
def kindByte (command : Frame) : Byte := byteOf command.kind.toNat

/-- A NAK body (section 10.4). -/
def nakBody (command : Frame) (code : NakCode) (detail : Byte) : List Byte :=
  [kindByte command, nakByte code, detail]

/-- A notice frame to the manager, carrying a notice number (R153). -/
def noticeFrame (node manager : NodeId) (number : Byte) (kind : BitVec 6) (body : List Byte) : Frame :=
  { cls := .mgmt, kind := kind, hdr := headerFrom node manager.val 0 number, body := body }

end Sys2Proof.Machine
end

