-- ==== Sys2Proof/Machine/Flags.lean ====
section
/-! DEFINITION. The yes/no judgments the rules make of the state: time comparison, matching, rights,
waiting lists, in-flight identities, carriers and the drain condition. -/

namespace Sys2Proof.Machine

/-! ## Time (R174) -/

/-- One time stands before another: the forward span is more than 0 and less than 2^31 (R174). -/
def timeBefore (a b : Time) : Bool := 0 < (b - a).toNat && (b - a).toNat < 2147483648

/-- A held deadline has been reached at the present time (R174). -/
def reached (deadline now : Time) : Bool := deadline == now || timeBefore deadline now

/-! ## Pages and requests -/

/-- The set index of a logical page (R1). -/
def setOf (page : Page) : SetId := ⟨page.toNat % 64, Nat.mod_lt _ (by decide)⟩

/-- The logical page of a 40-bit address: its high 26 bits (section 0.6.3). -/
def pageOf (address : BitVec 40) : Page := address.extractLsb' 14 26

/-- The offset within the page: the low 14 bits (section 0.6.3). -/
def offsetOf (address : BitVec 40) : BitVec 14 := address.extractLsb' 0 14

/-- A request lies within one page (R65). -/
def withinPage (address : BitVec 40) (len : Nat) : Bool :=
  (offsetOf address).toNat + len ≤ Config.pageBytes

/-- The access kind of a request (Table 1-3). -/
def accessOf : ReqKind → Access
  | .read => .read
  | .write => .write
  | .post => .write

/-! ## Cache entries (R4, R7, R8, R20) -/

/-- The global flag of an entry (Table 1-2). -/
def Entry.isGlobal (e : Entry) : Bool := e.scope == .allContexts

/-- The entry's scope takes in context `c` (R4). -/
def Scope.covers : Scope → Ctx → Bool
  | .allContexts, _ => true
  | .context d, c => d == c

/-- A valid entry matches (c, p) (R4). -/
def Entry.matchesPair (e : Entry) (c : Ctx) (p : Page) : Bool := e.valid && e.scope.covers c && e.page == p

/-- Some context falls under both scopes (Table 1-5). -/
def Scope.overlaps : Scope → Scope → Bool
  | .context c, .context d => c == d
  | _, _ => true

/-- Another valid entry would match some (c, p) that the new one matches (R20, Table 1-5). -/
def Entry.conflicts (other new : Entry) : Bool :=
  other.valid && other.page == new.page && other.scope.overlaps new.scope

/-- A valid entry with the identical key (R19). -/
def Entry.sameKey (e new : Entry) : Bool := e.valid && e.scope == new.scope && e.page == new.page

/-- The way of a set that matches (c, p), if any (R5). -/
def CacheSet.lookup (t : CacheSet) (c : Ctx) (p : Page) : Option WayId :=
  (List.finRange 4).find? fun w => t.ways[w].matchesPair c p

/-- The number of pinned ways of a set other than one way (R21, R25). -/
def CacheSet.pinsBut (t : CacheSet) (w : WayId) : Nat :=
  (List.finRange 4).countP fun v => v != w && t.ways[v].pinned

/-- The victim of a set (R14): the invalid way nearest the back of the order, else the unpinned way nearest
the back. (With four valid pinned ways, which R11 rules out, the way at the back; log entry 13.) -/
def CacheSet.victim (t : CacheSet) : WayId :=
  match t.order.reverse.find? fun w => !t.ways[w].valid with
  | some w => w
  | none =>
    match t.order.reverse.find? fun w => !t.ways[w].pinned with
    | some w => w
    | none => t.order.getLastD 0

/-- The position of a way in its set's replacement order (R26). -/
def CacheSet.position (t : CacheSet) (w : WayId) : Nat := t.order.idxOf w

/-- The outcome of the entry check (R7, R8). -/
inductive Verdict where
  | refuse (reason : Reason) (kind : FaultKind) (detail : Byte)
  | zero
  | forward
  deriving DecidableEq, Repr

/-- The entry grants the access a request needs (Table 1-3). -/
def Entry.grants (e : Entry) : Access → Bool
  | .read => e.read
  | .write => e.write

/-- The entry check: user, then access, then the action (R7, R8). -/
def entryCheck (e : Entry) (kind : ReqKind) (mode : Mode) : Verdict :=
  if mode = .user ∧ e.user = false then .refuse .rights .rights 1
  else if e.grants (accessOf kind) = false then .refuse .rights .rights 2
  else match e.action with
    | .guard => .refuse .guard .guard 0
    | .zero => .zero
    | .forward => .forward

/-- The translation result (R10): the entry's target node, its physical page with the request's offset, and
its global flag. -/
def translate (e : Entry) (address : BitVec 40) : Translation :=
  { node := e.node, address := e.ppage ++ offsetOf address, isGlobal := e.isGlobal }

/-! ## Park records, waiter lists and misses -/

/-- The logical page of a park record (Table 2-1). -/
def ParkRecord.page (r : ParkRecord) : Page := pageOf r.address

/-- The record is READY (R31). -/
def ParkRecord.isReady (r : ParkRecord) : Bool :=
  match r.state with
  | .ready _ _ => true
  | _ => false

/-- The record is UNNOTICED (R31). -/
def ParkRecord.isUnnoticed (r : ParkRecord) : Bool := r.state == .unnoticed

/-- The record is WAITING on a miss id (R31, R34). -/
def ParkRecord.waitsOn (r : ParkRecord) (id : MissId) : Bool := r.state == .waiting id

/-- The record is WAITING (R31). -/
def ParkRecord.isWaiting (r : ParkRecord) : Bool :=
  match r.state with
  | .waiting _ => true
  | _ => false

/-- The purge marks of a record: only READY records carry any (R107). -/
def ParkRecord.marks (r : ParkRecord) : List SlotId :=
  match r.state with
  | .ready _ ms => ms
  | _ => []

/-- The record has this (context, page). -/
def ParkRecord.onPair (r : ParkRecord) (c : Ctx) (p : Page) : Bool := r.ctx == c && r.page == p

/-- The miss has this (context, page). -/
def Miss.onPair (m : Miss) (c : Ctx) (p : Page) : Bool := m.ctx == c && m.page == p

/-- The waiter list of a miss id, in park order (R34). -/
def State.waiters (s : State) (id : MissId) : List ParkRecord := s.park.filter fun r => r.waitsOn id

/-- The active miss id with this (context, page), if any (R35, R38). -/
def State.missFor (s : State) (c : Ctx) (p : Page) : Option MissId :=
  (List.finRange 16).find? fun id => s.misses[id].active.any fun m => m.onPair c p

/-- The lowest free miss id (R40). -/
def State.freeMissId (s : State) : Option MissId :=
  (List.finRange 16).find? fun id => s.misses[id].active.isNone

/-- The time of copy `k` of a miss's notice (R43). -/
def Miss.copyTime (m : Miss) (k : Nat) : Time := m.alloc + BitVec.ofNat 32 (k * m.interval.toNat)

/-- The time of the copy after copy `k`, if one remains before the deadline (R43). -/
def Miss.nextCopy (m : Miss) (k : Nat) : Option Time :=
  if k + 1 ≤ m.repeats ∧ timeBefore (m.copyTime (k + 1)) m.deadline = true then some (m.copyTime (k + 1))
  else none

/-! ## Identities in flight (R62) -/

/-- An outstanding entry that is WAITING and not an orphan (R62, R79, R85). -/
def OutEntry.live (o : OutEntry) : Bool := o.phase == .waiting && !o.orphan

/-- An (agent, near tag) is in flight (R62). -/
def State.inFlight (s : State) (a : Agent) (t : NearTag) : Bool :=
  s.park.any (fun r => r.agent == a && r.tag == t)
    || s.outs.toList.any (fun o => o.any fun e => e.live && e.agent == a && e.tag == t)
    || s.fences[a] == some t

/-- Something of the agent is in flight, its fence apart (R79). -/
def State.busyAgent (s : State) (a : Agent) : Bool :=
  s.park.any (fun r => r.agent == a) || s.outs.toList.any (fun o => o.any fun e => e.live && e.agent == a)

/-- Some record or entry of the agent is fence-held (R80). -/
def State.heldBy (s : State) (a : Agent) : Bool :=
  s.park.any (fun r => r.held && r.agent == a)
    || s.outs.toList.any (fun o => o.any fun e => e.held && e.agent == a)

/-! ## The outstanding table -/

/-- The lowest FREE outstanding entry (R84). -/
def State.freeTag (s : State) : Option BridgeTag := (List.finRange 128).find? fun t => s.outs[t].isNone

/-- The number of outstanding entries in a phase (R100). -/
def State.countPhase (s : State) (ph : Phase) : Nat := s.outs.toList.countP fun o => o.any fun e => e.phase == ph

/-- A READY record exists: the ready list is not empty (R72). -/
def State.readyExists (s : State) : Bool := s.park.any ParkRecord.isReady

/-! ## Purge patterns and carriers (chapter 5) -/

/-- The pattern names a recorded translation (Table 5-1). -/
def Pattern.namesWork (pat : Pattern) (c : Ctx) (p : Page) (isGlobal : Bool) : Bool :=
  match pat with
  | .all => true
  | .context d => !isGlobal && c == d
  | .page d q globalToo => (!isGlobal && c == d && p == q) || (globalToo && isGlobal && p == q)
  | .allGlobal => isGlobal

/-- The pattern names a cache entry (Table 5-1). -/
def Pattern.namesEntry (pat : Pattern) (e : Entry) : Bool :=
  e.valid &&
  match pat with
  | .all => true
  | .context d => e.scope == .context d
  | .page d q globalToo => e.page == q && (e.scope == .context d || (globalToo && e.isGlobal))
  | .allGlobal => e.isGlobal

/-- The carrier count of a slot: the READY records and WAITING entries that carry its mark (R105). -/
def State.carriers (s : State) (k : SlotId) : Nat :=
  s.park.countP (fun r => r.marks.contains k)
    + s.outs.toList.countP (fun o => o.any fun e => e.phase == .waiting && e.marks.contains k)

/-- The lowest free purge slot (R105). -/
def State.freeSlot (s : State) : Option SlotId := (List.finRange 4).find? fun k => s.slots[k].isNone

/-! ## Contexts and the drain -/

/-- The context is OPEN (R118). -/
def State.isOpen (s : State) (c : Ctx) : Bool := s.ctxs[c].state == .opened

/-- Some WAITING outstanding entry, orphans included, belongs to the context (R126). -/
def State.ctxWaits (s : State) (c : Ctx) : Bool :=
  s.outs.toList.any fun o => o.any fun e => e.phase == .waiting && e.ctx == c

/-- The drain condition (R132). -/
def State.drained (s : State) : Bool :=
  s.park.isEmpty && s.misses.toList.all (fun m => m.active.isNone) && s.countPhase .waiting == 0
    && s.fences.toList.all (fun f => f.isNone)

end Sys2Proof.Machine
end

