-- ==== Sys2Proof/Machine/Operands.lean ====
section
/-! DEFINITION. The operands that a frame's header and body carry: the identity of a near request, its
body, and the body of each management command. A command body that has the wrong length or a
value outside its codes decodes to nothing (R145, R192). -/

namespace Sys2Proof.Machine

/-! ## Near requests (R60, R61, R191) -/

/-- The agent a near frame's source field names, when it is in range (R60). -/
def agentOf (h : Header) : Option Agent := inRange 8 (nodeField h.src).val

/-- The near tag of a near frame, when it is in range (R60). -/
def nearTagOf (h : Header) : Option NearTag := inRange 64 h.tag.toNat

/-- A well-formed near request: its identity and its body (Table 10-3). -/
structure Request where
  agent   : Agent
  tag     : NearTag
  kind    : ReqKind
  ctx     : Ctx
  mode    : Mode
  address : BitVec 40
  len     : Nat
  payload : List Byte
  deriving DecidableEq, Repr

/-- The logical page of a request. -/
def Request.page (r : Request) : Page := pageOf r.address

/-- The judgment of a request body (R61): its fields, or the first inconsistency, with the context that a
MALFORMED record then carries. -/
inductive BodyJudgment where
  | good (r : Request)
  | malformed (detail : Byte) (ctx : Option Ctx)
  deriving DecidableEq, Repr

/-- The context a MALFORMED record carries: that of the body's first byte, where there is one and it is in
range (R61). -/
def bodyCtx (body : List Byte) : Option Ctx :=
  match body with
  | [] => none
  | c :: _ => inRange 16 c.toNat

/-- The mode a byte names (Table 10-3). -/
def modeOf (b : Byte) : Option Mode :=
  if b = 0 then some .user else if b = 1 then some .supervisor else none

/-- The length byte holds the length less one (Table 10-3). -/
def lengthOf (b : Byte) : Nat := b.toNat + 1

/-- A READ body is the fixed part alone; a WRITE or POST body is the fixed part plus its length field
(R61). -/
def payloadFits (kind : ReqKind) (len : Nat) (payload : List Byte) : Bool :=
  match kind with
  | .read => payload.isEmpty
  | .write => payload.length == len
  | .post => payload.length == len

/-- The body of a READ, WRITE or POST against its kind: length, then context, then mode (R61). -/
def judgeBody (kind : ReqKind) (agent : Agent) (tag : NearTag) (body : List Byte) : BodyJudgment :=
  match body with
  | c :: m :: a4 :: a3 :: a2 :: a1 :: a0 :: l :: payload =>
    if payloadFits kind (lengthOf l) payload then
      match inRange 16 c.toNat, modeOf m with
      | none, _ => .malformed 2 none
      | some ctx, none => .malformed 3 (some ctx)
      | some ctx, some mode =>
        .good { agent := agent, tag := tag, kind := kind, ctx := ctx, mode := mode,
                address := BitVec.ofNat 40 (beNat [a4, a3, a2, a1, a0]), len := lengthOf l,
                payload := payload }
    else .malformed 1 (bodyCtx body)
  | _ => .malformed 1 (bodyCtx body)

/-! ## Management command bodies (Table 10-6, R192) -/

/-- A flag byte: 0 or 1 (R192). -/
def flagOf (b : Byte) : Option Bool := if b = 0 then some false else if b = 1 then some true else none

/-- A logical page in four bytes, at most 67,108,863 (R192). -/
def pageOfBytes (bytes : List Byte) : Option Page :=
  if beNat bytes < 2 ^ 26 then some (BitVec.ofNat 26 (beNat bytes)) else none

/-- A physical page in three bytes, at most 4,194,303 (R192). -/
def physPageOfBytes (bytes : List Byte) : Option PhysPage :=
  if beNat bytes < 2 ^ 22 then some (BitVec.ofNat 22 (beNat bytes)) else none

/-- The action of a flags byte, bits 4 and 3: code 3 names none (Table 10-5). -/
def actionOf (flags : Byte) : Option Action :=
  match flags.toNat / 8 % 4 with
  | 0 => some .forward
  | 1 => some .zero
  | 2 => some .guard
  | _ => none

/-- The scope of an entry record: the context byte of a global record is not examined (R17). -/
def scopeOf (flags ctx : Byte) : Option Scope :=
  if flags.getLsbD 6 then some .allContexts else (inRange 16 ctx.toNat).map .context

/-- A translation entry record as FILL carries it, the valid bit set and every field in range (R17,
Table 10-5). -/
def entryOfBytes (flags ctx p3 p2 p1 p0 node q2 q1 q0 : Byte) : Option Entry :=
  if flags.getLsbD 7 then
    match actionOf flags, scopeOf flags ctx, pageOfBytes [p3, p2, p1, p0], inRange 64 node.toNat,
        physPageOfBytes [q2, q1, q0] with
    | some action, some scope, some page, some node, some ppage =>
      some { valid := true, scope := scope, page := page, node := node, ppage := ppage,
             action := action, read := flags.getLsbD 2, write := flags.getLsbD 1,
             user := flags.getLsbD 0, pinned := flags.getLsbD 5 }
    | _, _, _, _, _ => none
  else none

/-- The way of a FILL: AUTO or a given way (R17, Table 10-6). -/
inductive WayChoice where
  | auto
  | explicit (w : WayId)
  deriving DecidableEq, Repr

/-- The way byte of a FILL: 0 to 3, or 4 for AUTO (Table 10-6). -/
def wayChoiceOf (b : Byte) : Option WayChoice :=
  if b = 4 then some .auto else (inRange 4 b.toNat).map .explicit

/-- A ticket: a miss id and a generation (R33). -/
structure Ticket where
  id  : MissId
  gen : Byte
  deriving DecidableEq, Repr

/-- The ticket of a FILL: id 0 to 15, or 255 for no ticket (Table 10-6). The outer option is the range
check, the inner one the ticket's presence. -/
def fillTicketOf (id gen : Byte) : Option (Option Ticket) :=
  if id = 255 then some none else (inRange 16 id.toNat).map fun i => some { id := i, gen := gen }

/-- The arguments of a FILL. -/
structure FillArgs where
  entry  : Entry
  way    : WayChoice
  ticket : Option Ticket
  deriving DecidableEq, Repr

/-- FILL, 13 bytes (R17). -/
def fillArgs (body : List Byte) : Option FillArgs :=
  match body with
  | [flags, ctx, p3, p2, p1, p0, node, q2, q1, q0, way, id, gen] =>
    match entryOfBytes flags ctx p3 p2 p1 p0 node q2 q1 q0, wayChoiceOf way, fillTicketOf id gen with
    | some e, some w, some t => some { entry := e, way := w, ticket := t }
    | _, _, _ => none
  | _ => none

/-- DENY, 3 bytes: a ticket and a detail byte (R51). -/
def denyArgs (body : List Byte) : Option (Ticket × Byte) :=
  match body with
  | [id, gen, detail] => (inRange 16 id.toNat).map fun i => ({ id := i, gen := gen }, detail)
  | _ => none

/-- PIN, 3 bytes: set, way and setting (R25). -/
def pinArgs (body : List Byte) : Option (SetId × WayId × Bool) :=
  match body with
  | [set, way, setting] =>
    match inRange 64 set.toNat, inRange 4 way.toNat, flagOf setting with
    | some t, some w, some on => some (t, w, on)
    | _, _, _ => none
  | _ => none

/-- READ-ENTRY, 2 bytes: set and way (R26). -/
def readEntryArgs (body : List Byte) : Option (SetId × WayId) :=
  match body with
  | [set, way] =>
    match inRange 64 set.toNat, inRange 4 way.toNat with
    | some t, some w => some (t, w)
    | _, _ => none
  | _ => none

/-- The pattern of a PURGE: only the fields its form uses are examined (R102, R192). -/
def patternOf (code globalToo ctx : Byte) (page : List Byte) : Option Pattern :=
  match code.toNat with
  | 0 => some .all
  | 1 => (inRange 16 ctx.toNat).map .context
  | 2 =>
    match inRange 16 ctx.toNat, pageOfBytes page, flagOf globalToo with
    | some c, some p, some g => some (.page c p g)
    | _, _, _ => none
  | 3 => some .allGlobal
  | _ => none

/-- PURGE, 8 bytes: pattern and include-pinned (R102). -/
def purgeArgs (body : List Byte) : Option (Pattern × Bool) :=
  match body with
  | [code, includePinned, globalToo, ctx, p3, p2, p1, p0] =>
    match patternOf code globalToo ctx [p3, p2, p1, p0], flagOf includePinned with
    | some pat, some inc => some (pat, inc)
    | _, _ => none
  | _ => none

/-- OPEN-CONTEXT, 3 bytes: context, miss policy, supervisor-only (R119). -/
def openArgs (body : List Byte) : Option (Ctx × MissPolicy × Bool) :=
  match body with
  | [ctx, policy, supOnly] =>
    match inRange 16 ctx.toNat, flagOf policy, flagOf supOnly with
    | some c, some refuses, some so => some (c, (if refuses then .refuse else .notice), so)
    | _, _, _ => none
  | _ => none

/-- CLOSE-CONTEXT, 1 byte (R121). -/
def closeArgs (body : List Byte) : Option Ctx :=
  match body with
  | [ctx] => inRange 16 ctx.toNat
  | _ => none

/-- The five parameters (Table 7-4). -/
inductive Param where
  | missTimeout | noticeInterval | noticeRepeats | responseTimeout | faultNotices
  deriving DecidableEq, Repr

/-- The parameter a code names (Table 10-6). -/
def paramOf (b : Byte) : Option Param :=
  match b.toNat with
  | 1 => some .missTimeout
  | 2 => some .noticeInterval
  | 3 => some .noticeRepeats
  | 4 => some .responseTimeout
  | 5 => some .faultNotices
  | _ => none

/-- The code of a parameter (Table 10-6). -/
def paramByte : Param → Byte
  | .missTimeout => 1
  | .noticeInterval => 2
  | .noticeRepeats => 3
  | .responseTimeout => 4
  | .faultNotices => 5

/-- A value lies in a parameter's own range (R147, Table 7-4); values have 16 bits. -/
def paramInRange (p : Param) (v : BitVec 16) : Bool :=
  match p with
  | .missTimeout => 200 ≤ v.toNat
  | .noticeInterval => 50 ≤ v.toNat
  | .noticeRepeats => v.toNat ≤ 7
  | .responseTimeout => 100 ≤ v.toNat
  | .faultNotices => v.toNat ≤ 1

/-- The value in force of a parameter (R150). -/
def Params.value (ps : Params) : Param → BitVec 16
  | .missTimeout => ps.missTimeout
  | .noticeInterval => ps.noticeInterval
  | .noticeRepeats => BitVec.ofNat 16 ps.noticeRepeats
  | .responseTimeout => ps.responseTimeout
  | .faultNotices => if ps.faultNotices then 1 else 0

/-- The parameter set with one parameter set (R149). -/
def Params.assign (ps : Params) (p : Param) (v : BitVec 16) : Params :=
  match p with
  | .missTimeout => { ps with missTimeout := v }
  | .noticeInterval => { ps with noticeInterval := v }
  | .noticeRepeats => { ps with noticeRepeats := v.toNat }
  | .responseTimeout => { ps with responseTimeout := v }
  | .faultNotices => { ps with faultNotices := v == 1 }

/-- SET-PARAM, 3 bytes: parameter and value, in range (R149). -/
def setParamArgs (body : List Byte) : Option (Param × BitVec 16) :=
  match body with
  | [name, hi, lo] =>
    match paramOf name with
    | some p => if paramInRange p (hi ++ lo) then some (p, hi ++ lo) else none
    | none => none
  | _ => none

/-- GET-PARAM, 1 byte (R150). -/
def getParamArgs (body : List Byte) : Option Param :=
  match body with
  | [name] => paramOf name
  | _ => none

/-- READ-COUNTERS, 1 byte: the clear flag (R172). -/
def readCountersArgs (body : List Byte) : Option Bool :=
  match body with
  | [clear] => flagOf clear
  | _ => none

/-- READ-FAULTS, 2 bytes: start offset 0 to 31 and count 1 to 8 (R167). -/
def readFaultsArgs (body : List Byte) : Option (Nat × Nat) :=
  match body with
  | [start, count] =>
    if start.toNat ≤ 31 ∧ 1 ≤ count.toNat ∧ count.toNat ≤ 8 then some (start.toNat, count.toNat) else none
  | _ => none

/-- HANDOVER, 1 byte: a node id 0 to 63 (R156). -/
def handoverArgs (body : List Byte) : Option NodeId :=
  match body with
  | [node] => inRange 64 node.toNat
  | _ => none

/-- The commands that carry no argument: QUIESCE, RESUME, READ-STATUS, CLEAR-FAULTS, RESET-BRIDGE
(Table 10-6). -/
def noArgs (body : List Byte) : Option Unit :=
  match body with
  | [] => some ()
  | _ => none

end Sys2Proof.Machine
end

