-- ==== Sys2Proof/Machine/Ops.lean ====
section
/-! DEFINITION. The operations that the commands share: handing frames to the ports, answers, notices
and fault records, fences, the sweep of the park buffer, misses and their offering, the forwards of the
ready list's arbiter, and the completion of purges, closes and the drain. -/

namespace Sys2Proof.Machine

/-! ## Handing frames to the ports (R182) -/

/-- A frame handed to the near port: queued while the link is UP, lost at once while it is DOWN (R182). -/
def State.sendNear (s : State) (f : Frame) : State :=
  if s.near.up then { s with near := { s.near with queue := s.near.queue ++ [f] } } else s

/-- A frame handed to the far port (R182). -/
def State.sendFar (s : State) (f : Frame) : State :=
  if s.far.up then { s with far := { s.far with queue := s.far.queue ++ [f] } } else s

/-- A REFUSE sent counts one, whether or not the link carries it (R77, R99). -/
def State.countRefusal (s : State) : State :=
  { s with ctr := { s.ctr with refusals := s.ctr.refusals + 1 } }

/-- A refusal counts the refusals-sent counter; DATA and DONE count nothing (R170). -/
def State.countAnswer (s : State) (a : Answer) : State :=
  match a with
  | .refuse _ _ => s.countRefusal
  | .data _ => s
  | .done => s

/-- One answer to a near request: the RESPONSE frame on the near port (R77). -/
def State.answer (s : State) (agent : Agent) (tag : NearTag) (a : Answer) : State :=
  (s.countAnswer a).sendNear (answerFrame s.node agent tag a)

/-- An answer where there is one: a POST receives none (R69, R77). -/
def State.answerIf (s : State) (agent : Agent) (tag : NearTag) (a : Option Answer) : State :=
  match a with
  | some x => s.answer agent tag x
  | none => s

/-- The answer of a refusal by request kind: a POST receives no response (R69). -/
def refusalTo (kind : ReqKind) (reason : Reason) (detail : Byte) : Option Answer :=
  match kind with
  | .read => some (.refuse reason detail)
  | .write => some (.refuse reason detail)
  | .post => none

/-- The answer under action ZERO (R9). -/
def zeroAnswer (kind : ReqKind) (len : Nat) : Option Answer :=
  match kind with
  | .read => some (.data (List.replicate len 0))
  | .write => some .done
  | .post => none

/-! ## Notices and the fault log -/

/-- A notice to the manager: sent when the far link is UP and a manager is configured, then numbered and
counted; otherwise not sent, and nothing changes (R153, R154). -/
def State.notice (s : State) (kind : BitVec 6) (body : List Byte) : State :=
  match s.far.up, s.chan.manager with
  | true, some m =>
    { s with
      far := { s.far with queue := s.far.queue ++ [noticeFrame s.node m s.chan.noticeSeq kind body] }
      chan := { s.chan with noticeSeq := s.chan.noticeSeq + 1 }
      ctr := { s.ctr with notices := s.ctr.notices + 1 } }
  | _, _ => s

/-- The overwritten count after one more overwrite: it saturates at 255 (R163). -/
def bumpOverwritten (n : Byte) : Byte := if n = 255 then 255 else n + 1

/-- An append to the fault log: the next append number, the present time, and the oldest record removed when
the ring is full (R163). -/
def FaultLog.append (l : FaultLog) (time : Time) (w : FaultBody) : FaultLog :=
  let r : FaultRecord := { number := l.nextNumber, time := time, what := w }
  if l.ring.length < Config.logCapacity then
    { l with ring := l.ring ++ [r], nextNumber := l.nextNumber + 1 }
  else
    { ring := l.ring.tail ++ [r], nextNumber := l.nextNumber + 1
      overwritten := bumpOverwritten l.overwritten }

/-- One fault record made: appended, and with FAULT-NOTICES ON sent as a FAULT-NOTICE (R163, R165). -/
def State.makeFault (s : State) (w : FaultBody) : State :=
  let appended := { s with log := s.log.append s.time w }
  if s.chan.params.faultNotices then
    appended.notice faultNoticeCode (faultBytes { number := s.log.nextNumber, time := s.time, what := w })
  else appended

/-- Several fault records of one event, in order (R163, R165). -/
def State.makeFaults (s : State) (ws : List FaultBody) : State := ws.foldl State.makeFault s

/-- A fault record where there is one. -/
def State.makeFaultIf (s : State) (w : Option FaultBody) : State :=
  match w with
  | some x => s.makeFault x
  | none => s

/-- A fault record that carries agent, tag, context and page (Table 8-2). -/
def requestFault (kind : FaultKind) (agent : Agent) (tag : NearTag) (ctx : Ctx) (page : Page) (detail : Byte) :
    FaultBody :=
  { kind := kind, agent := some agent, tag := some tag, ctx := some ctx, page := some page, detail := detail }

/-- The record of a miss that ended in a refusal of its waiters: DENIED or MISS-TIMEOUT (R51, R52). -/
def missFault (kind : FaultKind) (m : Miss) (waiters : Nat) (id : MissId) : FaultBody :=
  { kind := kind, ctx := some m.ctx, page := some m.page, count := some (byteOf waiters),
    detail := byteOf id.val }

/-! ## Fences (R80) -/

/-- The judgment of an agent's fence: a pending fence with nothing held is answered DONE and becomes idle
(R80). -/
def State.judgeFence (s : State) (a : Agent) : State :=
  match s.fences[a] with
  | some t =>
    if s.heldBy a then s else { s with fences := s.fences.set a none }.answer a t .done
  | none => s

/-- A record that was fence-held stops being held (R80). -/
def State.endHold (s : State) (wasHeld : Bool) (a : Agent) : State := if wasHeld then s.judgeFence a else s

/-! ## The sweep of the park buffer, in park order (R30) -/

/-- What an event does with one park record. -/
inductive Fate where
  | keep (r : ParkRecord)
  | leave (a : Option Answer)
  deriving DecidableEq, Repr

/-- The records dealt with one after another in park order: each is kept (perhaps changed), or leaves with its
answer, and then its agent's fence is judged (R30, R80). -/
def sweepFrom (fate : ParkRecord → Fate) : List ParkRecord → List ParkRecord → State → State
  | kept, [], s => { s with park := kept }
  | kept, r :: rest, s =>
    match fate r with
    | .keep r' => sweepFrom fate (kept ++ [r']) rest s
    | .leave a =>
      sweepFrom fate kept rest
        (({ s with park := kept ++ rest }.answerIf r.agent r.tag a).endHold r.held r.agent)

/-- The sweep of the whole park buffer. -/
def State.sweep (s : State) (fate : ParkRecord → Fate) : State := sweepFrom fate [] s.park s

/-- The records that satisfy a test leave, refused for a reason; the others stay. -/
def refuseFate (p : ParkRecord → Bool) (reason : Reason) (detail : Byte) (r : ParkRecord) : Fate :=
  if p r then .leave (refusalTo r.kind reason detail) else .keep r

/-! ## Purge completion (R109, R110) -/

/-- A slot in use with no carrier completes: PURGE-DONE, and the slot is free (R108, R109). -/
def State.completeSlot (s : State) (k : SlotId) : State :=
  match s.slots[k] with
  | some p =>
    if s.carriers k = 0 then
      { s with slots := s.slots.set k none }.notice purgeDoneCode [byteOf k.val, p.seq]
    else s
  | none => s

/-- Every slot judged, in ascending slot number (R110). -/
def State.completeSlots (s : State) : State := (List.finRange 4).foldl State.completeSlot s

/-! ## Close and drain completion (R126, R132) -/

/-- A CLOSING context with no WAITING entry becomes CLOSED, with CLOSE-DONE (R126). -/
def State.completeClose (s : State) (c : Ctx) : State :=
  match s.ctxs[c].state with
  | .closing q =>
    if s.ctxWaits c then s
    else { s with ctxs := s.ctxs.set c { s.ctxs[c] with state := .closed } }.notice closeDoneCode
      [byteOf c.val, q]
  | _ => s

/-- Every context judged, in ascending context number (R126). -/
def State.completeCloses (s : State) : State := (List.finRange 16).foldl State.completeClose s

/-- While QUIESCING, the drain condition true makes the bridge QUIESCED, with the QUIESCED notice (R132). -/
def State.judgeDrain (s : State) : State :=
  match s.bridge with
  | .quiescing q =>
    if s.drained then { s with bridge := .quiesced q }.notice quiescedCode [q] else s
  | _ => s

/-! ## Forwarding (R72 to R76) -/

/-- The outstanding entry of a forwarded READ or WRITE (R75). -/
def newOutEntry (s : State) (agent : Agent) (tag : NearTag) (kind : ReqKind) (len : Nat) (ctx : Ctx) (page : Page)
    (result : Translation) (marks : List SlotId) (held : Bool) : OutEntry :=
  { phase := .waiting, agent := agent, tag := tag, kind := kind, len := len, ctx := ctx, page := page,
    isGlobal := result.isGlobal, node := result.node, issue := s.time,
    deadline := s.time + s.chan.params.responseTimeout.setWidth 32, marks := marks, orphan := false,
    held := held }

/-- The head of the ready list, with what stands before and behind it in the park buffer, its translation
result and its marks (R72). -/
def splitReady : List ParkRecord → Option (List ParkRecord × ParkRecord × Translation × List SlotId × List ParkRecord)
  | [] => none
  | r :: rest =>
    match r.state with
    | .ready result marks => some ([], r, result, marks, rest)
    | _ =>
      match splitReady rest with
      | some (before, h, result, marks, behind) => some (r :: before, h, result, marks, behind)
      | none => none

/-- The head READY record forwarded, where it can leave (R72, R75, R76): a POST at once, a READ or WRITE
under the lowest FREE entry, which takes over its fence hold and its marks. A forwarded POST sheds its marks
(R110) and ends its fence hold after its frame (R80). Nothing leaves while the far link is DOWN (R73). -/
def State.forwardHead (s : State) : Option State :=
  match splitReady s.park with
  | none => none
  | some (before, r, result, marks, behind) =>
    if s.far.up = false then none
    else if r.kind = .post then
      some (((({ s with park := before ++ behind }.sendFar
        (requestFrame s.node r.kind r.mode r.len r.payload result 0)).completeSlots).endHold r.held r.agent))
    else
      match s.freeTag with
      | none => none
      | some t =>
        some ({ s with
          park := before ++ behind
          outs := s.outs.set t
            (some (newOutEntry s r.agent r.tag r.kind r.len r.ctx r.page result marks r.held)) }.sendFar
          (requestFrame s.node r.kind r.mode r.len r.payload result (byteOf t.val)))

/-- The arbiter: the head leaves as long as it can, at most this many times (R72). -/
def forwardUpTo : Nat → State → State
  | 0, s => s
  | n + 1, s =>
    match s.forwardHead with
    | some s' => forwardUpTo n s'
    | none => s

/-- The ready list's arbiter run until its head cannot leave (R72, R73). -/
def State.runArbiter (s : State) : State := forwardUpTo s.park.length s

/-! ## Misses and their notices (R40 to R48) -/

/-- The body of a MISS-NOTICE copy, built from the miss, the cache and the park buffer as they stand (R42,
Table 10-7). -/
def missNoticeBody (s : State) (id : MissId) (m : Miss) (copy : Nat) : List Byte :=
  [byteOf id.val, s.misses[id].gen, byteOf copy, byteOf m.ctx.val] ++ beBytes 4 m.page.toNat
    ++ [byteOf (setOf m.page).val, byteOf (s.cache[setOf m.page].victim).val,
        firstAccessByte m.access m.mode, byteOf (s.waiters id).length]

/-- A copy of a miss's notice, sent as R44 allows. -/
def State.sendMissCopy (s : State) (id : MissId) (copy : Nat) : State :=
  match s.misses[id].active with
  | some m => s.notice missNoticeCode (missNoticeBody s id m copy)
  | none => s

/-- The entry of a fresh allocation (R40, R43): deadline and schedule from the parameters in force, copy 0
fallen due. -/
def newMiss (s : State) (ctx : Ctx) (page : Page) (access : Access) (mode : Mode) : Miss :=
  let m : Miss :=
    { ctx := ctx, page := page, access := access, mode := mode, alloc := s.time,
      deadline := s.time + s.chan.params.missTimeout.setWidth 32, interval := s.chan.params.noticeInterval,
      repeats := s.chan.params.noticeRepeats, sent := 0, next := none }
  { m with next := m.nextCopy 0 }

/-- A miss id allocated: its generation counted up, its entry active, the misses counter up (R33, R40). -/
def State.allocMiss (s : State) (id : MissId) (ctx : Ctx) (page : Page) (access : Access) (mode : Mode) : State :=
  { s with
    misses := s.misses.set id
      { gen := s.misses[id].gen + 1, active := some (newMiss s ctx page access mode) }
    ctr := { s.ctr with misses := s.ctr.misses + 1 } }

/-- A miss id freed: it keeps its generation (R47). -/
def State.freeMiss (s : State) (id : MissId) : State :=
  { s with misses := s.misses.set id { s.misses[id] with active := none } }

/-- Several miss ids freed. -/
def State.freeMisses (s : State) (ids : List MissId) : State := ids.foldl State.freeMiss s

/-- The UNNOTICED records of a pair join a miss's waiter list, in park order (R48). -/
def joinMiss (id : MissId) (c : Ctx) (p : Page) (r : ParkRecord) : ParkRecord :=
  if r.isUnnoticed && r.onPair c p then { r with state := .waiting id } else r

/-- A free miss entry offered to the UNNOTICED records: the oldest one's page gets it, every UNNOTICED record of
that page joins, and copy 0 falls due (R48). -/
def State.offer (s : State) (id : MissId) : State :=
  match s.misses[id].active, s.park.find? ParkRecord.isUnnoticed with
  | none, some r =>
    ({ s with park := s.park.map (joinMiss id r.ctx r.page) }.allocMiss id r.ctx r.page (accessOf r.kind)
      r.mode).sendMissCopy id 0
  | _, _ => s

/-- Freed entries offered in turn (R48). -/
def State.offerAll (s : State) (ids : List MissId) : State := ids.foldl State.offer s

/-! ## Arrivals at the ports (R171, R177) -/

/-- A frame received whole on the near port, its CRC good. No frame arrives on a DOWN link (R175). A body over 300
bytes fails the length test and is counted as a CRC discard (R177). -/
def State.arriveNear (s : State) (f : Frame) (deal : State → State) : State :=
  if s.near.up = false then s
  else if f.body.length ≤ Config.maxBody then
    deal { s with ctr := { s.ctr with nearFrames := s.ctr.nearFrames + 1 } }
  else { s with ctr := { s.ctr with nearCrc := s.ctr.nearCrc + 1 } }

/-- A frame received whole on the far port, its CRC good. -/
def State.arriveFar (s : State) (f : Frame) (deal : State → State) : State :=
  if s.far.up = false then s
  else if f.body.length ≤ Config.maxBody then
    deal { s with ctr := { s.ctr with farFrames := s.ctr.farFrames + 1 } }
  else { s with ctr := { s.ctr with farCrc := s.ctr.farCrc + 1 } }

/-! ## The management channel (R138 to R146) -/

/-- A reply to a command taken: sent, stored, and E advanced (R141, R146). -/
def State.reply (s : State) (command : Frame) (kind : BitVec 6) (body : List Byte) : State :=
  let s' := s.sendFar (replyFrame s.node command kind body)
  { s' with
    chan := { s.chan with
      stored := some (replyFrame s.node command kind body), expected := s.chan.expected + 1 } }

/-- ACK: the command's kind code, then its fields (section 10.4). -/
def State.ack (s : State) (command : Frame) (fields : List Byte) : State :=
  s.reply command ackCode (kindByte command :: fields)

/-- NAK of a command taken: detail 0, stored like any reply (R141, R146). -/
def State.nak (s : State) (command : Frame) (code : NakCode) : State :=
  s.reply command nakCode (nakBody command code 0)

/-- NAK SEQ: E as its detail, not stored, E unchanged (R143). -/
def State.nakSequence (s : State) (command : Frame) : State :=
  s.sendFar (replyFrame s.node command nakCode (nakBody command .seq s.chan.expected))

/-- The discard of a MGMT frame from a node that is not the manager, or on the near port (R139, R180). -/
def foreignFault (port : Port) (f : Frame) : FaultBody :=
  { kind := .foreignMgmt, port := some port, node := some (nodeField f.hdr.src),
    detail := byteOf f.kind.toNat }

/-- A command under a number other than E: E-1 with a stored reply is replayed, anything else is answered NAK
SEQ (R142, R143). -/
def State.offSequence (s : State) (f : Frame) : State :=
  match s.chan.stored with
  | some l => if f.hdr.seq = s.chan.expected - 1 then s.sendFar l else s.nakSequence f
  | none => s.nakSequence f

/-- The channel's checks on a MGMT frame, up to the taking (Table 7-2, steps 1 to 3). -/
def State.channel (s : State) (f : Frame) (take : State → State) : State :=
  if nodeField f.hdr.dst ≠ s.node then s
  else if s.chan.manager ≠ some (nodeField f.hdr.src) then s.makeFault (foreignFault .far f)
  else if f.hdr.seq = s.chan.expected then take s
  else s.offSequence f

/-- The far MGMT frame of a command (Table 10-2). -/
def commandFrame (c : Command) (h : Header) (body : List Byte) : Frame :=
  { cls := .mgmt, kind := commandCode c, hdr := h, body := body }

/-- A command frame arriving on the far port: the port, then the channel, then the command (R138 to R145). -/
def State.commandArrives (s : State) (f : Frame) (take : State → State) : State :=
  s.arriveFar f fun s => s.channel f take

/-- A command whose body does not decode is answered NAK RANGE (R145, R192). -/
def State.withArgs {α : Type} (s : State) (f : Frame) (args : Option α) (run : α → State → State) : State :=
  match args with
  | some a => run a s
  | none => s.nak f .range

end Sys2Proof.Machine
end

