-- ==== Sys2Proof/Machine/Cache.lean ====
section
/-! DEFINITION. The translation cache: replacement order, installs and invalidations (chapter 1), the
FILL command with its miss side (sections 1.6 and 2.5), PIN and READ-ENTRY. -/

namespace Sys2Proof.Machine

/-! ## Replacement order (R12, R13) -/

/-- A way moves to the front of the order (R12). -/
def moveFront (w : WayId) (order : List WayId) : List WayId := w :: order.erase w

/-- A way moves to the back of the order (R13). -/
def moveBack (w : WayId) (order : List WayId) : List WayId := order.erase w ++ [w]

/-- A lookup's hit moves its way to the front; no entry changes (R5). -/
def CacheSet.touch (t : CacheSet) (w : WayId) : CacheSet := { t with order := moveFront w t.order }

/-- An entry written into a way, which moves to the front (R22). -/
def CacheSet.install (t : CacheSet) (w : WayId) (e : Entry) : CacheSet :=
  { ways := t.ways.set w e, order := moveFront w t.order }

/-- An invalidated way keeps its fields but for the valid and pinned flags (R3). -/
def Entry.invalidated (e : Entry) : Entry := { e with valid := false, pinned := false }

/-- One way invalidated and moved to the back, if it is valid and the test names it (R3, R13). -/
def CacheSet.drop (named : Entry → Bool) (t : CacheSet) (w : WayId) : CacheSet :=
  if t.ways[w].valid && named t.ways[w] then
    { ways := t.ways.set w t.ways[w].invalidated, order := moveBack w t.order }
  else t

/-- The named ways of a set invalidated, in ascending way number (R13). -/
def CacheSet.dropAll (named : Entry → Bool) (t : CacheSet) : CacheSet :=
  (List.finRange 4).foldl (CacheSet.drop named) t

/-- The number of valid ways the test names. -/
def CacheSet.countNamed (named : Entry → Bool) (t : CacheSet) : Nat :=
  t.ways.toList.countP fun e => e.valid && named e

/-- Every named valid entry of the cache invalidated, wherever it stands (R1, R13). -/
def invalidateCache (named : Entry → Bool) (cache : Vector CacheSet 64) : Vector CacheSet 64 :=
  cache.map (CacheSet.dropAll named)

/-- The number of entries an invalidation invalidates (R103). -/
def countInvalidated (named : Entry → Bool) (cache : Vector CacheSet 64) : Nat :=
  (cache.toList.map (CacheSet.countNamed named)).sum

/-- A set emptied, its order the power-on order: PURGE ALL with include-pinned (R104). -/
def CacheSet.emptied (t : CacheSet) : CacheSet :=
  { ways := t.ways.map fun e => if e.valid then e.invalidated else e, order := initialOrder }

/-! ## FILL: the cache side (section 1.6) -/

/-- The target way of a FILL (R19): with AUTO the way with the identical key, else the victim. -/
def CacheSet.target (t : CacheSet) (e : Entry) (choice : WayChoice) : WayId :=
  match choice with
  | .explicit w => w
  | .auto =>
    match (List.finRange 4).find? fun w => t.ways[w].sameKey e with
    | some w => w
    | none => t.victim

/-- Some valid way other than the target would match a pair the new entry matches (R20). -/
def CacheSet.conflict (t : CacheSet) (e : Entry) (target : WayId) : Bool :=
  (List.finRange 4).any fun w => w != target && t.ways[w].conflicts e

/-- The checks of a FILL after its range check (Table 1-4, steps 2 to 5): the target way, or the NAK code. -/
def judgeFill (s : State) (e : Entry) (choice : WayChoice) : Except NakCode WayId :=
  let t := s.cache[setOf e.page]
  let w := t.target e choice
  let contextOk := match e.scope with
    | .allContexts => true
    | .context c => s.isOpen c
  if !contextOk then .error .state
  else if t.conflict e w then .error .duplicate
  else if e.pinned && Config.maxPins ≤ t.pinsBut w then .error .pinnedFull
  else .ok w

/-! ## FILL: the miss side (section 2.5) -/

/-- The live miss a ticket names, if any (R33). -/
def State.liveMiss (s : State) (t : Ticket) : Option Miss :=
  if s.misses[t.id].gen = t.gen then s.misses[t.id].active else none

/-- The ticket status codes of a FILL's ACK (R45, section 10.4): NONE, STALE, MISMATCH, MATCHED. -/
def ticketStatus (s : State) (e : Entry) (ticket : Option Ticket) : Byte :=
  match ticket with
  | none => 0
  | some t =>
    match s.liveMiss t with
    | none => 1
    | some m => if e.matchesPair m.ctx m.page then 3 else 2

/-- The record is released by the new entry (R46). -/
def ParkRecord.releasedBy (e : Entry) (r : ParkRecord) : Bool := !r.isReady && e.matchesPair r.ctx r.page

/-- What the release does with a record (R46): the entry check against the new entry. -/
def releaseFate (e : Entry) (r : ParkRecord) : Fate :=
  if r.releasedBy e then
    match entryCheck e r.kind r.mode with
    | .refuse reason _ detail => .leave (refusalTo r.kind reason detail)
    | .zero => .leave (zeroAnswer r.kind r.len)
    | .forward => .keep { r with state := .ready (translate e r.address) [] }
  else .keep r

/-- The fault record a released record makes, if its check refuses it (R7, R8, R46). -/
def releaseFault (e : Entry) (r : ParkRecord) : Option FaultBody :=
  if r.releasedBy e then
    match entryCheck e r.kind r.mode with
    | .refuse _ kind detail => some (requestFault kind r.agent r.tag r.ctx r.page detail)
    | .zero => none
    | .forward => none
  else none

/-- The active misses whose pair the new entry matches, in ascending id (R47). -/
def State.missesMatched (s : State) (e : Entry) : List MissId :=
  (List.finRange 16).filter fun id => s.misses[id].active.any fun m => e.matchesPair m.ctx m.page

/-- The set of a page replaced by a changed one. -/
def State.setCache (s : State) (t : SetId) (c : CacheSet) : State := { s with cache := s.cache.set t c }

/-- A FILL that passed every check: install, release, free, ACK, offers with their copy-0 notices, the
FAULT-NOTICEs, the arbiter's forwards, the drain (R22, R45 to R49, R132). -/
def fillWritten (f : Frame) (a : FillArgs) (w : WayId) (s : State) : State :=
  let set := setOf a.entry.page
  let note : Byte := if s.cache[set].ways[w].sameKey a.entry then 1 else 0
  let status := ticketStatus s a.entry a.ticket
  let released := s.park.countP (ParkRecord.releasedBy a.entry)
  let faults := s.park.filterMap (releaseFault a.entry)
  let freed := s.missesMatched a.entry
  let installed := s.setCache set (s.cache[set].install w a.entry)
  let cleared := (installed.sweep (releaseFate a.entry)).freeMisses freed
  ((((cleared.ack f [byteOf set.val, byteOf w.val, note, status, byteOf released]).offerAll freed).makeFaults
    faults).runArbiter).judgeDrain

/-- A FILL whose body is in range (R16). -/
def runFill (f : Frame) (a : FillArgs) (s : State) : State :=
  match judgeFill s a.entry a.way with
  | .error code => s.nak f code
  | .ok w => fillWritten f a w s

/-- FILL, taken under E (R16, R17). -/
def takeFill (f : Frame) (s : State) : State := s.withArgs f (fillArgs f.body) (runFill f)

/-! ## PIN and READ-ENTRY (section 1.8) -/

/-- PIN's own checks and effect (R25). -/
def runPin (f : Frame) (a : SetId × WayId × Bool) (s : State) : State :=
  let (set, w, on) := a
  let t := s.cache[set]
  if !t.ways[w].valid then s.nak f .state
  else if on && !t.ways[w].pinned && Config.maxPins ≤ t.pinsBut w then s.nak f .pinnedFull
  else (s.setCache set { t with ways := t.ways.set w { t.ways[w] with pinned := on } }).ack f []

/-- PIN, taken under E (R25). -/
def takePin (f : Frame) (s : State) : State := s.withArgs f (pinArgs f.body) (runPin f)

/-- READ-ENTRY's reply: the entry record and the way's position (R26). -/
def runReadEntry (f : Frame) (a : SetId × WayId) (s : State) : State :=
  let t := s.cache[a.1]
  s.reply f entryCode (entryBytes t.ways[a.2] ++ [byteOf (t.position a.2)])

/-- READ-ENTRY, taken under E (R26). -/
def takeReadEntry (f : Frame) (s : State) : State := s.withArgs f (readEntryArgs f.body) (runReadEntry f)

/-! ## The commands -/

/-- FILL (R16). -/
def execFill (h : Header) (body : List Byte) (s : State) : Host.Outcome State Fault Refusal :=
  .next (s.commandArrives (commandFrame .fill h body) (takeFill (commandFrame .fill h body)))

/-- PIN (R25). -/
def execPin (h : Header) (body : List Byte) (s : State) : Host.Outcome State Fault Refusal :=
  .next (s.commandArrives (commandFrame .pin h body) (takePin (commandFrame .pin h body)))

/-- READ-ENTRY (R26). -/
def execReadEntry (h : Header) (body : List Byte) (s : State) : Host.Outcome State Fault Refusal :=
  .next (s.commandArrives (commandFrame .readEntry h body) (takeReadEntry (commandFrame .readEntry h body)))

end Sys2Proof.Machine
end

