-- ==== Sys2Proof/Machine/Misses.lean ====
section
/-! DEFINITION. The miss table and park buffer at a miss (section 2.3), DENY (section 2.6), the miss
timeout (section 2.7), the notice schedule (section 2.4) and the offering of free entries (R48). -/

namespace Sys2Proof.Machine

/-! ## When a lookup misses (section 2.3) -/

/-- A request as a park record, at the end of park order (R29, R30). -/
def parkedAs (r : Request) (st : ParkState) : ParkRecord :=
  { agent := r.agent, tag := r.tag, kind := r.kind, ctx := r.ctx, mode := r.mode, address := r.address,
    len := r.len, payload := r.payload, state := st, held := false }

/-- A request parked (R30). -/
def State.parkRequest (s : State) (r : Request) (st : ParkState) : State :=
  { s with park := s.park ++ [parkedAs r st] }

/-- A request refused for a reason that has no fault kind of its own: a POST is lost with a POST-LOST record
whose detail is the reason's code (R69). -/
def State.turnAway (s : State) (r : Request) (reason : Reason) (detail : Byte) : State :=
  match r.kind with
  | .read => s.answer r.agent r.tag (.refuse reason detail)
  | .write => s.answer r.agent r.tag (.refuse reason detail)
  | .post => s.makeFault (requestFault .postLost r.agent r.tag r.ctx r.page (reasonCode reason))

/-- A request refused for a reason with a fault kind of its own: answered unless it is a POST, then recorded
(R69). -/
def State.turnAwayWith (s : State) (r : Request) (reason : Reason) (kind : FaultKind) (detail : Byte) : State :=
  (s.answerIf r.agent r.tag (refusalTo r.kind reason detail)).makeFault
    (requestFault kind r.agent r.tag r.ctx r.page detail)

/-- The cases of a miss, in order (Table 2-4, R36 to R41). -/
def State.missCase (s : State) (r : Request) : State :=
  if s.ctxs[r.ctx].policy = .refuse then s.turnAway r .noTranslation 0
  else if Config.parkCapacity ≤ s.park.length then s.turnAway r .busy 0
  else
    match s.missFor r.ctx r.page with
    | some id => s.parkRequest r (.waiting id)
    | none =>
      if s.park.any fun q => q.isUnnoticed && q.onPair r.ctx r.page then s.parkRequest r .unnoticed
      else
        match s.freeMissId with
        | some id =>
          ((s.parkRequest r (.waiting id)).allocMiss id r.ctx r.page (accessOf r.kind) r.mode).sendMissCopy id 0
        | none =>
          { s.parkRequest r .unnoticed with ctr := { s.ctr with exhaustion := s.ctr.exhaustion + 1 } }

/-! ## The end of a miss (R51, R52) -/

/-- Every waiter of a miss refused for a reason, in park order, and the entry freed (R51, R52). -/
def State.endMiss (s : State) (id : MissId) (reason : Reason) (detail : Byte) : State :=
  (s.sweep (refuseFate (fun r => r.waitsOn id) reason detail)).freeMiss id

/-- DENY's own checks and effect (R51). -/
def runDeny (f : Frame) (a : Ticket × Byte) (s : State) : State :=
  match s.liveMiss a.1 with
  | none => s.ack f [0]
  | some m =>
    let n := (s.waiters a.1.id).length
    ((((s.endMiss a.1.id .noTranslation a.2).ack f [byteOf n]).offer a.1.id).makeFault
      (missFault .denied m n a.1.id)).judgeDrain

/-- DENY, taken under E (R51). -/
def takeDeny (f : Frame) (s : State) : State := s.withArgs f (denyArgs f.body) (runDeny f)

/-- The next copy of a miss's notice falls due: its number is used up and the time of the following copy is held
(R43). -/
def State.advanceCopy (s : State) (id : MissId) (m : Miss) : State :=
  { s with
    misses := s.misses.set id
      { gen := s.misses[id].gen
        active := some { m with sent := m.sent + 1, next := m.nextCopy (m.sent + 1) } } }

/-! ## The commands -/

/-- DENY (R51). -/
def execDeny (h : Header) (body : List Byte) (s : State) : Host.Outcome State Fault Refusal :=
  .next (s.commandArrives (commandFrame .deny h body) (takeDeny (commandFrame .deny h body)))

/-- MISS_TIMEOUT (R52): when the deadline of an active miss is reached its waiters are refused MISS-TIMEOUT, the
entry is freed and offered, and one record is made. Before the deadline, or on a free id, the event does not
happen. -/
def execMissTimeout (id : MissId) (s : State) : Host.Outcome State Fault Refusal :=
  match s.misses[id].active with
  | none => .next s
  | some m =>
    if reached m.deadline s.time then
      .next ((((s.endMiss id .missTimeout 0).offer id).makeFault
        (missFault .missTimeout m (s.waiters id).length id)).judgeDrain)
    else .next s

/-- MISS_NOTICE (R43, R44): when the next notice time of an active miss is reached, its next copy falls due: the copy
number and the next time advance, and the copy is sent where the far link is UP and a manager is configured. -/
def execMissNotice (id : MissId) (s : State) : Host.Outcome State Fault Refusal :=
  match s.misses[id].active with
  | none => .next s
  | some m =>
    match m.next with
    | none => .next s
    | some t =>
      if reached t s.time then
        .next ((s.advanceCopy id m).sendMissCopy id (m.sent + 1))
      else .next s

/-- MISS_ENTRY_OFFER (R48): a free miss entry is offered to the UNNOTICED records. The events that free an entry
offer it themselves (log entry 2). -/
def execMissEntryOffer (id : MissId) (s : State) : Host.Outcome State Fault Refusal := .next (s.offer id)

end Sys2Proof.Machine
end

