-- ==== Sys2Proof/Machine/Intake.lean ====
section
/-! DEFINITION. Request intake on the near port: the arrival checks, the lookup, hits, forwarding at once
or parking READY, fences, and the routing of every other near frame (chapter 3, R179, R180). -/

namespace Sys2Proof.Machine

/-! ## Arrival checks (Table 3-1) -/

/-- A MALFORMED record of the near port (R60, R61). -/
def malformedFault (agent : Option Agent) (tag : Option NearTag) (ctx : Option Ctx) (detail : Byte) : FaultBody :=
  { kind := .malformed, agent := agent, tag := tag, ctx := ctx, port := some .near, detail := detail }

/-- A DUP-TAG record: the kind of the discarded frame as its detail (R62). -/
def dupTagFault (agent : Agent) (tag : NearTag) (kind : BitVec 6) : FaultBody :=
  { kind := .dupTag, agent := some agent, tag := some tag, port := some .near, detail := byteOf kind.toNat }

/-- Step 3 for a frame of known kind: agent, then tag, in range; otherwise discarded with a MALFORMED record
(R60). -/
def State.identified (s : State) (h : Header) (deal : Agent → NearTag → State → State) : State :=
  match agentOf h, nearTagOf h with
  | none, tag => s.makeFault (malformedFault none tag none 17)
  | some agent, none => s.makeFault (malformedFault (some agent) none none 18)
  | some agent, some tag => deal agent tag s

/-- A near REQUEST frame of unknown kind: discarded with a MALFORMED record of detail 16 that carries agent and tag
where in range (R60; log entry 10). -/
def State.intakeUnknown (s : State) (h : Header) : State :=
  s.makeFault (malformedFault (agentOf h) (nearTagOf h) none 16)

/-! ## Hits (R68, R71) -/

/-- A READ or WRITE leaves at once under an outstanding entry (R71, R75). -/
def State.forwardRequest (s : State) (r : Request) (result : Translation) (t : BridgeTag) : State :=
  { s with
    outs := s.outs.set t
      (some (newOutEntry s r.agent r.tag r.kind r.len r.ctx r.page result [] false)) }.sendFar
    (requestFrame s.node r.kind r.mode r.len r.payload result (byteOf t.val))

/-- A POST leaves at once (R71, R76). -/
def State.forwardPost (s : State) (r : Request) (result : Translation) : State :=
  s.sendFar (requestFrame s.node r.kind r.mode r.len r.payload result 0)

/-- A FORWARD hit that cannot leave at once: parked READY, or refused BUSY when the park buffer is full (R71, cases
3 and 4). -/
def State.parkReady (s : State) (r : Request) (result : Translation) : State :=
  if s.park.length < Config.parkCapacity then s.parkRequest r (.ready result [])
  else s.turnAway r .busy 0

/-- A request that passed the entry check with FORWARD (R71). -/
def State.forwardHit (s : State) (r : Request) (result : Translation) : State :=
  if s.readyExists then s.parkReady r result
  else
    match r.kind with
    | .post => s.forwardPost r result
    | .read =>
      match s.freeTag with
      | some t => s.forwardRequest r result t
      | none => s.parkReady r result
    | .write =>
      match s.freeTag with
      | some t => s.forwardRequest r result t
      | none => s.parkReady r result

/-- A lookup's hit: the way to the front and the hits counter up, then the entry check (R5, R68). -/
def State.hitCase (s : State) (r : Request) (w : WayId) : State :=
  let set := setOf r.page
  let e := s.cache[set].ways[w]
  let hit :=
    { s.setCache set (s.cache[set].touch w) with ctr := { s.ctr with hits := s.ctr.hits + 1 } }
  match entryCheck e r.kind r.mode with
  | .refuse reason kind detail => hit.turnAwayWith r reason kind detail
  | .zero => hit.answerIf r.agent r.tag (zeroAnswer r.kind r.len)
  | .forward => hit.forwardHit r (translate e r.address)

/-- Step 11: the lookup, and its hit or miss (R5, R68). -/
def State.lookup (s : State) (r : Request) : State :=
  match s.cache[setOf r.page].lookup r.ctx r.page with
  | some w => s.hitCase r w
  | none => s.missCase r

/-- Steps 6 to 10, then the lookup (R63 to R68). -/
def State.accept (s : State) (r : Request) : State :=
  if s.bridge ≠ .running then s.turnAway r .busy 1
  else if s.far.up = false then s.turnAway r .link 0
  else if !withinPage r.address r.len then
    match r.kind with
    | .read => s.answer r.agent r.tag (.refuse .boundary 0)
    | .write => s.answer r.agent r.tag (.refuse .boundary 0)
    | .post => s.makeFault (requestFault .boundary r.agent r.tag r.ctx r.page 0)
  else
    match s.ctxs[r.ctx].state with
    | .closed => s.turnAway r .noContext 0
    | .closing _ => s.turnAway r .noContext 1
    | .opened =>
      if r.mode = .user ∧ s.ctxs[r.ctx].supOnly = true then s.turnAwayWith r .rights .rights 3
      else s.lookup r

/-- A READ, WRITE or POST from step 3 on (Table 3-1). -/
def State.intakeRequest (s : State) (kind : ReqKind) (h : Header) (body : List Byte) : State :=
  s.identified h fun agent tag s =>
    match judgeBody kind agent tag body with
    | .malformed detail ctx =>
      (s.answerIf agent tag (refusalTo kind .malformed detail)).makeFault
        (malformedFault (some agent) (some tag) ctx detail)
    | .good r =>
      if s.inFlight agent tag then s.makeFault (dupTagFault agent tag (reqCode kind)) else s.accept r

/-! ## Fences (R79) -/

/-- A park record of the agent becomes fence-held (R79). -/
def ParkRecord.heldFor (a : Agent) (r : ParkRecord) : ParkRecord :=
  if r.agent = a then { r with held := true } else r

/-- A WAITING non-orphan outstanding entry of the agent becomes fence-held (R79). -/
def OutEntry.heldFor (a : Agent) (o : OutEntry) : OutEntry :=
  if o.live = true ∧ o.agent = a then { o with held := true } else o

/-- A FENCE taken by its agent's fence record (R79). -/
def State.takeFence (s : State) (a : Agent) (t : NearTag) : State :=
  if s.fences[a].isSome then s.answer a t (.refuse .busy 2)
  else if s.busyAgent a then
    { s with
      park := s.park.map (ParkRecord.heldFor a)
      outs := s.outs.map (Option.map (OutEntry.heldFor a))
      fences := s.fences.set a (some t) }
  else s.answer a t .done

/-- A FENCE frame from step 3 on: steps 3 to 6, then the fence rules (R59). -/
def State.intakeFence (s : State) (h : Header) (body : List Byte) : State :=
  s.identified h fun agent tag s =>
    if body ≠ [] then
      (s.answer agent tag (.refuse .malformed 4)).makeFault (malformedFault (some agent) (some tag) none 4)
    else if s.inFlight agent tag then s.makeFault (dupTagFault agent tag fenceCode)
    else if s.bridge ≠ .running then s.answer agent tag (.refuse .busy 1)
    else s.takeFence agent tag

/-! ## Routing on the near port (R179) -/

/-- A near REQUEST frame by its kind code (R60, Table 10-2). -/
def State.intake (s : State) (f : Frame) : State :=
  match f.kind.toNat with
  | 1 => s.intakeRequest .read f.hdr f.body
  | 2 => s.intakeRequest .write f.hdr f.body
  | 3 => s.intakeRequest .post f.hdr f.body
  | 4 => s.intakeFence f.hdr f.body
  | _ => s.intakeUnknown f.hdr

/-- A MGMT frame on the near port: discarded with a FOREIGN-MGMT record (R180). -/
def State.nearMgmt (s : State) (f : Frame) : State := s.makeFault (foreignFault .near f)

/-- A frame taken on the near port, routed by its class (R179). -/
def State.routeNear (s : State) (f : Frame) : State :=
  match f.cls with
  | .request => s.intake f
  | .response => s
  | .mgmt => s.nearMgmt f
  | .fourth => s

/-! ## The commands -/

/-- NEAR_REQUEST (R59). -/
def execNearRequest (kind : ReqKind) (h : Header) (body : List Byte) (s : State) :
    Host.Outcome State Fault Refusal :=
  .next (s.arriveNear { cls := .request, kind := reqCode kind, hdr := h, body := body } fun s =>
    s.intakeRequest kind h body)

/-- FENCE (R79). -/
def execFence (h : Header) (body : List Byte) (s : State) : Host.Outcome State Fault Refusal :=
  .next (s.arriveNear { cls := .request, kind := fenceCode, hdr := h, body := body } fun s =>
    s.intakeFence h body)

/-- UNKNOWN_KIND_REQUEST (R60). -/
def execUnknownKindRequest (kind : BitVec 6) (h : Header) (body : List Byte) (s : State) :
    Host.Outcome State Fault Refusal :=
  .next (s.arriveNear { cls := .request, kind := kind, hdr := h, body := body } fun s =>
    s.intake { cls := .request, kind := kind, hdr := h, body := body })

/-- NEAR_FRAME_DISCARD (R179). -/
def execNearFrameDiscard (cls : FrameClass) (kind : BitVec 6) (h : Header) (body : List Byte) (s : State) :
    Host.Outcome State Fault Refusal :=
  .next (s.arriveNear { cls := cls, kind := kind, hdr := h, body := body } fun s =>
    s.routeNear { cls := cls, kind := kind, hdr := h, body := body })

/-- NEAR_MGMT_DISCARD (R180). -/
def execNearMgmtDiscard (kind : BitVec 6) (h : Header) (body : List Byte) (s : State) :
    Host.Outcome State Fault Refusal :=
  .next (s.arriveNear { cls := .mgmt, kind := kind, hdr := h, body := body } fun s =>
    s.nearMgmt { cls := .mgmt, kind := kind, hdr := h, body := body })

end Sys2Proof.Machine
end

