-- ==== Sys2Proof/Machine/Outstanding.lean ====
section
/-! DEFINITION. The outstanding table: far responses, the response timeout and the EXPIRED hold, and the
NOT-TARGET answer (chapter 4). -/

namespace Sys2Proof.Machine

/-! ## The judgment of a response (R87, Table 4-2) -/

/-- What a WAITING entry makes of a response: the near answer, and the TARGET-ERROR detail of a malformed one. -/
structure ResponseJudgment where
  answer : Answer
  error  : Option Byte
  deriving DecidableEq, Repr

/-- A malformed response: REFUSE TARGET with detail 0, and a TARGET-ERROR detail (R87). -/
def malformedResponse (detail : Byte) : ResponseJudgment := { answer := .refuse .target 0, error := some detail }

/-- A response judged by its kind and body against the entry's kind and length (Table 4-2). -/
def judgeResponse (kind : ReqKind) (len : Nat) (code : BitVec 6) (body : List Byte) : ResponseJudgment :=
  if code = dataCode then
    if kind = .read then
      if body.length = len then { answer := .data body, error := none } else malformedResponse 1
    else malformedResponse 2
  else if code = doneCode then
    if kind = .read then malformedResponse 3
    else if body = [] then { answer := .done, error := none } else malformedResponse 5
  else if code = refuseCode then
    match body with
    | [reason, _] => { answer := .refuse .target reason, error := none }
    | _ => malformedResponse 4
  else malformedResponse 6

/-! ## The end of a transaction -/

/-- A fault record about an outstanding entry (R89, R90). -/
def outFault (kind : FaultKind) (o : OutEntry) (detail : Byte) : FaultBody :=
  { kind := kind, agent := some o.agent, tag := some o.tag, ctx := some o.ctx, page := some o.page,
    node := some o.node, detail := detail }

/-- An outstanding entry replaced, or made FREE. -/
def State.setOut (s : State) (t : BridgeTag) (o : Option OutEntry) : State := { s with outs := s.outs.set t o }

/-- The near answer of an entry, unless it is an orphan (R88, R90). -/
def State.answerEntry (s : State) (o : OutEntry) (a : Answer) : State :=
  if o.orphan then s else s.answer o.agent o.tag a

/-- What follows the end of an entry's part: purge slots, the agent's fence, closes, the arbiter, the drain, in
the order of R98 (and R132, which sends QUIESCED last). -/
def State.afterEntry (s : State) (o : OutEntry) : State :=
  (((((s.completeSlots).endHold o.held o.agent).completeCloses).runArbiter).judgeDrain)

/-- A WAITING entry takes a response (R88). -/
def State.takeResponse (s : State) (t : BridgeTag) (o : OutEntry) (code : BitVec 6) (body : List Byte) : State :=
  let j := judgeResponse o.kind o.len code body
  (((s.answerEntry o j.answer).makeFaultIf (j.error.map (outFault .targetError o))).setOut t none).afterEntry o

/-- One late response counted (R86, R91). -/
def State.countLate (s : State) : State := { s with ctr := { s.ctr with late := s.ctr.late + 1 } }

/-- An EXPIRED entry ends, silently; the arbiter then judges its head (R91). -/
def State.endExpired (s : State) (t : BridgeTag) : State := ((s.setOut t none).runArbiter).judgeDrain

/-- The outstanding entry a far response matches: WAITING or EXPIRED, and asked of the response's source (R86). -/
def State.matchResponse (s : State) (h : Header) : Option (BridgeTag × OutEntry) :=
  match inRange 128 h.tag.toNat with
  | none => none
  | some t =>
    match s.outs[t] with
    | none => none
    | some o => if nodeField h.src = o.node then some (t, o) else none

/-- The record of a response that matches no entry (R86). -/
def lateFault (h : Header) : FaultBody :=
  { kind := .lateResponse, port := some .far, node := some (nodeField h.src), detail := h.tag }

/-- A RESPONSE frame for the bridge (R86, R88, R91). -/
def State.response (s : State) (f : Frame) : State :=
  match s.matchResponse f.hdr with
  | none => s.countLate.makeFault (lateFault f.hdr)
  | some (t, o) =>
    match o.phase with
    | .waiting => s.takeResponse t o f.kind f.body
    | .expired => s.countLate.endExpired t

/-- A far RESPONSE frame, by its destination (R181). -/
def State.routeResponse (s : State) (f : Frame) : State :=
  if nodeField f.hdr.dst = s.node then s.response f else s

/-- A far REQUEST frame, by its destination (R99, R181). -/
def State.routeRequest (s : State) (f : Frame) : State :=
  if nodeField f.hdr.dst = s.node then s.countRefusal.sendFar (notTargetFrame s.node f.hdr) else s

/-- A WAITING entry made EXPIRED by its first deadline: the second deadline follows by the span it was forwarded
with; its marks and its fence hold are gone (R90). -/
def OutEntry.timedOut (o : OutEntry) : OutEntry :=
  { o with phase := .expired, deadline := o.deadline + (o.deadline - o.issue), marks := [], held := false }

/-! ## The commands -/

/-- FAR_RESPONSE (R86). -/
def execFarResponse (kind : BitVec 6) (h : Header) (body : List Byte) (s : State) :
    Host.Outcome State Fault Refusal :=
  .next (s.arriveFar { cls := .response, kind := kind, hdr := h, body := body } fun s =>
    s.routeResponse { cls := .response, kind := kind, hdr := h, body := body })

/-- NOT_TARGET (R99). -/
def execNotTarget (kind : BitVec 6) (h : Header) (body : List Byte) (s : State) :
    Host.Outcome State Fault Refusal :=
  .next (s.arriveFar { cls := .request, kind := kind, hdr := h, body := body } fun s =>
    s.routeRequest { cls := .request, kind := kind, hdr := h, body := body })

/-- RESPONSE_TIMEOUT (R90): when the first deadline of a WAITING entry is reached. Before it, or on an entry that is not
WAITING, the event does not happen. -/
def execResponseTimeout (t : BridgeTag) (s : State) : Host.Outcome State Fault Refusal :=
  match s.outs[t] with
  | none => .next s
  | some o =>
    if o.phase = .waiting ∧ reached o.deadline s.time = true then
      .next ((((s.answerEntry o (.refuse .responseTimeout 0)).makeFault
        (outFault .responseTimeout o (byteOf t.val))).setOut t (some o.timedOut)).afterEntry o)
    else .next s

/-- SECOND_DEADLINE (R91): when the second deadline of an EXPIRED entry is reached it becomes FREE. Before it, or on an
entry that is not EXPIRED, the event does not happen. -/
def execSecondDeadline (t : BridgeTag) (s : State) : Host.Outcome State Fault Refusal :=
  match s.outs[t] with
  | none => .next s
  | some o =>
    if o.phase = .expired ∧ reached o.deadline s.time = true then .next (s.endExpired t) else .next s

/-- ARBITER_FORWARD (R72): the head of the ready list leaves, if it can. The events that let a head leave run the
arbiter themselves (log entry 2). -/
def execArbiterForward (s : State) : Host.Outcome State Fault Refusal :=
  match s.forwardHead with
  | some s' => .next s'.judgeDrain
  | none => .next s

/-- FENCE_DONE (R80): an agent's pending fence with nothing held is answered DONE. The events that end a hold judge the
fence themselves (log entry 2). -/
def execFenceDone (a : Agent) (s : State) : Host.Outcome State Fault Refusal := .next (s.judgeFence a).judgeDrain

end Sys2Proof.Machine
end

