-- ==== Sys2Proof/Machine/Purge.lean ====
section
/-! DEFINITION. PURGE and its drain (chapter 5). -/

namespace Sys2Proof.Machine

/-! ## Invalidation (R103, R104) -/

/-- The entries a PURGE invalidates: those its pattern names, pinned ones only when it includes them (R103). -/
def purgeNames (pat : Pattern) (includePinned : Bool) (e : Entry) : Bool :=
  pat.namesEntry e && (includePinned || !e.pinned)

/-- The cache after a PURGE (R103); ALL with include-pinned also sets every order to the power-on order (R104). -/
def purgedCache (pat : Pattern) (includePinned : Bool) (cache : Vector CacheSet 64) : Vector CacheSet 64 :=
  if pat = .all ∧ includePinned = true then cache.map CacheSet.emptied
  else invalidateCache (purgeNames pat includePinned) cache

/-! ## Marks (R106) -/

/-- A mark set among the marks carried, in ascending order, once. -/
def addMark (k : SlotId) (marks : List SlotId) : List SlotId :=
  (List.finRange 4).filter fun j => j == k || marks.contains j

/-- A READY record whose recorded translation the pattern names gets the slot's mark (R106). -/
def ParkRecord.markedBy (pat : Pattern) (k : SlotId) (r : ParkRecord) : ParkRecord :=
  match r.state with
  | .ready result marks =>
    if pat.namesWork r.ctx r.page result.isGlobal then { r with state := .ready result (addMark k marks) } else r
  | .waiting _ => r
  | .unnoticed => r

/-- A WAITING entry whose recorded translation the pattern names gets the slot's mark; orphans too, EXPIRED
entries not (R106). -/
def OutEntry.markedBy (pat : Pattern) (k : SlotId) (o : OutEntry) : OutEntry :=
  if o.phase = .waiting ∧ pat.namesWork o.ctx o.page o.isGlobal = true then { o with marks := addMark k o.marks }
  else o

/-- A PURGE that is taken: the cache invalidated, the slot taken, the work in flight marked (R103, R105, R106). -/
def State.applyPurge (s : State) (pat : Pattern) (includePinned : Bool) (seq : Byte) (k : SlotId) : State :=
  { s with
    cache := purgedCache pat includePinned s.cache
    slots := s.slots.set k (some { pattern := pat, seq := seq })
    park := s.park.map (ParkRecord.markedBy pat k)
    outs := s.outs.map (Option.map (OutEntry.markedBy pat k)) }

/-- PURGE's own checks and effect (R102, R108): NAK BUSY with no free slot; otherwise the ACK with the slot and the
count of entries invalidated, and an immediate PURGE-DONE where nothing is marked. -/
def runPurge (f : Frame) (a : Pattern × Bool) (s : State) : State :=
  match s.freeSlot with
  | none => s.nak f .busy
  | some k =>
    let n := countInvalidated (purgeNames a.1 a.2) s.cache
    ((s.applyPurge a.1 a.2 f.hdr.seq k).ack f (byteOf k.val :: beBytes 2 n)).completeSlot k

/-- PURGE, taken under E (R102). -/
def takePurge (f : Frame) (s : State) : State := s.withArgs f (purgeArgs f.body) (runPurge f)

/-! ## The commands -/

/-- PURGE (R102). -/
def execPurge (h : Header) (body : List Byte) (s : State) : Host.Outcome State Fault Refusal :=
  .next (s.commandArrives (commandFrame .purge h body) (takePurge (commandFrame .purge h body)))

/-- PURGE_DONE (R109): a slot in use with no carrier completes. The events that end a carrier's part complete the slot
themselves (log entry 2). -/
def execPurgeDone (k : SlotId) (s : State) : Host.Outcome State Fault Refusal := .next (s.completeSlot k)

end Sys2Proof.Machine
end

