-- ==== Sys2Proof/Machine/Contexts.lean ====
section
/-! DEFINITION. Contexts and the bridge state: OPEN-CONTEXT, CLOSE-CONTEXT and its drain, QUIESCE, RESUME
and the QUIESCED state (chapter 6). -/

namespace Sys2Proof.Machine

/-! ## Opening (R119) -/

/-- A context record replaced. -/
def State.setCtx (s : State) (c : Ctx) (r : CtxRecord) : State := { s with ctxs := s.ctxs.set c r }

/-- OPEN-CONTEXT's own checks and effect (R119). -/
def runOpenContext (f : Frame) (a : Ctx × MissPolicy × Bool) (s : State) : State :=
  let (c, policy, supOnly) := a
  match s.ctxs[c].state with
  | .closing _ => s.nak f .state
  | .closed => (s.setCtx c { state := .opened, policy := policy, supOnly := supOnly }).ack f [0]
  | .opened => (s.setCtx c { state := .opened, policy := policy, supOnly := supOnly }).ack f [1]

/-- OPEN-CONTEXT, taken under E (R119). -/
def takeOpenContext (f : Frame) (s : State) : State := s.withArgs f (openArgs f.body) (runOpenContext f)

/-! ## Closing (R121 to R125) -/

/-- The entries a close invalidates: the non-global ones of the context, pinned or not (R122). -/
def closeNames (c : Ctx) (e : Entry) : Bool := e.scope == .context c

/-- A POST of the closing context makes a POST-LOST record with the code of ABORTED (R123). -/
def closeFault (c : Ctx) (r : ParkRecord) : Option FaultBody :=
  if r.ctx = c ∧ r.kind = .post then
    some (requestFault .postLost r.agent r.tag r.ctx r.page (reasonCode .aborted))
  else none

/-- The active misses of a context, in ascending id (R124). -/
def State.missesOf (s : State) (c : Ctx) : List MissId :=
  (List.finRange 16).filter fun id => s.misses[id].active.any fun m => m.ctx == c

/-- The fields of CLOSE-CONTEXT's ACK: the note, then the counts (R125, section 10.4). -/
def closeAckFields (note : Byte) (entries records misses : Nat) : List Byte :=
  note :: beBytes 2 entries ++ [byteOf records, byteOf misses]

/-- The teardown of an OPEN context and what follows it, in the order of R125 (R121 to R126, R132). -/
def closeOpen (f : Frame) (c : Ctx) (s : State) : State :=
  let entries := countInvalidated (closeNames c) s.cache
  let records := s.park.countP fun r => r.ctx == c
  let faults := s.park.filterMap (closeFault c)
  let freed := s.missesOf c
  let closing := s.setCtx c { s.ctxs[c] with state := .closing f.hdr.seq }
  let swept := { closing with cache := invalidateCache (closeNames c) s.cache }.sweep
    (refuseFate (fun r => r.ctx == c) .aborted 0)
  let cleared := swept.freeMisses freed
  (((((((cleared.ack f (closeAckFields 0 entries records freed.length)).offerAll freed).completeSlots).completeClose
    c).makeFaults faults).runArbiter).judgeDrain)

/-- CLOSE-CONTEXT's own checks and effect (R121). -/
def runCloseContext (f : Frame) (c : Ctx) (s : State) : State :=
  match s.ctxs[c].state with
  | .closed => s.ack f (closeAckFields 1 0 0 0)
  | .closing _ => s.ack f (closeAckFields 2 0 0 0)
  | .opened => closeOpen f c s

/-- CLOSE-CONTEXT, taken under E (R121). -/
def takeCloseContext (f : Frame) (s : State) : State := s.withArgs f (closeArgs f.body) (runCloseContext f)

/-! ## The bridge state (R130 to R133) -/

/-- QUIESCE's effect (R131): the ACK reports the state after the command's own change; then the drain is judged, or
in QUIESCED the notice is sent again. -/
def runQuiesce (f : Frame) (_ : Unit) (s : State) : State :=
  match s.bridge with
  | .running => ({ s with bridge := .quiescing f.hdr.seq }.ack f [1]).judgeDrain
  | .quiescing _ => ({ s with bridge := .quiescing f.hdr.seq }.ack f [1]).judgeDrain
  | .quiesced _ => ({ s with bridge := .quiesced f.hdr.seq }.ack f [2]).notice quiescedCode [f.hdr.seq]

/-- QUIESCE, taken under E (R131). -/
def takeQuiesce (f : Frame) (s : State) : State := s.withArgs f (noArgs f.body) (runQuiesce f)

/-- RESUME's effect: RUNNING, and any drain abandoned (R133). -/
def runResume (f : Frame) (_ : Unit) (s : State) : State := { s with bridge := .running }.ack f [0]

/-- RESUME, taken under E (R133). -/
def takeResume (f : Frame) (s : State) : State := s.withArgs f (noArgs f.body) (runResume f)

/-! ## The commands -/

/-- OPEN-CONTEXT (R119). -/
def execOpenContext (h : Header) (body : List Byte) (s : State) : Host.Outcome State Fault Refusal :=
  .next (s.commandArrives (commandFrame .openContext h body) (takeOpenContext (commandFrame .openContext h body)))

/-- CLOSE-CONTEXT (R121). -/
def execCloseContext (h : Header) (body : List Byte) (s : State) : Host.Outcome State Fault Refusal :=
  .next (s.commandArrives (commandFrame .closeContext h body)
    (takeCloseContext (commandFrame .closeContext h body)))

/-- QUIESCE (R131). -/
def execQuiesce (h : Header) (body : List Byte) (s : State) : Host.Outcome State Fault Refusal :=
  .next (s.commandArrives (commandFrame .quiesce h body) (takeQuiesce (commandFrame .quiesce h body)))

/-- RESUME (R133). -/
def execResume (h : Header) (body : List Byte) (s : State) : Host.Outcome State Fault Refusal :=
  .next (s.commandArrives (commandFrame .resume h body) (takeResume (commandFrame .resume h body)))

/-- CLOSE_DONE (R126): a CLOSING context with no WAITING entry becomes CLOSED. The events that take an entry out of
WAITING complete the close themselves (log entry 2). -/
def execCloseDone (c : Ctx) (s : State) : Host.Outcome State Fault Refusal := .next (s.completeClose c)

/-- QUIESCED (R132): while QUIESCING, the drain condition true makes the bridge QUIESCED. The events that can complete
the drain judge it themselves (log entry 2). -/
def execQuiesced (s : State) : Host.Outcome State Fault Refusal := .next s.judgeDrain

end Sys2Proof.Machine
end

