-- ==== Sys2Proof/Machine/FaultLogCommands.lean ====
section
/-! DEFINITION. READ-FAULTS, CLEAR-FAULTS and READ-COUNTERS (sections 8.3 and 8.4). -/

namespace Sys2Proof.Machine

/-- The records a READ-FAULTS returns: from the start offset on, as many as asked, fewer where the log holds fewer
(R167). -/
def faultsRead (l : FaultLog) (start count : Nat) : List FaultRecord := (l.ring.drop start).take count

/-- A FAULTS body: the six-byte head, then the records, oldest first (section 10.6). -/
def faultsBody (l : FaultLog) (start count : Nat) : List Byte :=
  [byteOf l.ring.length, l.overwritten] ++ beBytes 2 l.nextNumber.toNat
    ++ [byteOf start, byteOf (faultsRead l start count).length] ++ (faultsRead l start count).flatMap faultBytes

/-- READ-FAULTS' effect: the FAULTS reply; nothing changes in the log (R167). -/
def runReadFaults (f : Frame) (a : Nat × Nat) (s : State) : State :=
  s.reply f faultsCode (faultsBody s.log a.1 a.2)

/-- READ-FAULTS, taken under E (R167). -/
def takeReadFaults (f : Frame) (s : State) : State := s.withArgs f (readFaultsArgs f.body) (runReadFaults f)

/-- CLEAR-FAULTS' effect: the ring emptied, the overwritten count 0, the next append number kept (R168). -/
def runClearFaults (f : Frame) (_ : Unit) (s : State) : State :=
  { s with log := { s.log with ring := [], overwritten := 0 } }.ack f []

/-- CLEAR-FAULTS, taken under E (R168). -/
def takeClearFaults (f : Frame) (s : State) : State := s.withArgs f (noArgs f.body) (runClearFaults f)

/-- READ-COUNTERS' effect: the COUNTERS reply, and with the flag set all ten counters 0 afterwards (R172). -/
def runReadCounters (f : Frame) (clear : Bool) (s : State) : State :=
  let replied := s.reply f countersCode (counterBytes s.ctr)
  if clear then { replied with ctr := Counters.zero } else replied

/-- READ-COUNTERS, taken under E (R172). -/
def takeReadCounters (f : Frame) (s : State) : State := s.withArgs f (readCountersArgs f.body) (runReadCounters f)

/-! ## The commands -/

/-- READ-FAULTS (R167). -/
def execReadFaults (h : Header) (body : List Byte) (s : State) : Host.Outcome State Fault Refusal :=
  .next (s.commandArrives (commandFrame .readFaults h body) (takeReadFaults (commandFrame .readFaults h body)))

/-- CLEAR-FAULTS (R168). -/
def execClearFaults (h : Header) (body : List Byte) (s : State) : Host.Outcome State Fault Refusal :=
  .next (s.commandArrives (commandFrame .clearFaults h body) (takeClearFaults (commandFrame .clearFaults h body)))

/-- READ-COUNTERS (R172). -/
def execReadCounters (h : Header) (body : List Byte) (s : State) : Host.Outcome State Fault Refusal :=
  .next (s.commandArrives (commandFrame .readCounters h body)
    (takeReadCounters (commandFrame .readCounters h body)))

end Sys2Proof.Machine
end

