-- ==== Sys2Proof/Machine/Management.lean ====
section
/-! DEFINITION. The commands the management channel owns: SET-PARAM, GET-PARAM, READ-STATUS, HANDOVER and
RESET-BRIDGE (chapter 7). -/

namespace Sys2Proof.Machine

/-! ## Parameters (R149, R150) -/

/-- SET-PARAM's effect (R149). -/
def runSetParam (f : Frame) (a : Param × BitVec 16) (s : State) : State :=
  { s with chan := { s.chan with params := s.chan.params.assign a.1 a.2 } }.ack f
    (paramByte a.1 :: beBytes 2 a.2.toNat)

/-- SET-PARAM, taken under E (R149). -/
def takeSetParam (f : Frame) (s : State) : State := s.withArgs f (setParamArgs f.body) (runSetParam f)

/-- GET-PARAM's reply (R150). -/
def runGetParam (f : Frame) (p : Param) (s : State) : State :=
  s.reply f paramCode (paramByte p :: beBytes 2 (s.chan.params.value p).toNat)

/-- GET-PARAM, taken under E (R150). -/
def takeGetParam (f : Frame) (s : State) : State := s.withArgs f (getParamArgs f.body) (runGetParam f)

/-! ## READ-STATUS (R151, R152) -/

/-- The quiesce sequence number, 0 when RUNNING (Table 10-6a). -/
def quiesceByte : BridgeState → Byte
  | .running => 0
  | .quiescing q => q
  | .quiesced q => q

/-- The reset cause byte (Table 10-6a). -/
def causeByte : ResetCause → Byte
  | .powerOn => 0
  | .soft => 1

/-- A STATUS body, 38 bytes (Table 10-6a): the next expected sequence number is E after the command has been taken
(R152). -/
def statusBody (s : State) : List Byte :=
  [bridgeByte s.bridge, quiesceByte s.bridge, causeByte s.cause, flagByte s.near.up, flagByte s.far.up,
    byteOf s.node.val, byteOf (s.chan.manager.getD 0).val, s.chan.expected + 1, s.chan.noticeSeq,
    byteOf (s.park.countP ParkRecord.isWaiting), byteOf (s.park.countP ParkRecord.isUnnoticed),
    byteOf (s.park.countP ParkRecord.isReady), byteOf (s.misses.toList.countP fun m => m.active.isSome),
    byteOf (s.countPhase .waiting), byteOf (s.countPhase .expired),
    byteOf (s.slots.toList.countP Option.isSome), byteOf (s.fences.toList.countP Option.isSome)]
    ++ s.ctxs.toList.map (fun c => ctxByte c.state)
    ++ [byteOf s.log.ring.length] ++ beBytes 4 s.time.toNat

/-- READ-STATUS' reply; nothing else changes (R151). -/
def runReadStatus (f : Frame) (_ : Unit) (s : State) : State := s.reply f statusCode (statusBody s)

/-- READ-STATUS, taken under E (R151). -/
def takeReadStatus (f : Frame) (s : State) : State := s.withArgs f (noArgs f.body) (runReadStatus f)

/-! ## HANDOVER (R156) -/

/-- HANDOVER's own check and effect (R156): the ACK goes to the sender and is not stored; then the channel starts
afresh under the new manager. -/
def runHandover (f : Frame) (node : NodeId) (s : State) : State :=
  if node = s.node then s.nak f .range
  else
    let sent := s.sendFar (replyFrame s.node f ackCode [kindByte f, byteOf node.val])
    { sent with
      chan := { s.chan with manager := some node, expected := 0, stored := none, noticeSeq := 0 } }

/-- HANDOVER, taken under E (R156). -/
def takeHandover (f : Frame) (s : State) : State := s.withArgs f (handoverArgs f.body) (runHandover f)

/-! ## RESET-BRIDGE (R158, R159) -/

/-- The READ and WRITE park records a soft reset refuses ABORTED, in park order (R30, R56). -/
def parkRefusals (s : State) : List (Agent × NearTag) :=
  (s.park.filter fun r => r.kind != .post).map fun r => (r.agent, r.tag)

/-- The WAITING non-orphan outstanding entries a soft reset refuses ABORTED, in ascending bridge tag (R97). -/
def entryRefusals (s : State) : List (Agent × NearTag) :=
  (s.outs.toList.filterMap fun o => o.filter OutEntry.live).map fun o => (o.agent, o.tag)

/-- The pending fences a soft reset refuses ABORTED, by agent (R81). -/
def fenceRefusals (s : State) : List (Agent × NearTag) :=
  (List.finRange 8).filterMap fun a => s.fences[a].map fun t => (a, t)

/-- Ranks made to rise: none is less than one that stands before it. -/
def risingRanks : Nat → List Nat → List Nat
  | _, [] => []
  | floor, r :: rest => max floor r :: risingRanks (max floor r) rest

/-- One block's refusals, ranked so that they keep their order among themselves (R30, R97). -/
def rankedInOrder (rank : Nat → Nat) (ids : List (Agent × NearTag)) : List (Nat × Agent × NearTag) :=
  (risingRanks 0 ((List.range ids.length).map rank)).zip ids

/-- A fence's refusal, ranked no lower than any other refusal of its agent (R81). -/
def rankedFence (others : List (Nat × Agent × NearTag)) (rank : Nat) (x : Agent × NearTag) : Nat × Agent × NearTag :=
  (((others.filter fun y => y.2.1 == x.1).map Prod.fst).foldl max rank, x)

/-- The refusals of a soft reset with their ranks: each block's in the order its rule gives, each fence's behind its
agent's others, and free otherwise (R159; log entry 6). -/
def resetRanked (rank : Nat → Nat) (s : State) : List (Nat × Agent × NearTag) :=
  let parked := rankedInOrder rank (parkRefusals s)
  let entered := rankedInOrder (fun i => rank (parked.length + i)) (entryRefusals s)
  let others := parked ++ entered
  others ++ (fenceRefusals s).zipIdx.map fun (x, i) => rankedFence others (rank (others.length + i)) x

/-- The refusals of a soft reset in the order they are sent: by rising rank, ties as they stand (R159). -/
def resetOrder (s : State) : List (Agent × NearTag) :=
  ((resetRanked (Config.resetRank s.moment) s).insertionSort fun x y => x.1 ≤ y.1).map Prod.snd

/-- An outstanding entry across a soft reset: a WAITING one becomes an orphan EXPIRED one with a second deadline from now;
an EXPIRED one is unchanged (R97). -/
def OutEntry.afterReset (now : Time) (timeout : BitVec 16) (o : OutEntry) : OutEntry :=
  match o.phase with
  | .waiting =>
    { o with phase := .expired, orphan := true, deadline := now + timeout.setWidth 32, marks := [], held := false }
  | .expired => o

/-- A CLOSING context becomes CLOSED, as a soft reset and far link down make it (R128, R129). -/
def CtxRecord.closedIfClosing (r : CtxRecord) : CtxRecord :=
  match r.state with
  | .closing _ => { r with state := .closed }
  | .closed => r
  | .opened => r

/-- The RESET record: park records removed, and the POSTs among them (R159). -/
def resetFault (park : List ParkRecord) : FaultBody :=
  { kind := .reset, count := some (byteOf park.length),
    detail := byteOf (park.countP fun r => r.kind == .post) }

/-- The tables across a soft reset (Table 7-6). -/
def State.resetTables (s : State) : State :=
  { s with
    park := []
    misses := s.misses.map fun m => { m with active := none }
    fences := Vector.replicate 8 none
    outs := s.outs.map (Option.map (OutEntry.afterReset s.time s.chan.params.responseTimeout))
    slots := Vector.replicate 4 none
    ctxs := s.ctxs.map CtxRecord.closedIfClosing
    bridge := .running
    cause := .soft
    moment := s.moment + 1 }

/-- Refusals ABORTED sent on the near port, in order. -/
def State.refuseAborted (s : State) (ids : List (Agent × NearTag)) : State :=
  ids.foldl (fun s x => s.answer x.1 x.2 (.refuse .aborted 0)) s

/-- RESET-BRIDGE's effect: the ACK, the refusals, every block's reset, and the RESET record (R158, R159). -/
def runResetBridge (f : Frame) (_ : Unit) (s : State) : State :=
  ((((s.ack f []).refuseAborted (resetOrder s)).resetTables).makeFault (resetFault s.park))

/-- RESET-BRIDGE, taken under E (R158). -/
def takeResetBridge (f : Frame) (s : State) : State := s.withArgs f (noArgs f.body) (runResetBridge f)

/-! ## The commands -/

/-- SET-PARAM (R149). -/
def execSetParam (h : Header) (body : List Byte) (s : State) : Host.Outcome State Fault Refusal :=
  .next (s.commandArrives (commandFrame .setParam h body) (takeSetParam (commandFrame .setParam h body)))

/-- GET-PARAM (R150). -/
def execGetParam (h : Header) (body : List Byte) (s : State) : Host.Outcome State Fault Refusal :=
  .next (s.commandArrives (commandFrame .getParam h body) (takeGetParam (commandFrame .getParam h body)))

/-- READ-STATUS (R151). -/
def execReadStatus (h : Header) (body : List Byte) (s : State) : Host.Outcome State Fault Refusal :=
  .next (s.commandArrives (commandFrame .readStatus h body) (takeReadStatus (commandFrame .readStatus h body)))

/-- HANDOVER (R156). -/
def execHandover (h : Header) (body : List Byte) (s : State) : Host.Outcome State Fault Refusal :=
  .next (s.commandArrives (commandFrame .handover h body) (takeHandover (commandFrame .handover h body)))

/-- RESET-BRIDGE (R158). -/
def execResetBridge (h : Header) (body : List Byte) (s : State) : Host.Outcome State Fault Refusal :=
  .next (s.commandArrives (commandFrame .resetBridge h body) (takeResetBridge (commandFrame .resetBridge h body)))

end Sys2Proof.Machine
end

