-- ==== Sys2Proof/Machine/Links.lean ====
section
/-! DEFINITION. Links and power: loss and return of a link, frames leaving a port, power-on reset and the
fall of power-good (chapter 9). -/

namespace Sys2Proof.Machine

/-- The record of a lost link (R184, R185). -/
def linkDownFault (port : Port) (count posts : Nat) : FaultBody :=
  { kind := .linkDown, port := some port, count := some (byteOf count), detail := byteOf posts }

/-- A port whose link is lost: DOWN, and the frames it held are lost (R182). -/
def PortState.lost (p : PortState) : PortState := { p with up := false, queue := [] }

/-! ## Near link down (R184) -/

/-- A WAITING entry becomes an orphan and loses its fence hold; an EXPIRED one is unchanged (R94). -/
def OutEntry.orphaned (o : OutEntry) : OutEntry :=
  if o.live then { o with orphan := true, held := false } else o

/-- What near link down does to the blocks: fences dropped, park records dropped, entries made orphan (R57, R81,
R94). -/
def State.nearLost (s : State) : State :=
  { s with
    near := s.near.lost
    fences := Vector.replicate 8 none
    park := []
    outs := s.outs.map (Option.map OutEntry.orphaned) }

/-- The near LINK-DOWN record: park records dropped plus entries made orphan, and the POSTs dropped (R184). -/
def nearDownFault (s : State) : FaultBody :=
  linkDownFault .near (s.park.length + s.outs.toList.countP fun o => o.any OutEntry.live)
    (s.park.countP fun r => r.kind == .post)

/-! ## Far link down (R185) -/

/-- One outstanding entry freed at far link down: a WAITING non-orphan is refused LINK, and its fence judged (R95). -/
def State.clearEntry (s : State) (t : BridgeTag) : State :=
  match s.outs[t] with
  | none => s
  | some o =>
    if o.live then ((s.setOut t none).answer o.agent o.tag (.refuse .link 0)).endHold o.held o.agent
    else s.setOut t none

/-- The outstanding table cleared, in ascending bridge tag (R95). -/
def State.clearEntries (s : State) : State := (List.finRange 128).foldl State.clearEntry s

/-- Every purge slot freed without PURGE-DONE, and every CLOSING context CLOSED with its CLOSE-DONE lost (R113,
R128). -/
def State.farDrained (s : State) : State :=
  { s with slots := Vector.replicate 4 none, ctxs := s.ctxs.map CtxRecord.closedIfClosing }

/-- The far LINK-DOWN record: READY records removed plus entries freed, and the POSTs removed (R185). -/
def farDownFault (s : State) : FaultBody :=
  linkDownFault .far (s.park.countP ParkRecord.isReady + s.outs.toList.countP Option.isSome)
    (s.park.countP fun r => r.isReady && r.kind == .post)

/-! ## The commands -/

/-- NEAR_LINK_DOWN (R184). A link that is DOWN cannot be lost again (R175). -/
def execNearLinkDown (s : State) : Host.Outcome State Fault Refusal :=
  if s.near.up then .next (((s.nearLost.completeSlots).makeFault (nearDownFault s)).judgeDrain) else .next s

/-- FAR_LINK_DOWN (R185). A link that is DOWN cannot be lost again (R175). -/
def execFarLinkDown (s : State) : Host.Outcome State Fault Refusal :=
  if s.far.up then
    .next ((((({ s with far := s.far.lost }.sweep (refuseFate ParkRecord.isReady .link 0)).clearEntries).farDrained).makeFault
      (farDownFault s)).judgeDrain)
  else .next s

/-- LINK_UP (R186): bring-up completes; nothing else changes. While power-good is low both links are held DOWN (R189). -/
def execLinkUp (port : Port) (s : State) : Host.Outcome State Fault Refusal :=
  if s.powered then
    match port with
    | .near => .next { s with near := { s.near with up := true } }
    | .far => .next { s with far := { s.far with up := true } }
  else .next s

/-- POWER_ON_RESET (R189): every block takes its power-on state, with the straps sampled (R188). The queue of commands,
the record of sent frames and the model's counter are not the bridge's and stay. -/
def execPowerOnReset (nodeStrap managerStrap : NodeId) (s : State) : Host.Outcome State Fault Refusal :=
  .next { State.powerOn nodeStrap managerStrap with
    near := { PortState.initial with sent := s.near.sent }
    far := { PortState.initial with sent := s.far.sent }
    moment := s.moment
    pending := s.pending }

/-- POWER_GOOD_FALL (R189): the bridge drops whatever it holds, sends nothing further and holds power-on reset. -/
def execPowerGoodFall (s : State) : Host.Outcome State Fault Refusal :=
  .next { State.powerOn s.node s.managerStrap with
    near := { PortState.initial with sent := s.near.sent }
    far := { PortState.initial with sent := s.far.sent }
    powered := false
    moment := s.moment
    pending := s.pending }

/-- The oldest frame a port holds leaves on its UP link (R182), as the port completes it (R183). -/
def PortState.sendOne (p : PortState) : PortState :=
  match p.up, p.queue with
  | true, f :: rest => { p with queue := rest, sent := p.sent ++ [frameBytes f] }
  | _, _ => p

/-- FRAME_LEAVES_PORT (R182). -/
def execFrameLeavesPort (port : Port) (s : State) : Host.Outcome State Fault Refusal :=
  match port with
  | .near => .next { s with near := s.near.sendOne }
  | .far => .next { s with far := s.far.sendOne }

end Sys2Proof.Machine
end

