-- ==== Sys2Proof/Machine/Commands.lean ====
section
/-! DEFINITION. Routing on the far port (R181), the hand-over of a command taken under E to its owner
(R145), and the far frames named for their outcome: discards, replays and NAKs. -/

namespace Sys2Proof.Machine

/-- A frame taken under E, by its kind: one of the seventeen commands, or NAK UNKNOWN (R145, Table 7-3). -/
def takeCommand (f : Frame) (s : State) : State :=
  match commandOf f.kind with
  | none => s.nak f .unknown
  | some .fill => takeFill f s
  | some .deny => takeDeny f s
  | some .pin => takePin f s
  | some .readEntry => takeReadEntry f s
  | some .purge => takePurge f s
  | some .openContext => takeOpenContext f s
  | some .closeContext => takeCloseContext f s
  | some .quiesce => takeQuiesce f s
  | some .resume => takeResume f s
  | some .setParam => takeSetParam f s
  | some .getParam => takeGetParam f s
  | some .readStatus => takeReadStatus f s
  | some .readCounters => takeReadCounters f s
  | some .readFaults => takeReadFaults f s
  | some .clearFaults => takeClearFaults f s
  | some .handover => takeHandover f s
  | some .resetBridge => takeResetBridge f s

/-- A far MGMT frame: the channel's checks, then the command (R138). -/
def State.farMgmt (s : State) (f : Frame) : State := s.channel f (takeCommand f)

/-- A frame taken on the far port, routed by its class (R181). -/
def State.routeFar (s : State) (f : Frame) : State :=
  match f.cls with
  | .request => s.routeRequest f
  | .response => s.routeResponse f
  | .mgmt => s.farMgmt f
  | .fourth => s

/-- A far MGMT frame of any kind (Table 10-1). -/
def mgmtFrame (kind : BitVec 6) (h : Header) (body : List Byte) : Frame :=
  { cls := .mgmt, kind := kind, hdr := h, body := body }

/-- The raw bytes received on the near port (R177). -/
def State.receiveNear (s : State) (bytes : List Byte) : State :=
  if s.near.up = false then s
  else
    match parseFrame bytes with
    | none => { s with ctr := { s.ctr with nearCrc := s.ctr.nearCrc + 1 } }
    | some f => s.arriveNear f fun s => s.routeNear f

/-- The raw bytes received on the far port (R177). -/
def State.receiveFar (s : State) (bytes : List Byte) : State :=
  if s.far.up = false then s
  else
    match parseFrame bytes with
    | none => { s with ctr := { s.ctr with farCrc := s.ctr.farCrc + 1 } }
    | some f => s.arriveFar f fun s => s.routeFar f

/-! ## The commands -/

/-- CRC_DISCARD (R177): bytes that fail the length or CRC test are discarded whole and counted; bytes that pass are a
frame taken (log entry 7). -/
def execCrcDiscard (port : Port) (bytes : List Byte) (s : State) : Host.Outcome State Fault Refusal :=
  match port with
  | .near => .next (s.receiveNear bytes)
  | .far => .next (s.receiveFar bytes)

/-- FAR_FRAME_DISCARD (R181). -/
def execFarFrameDiscard (cls : FrameClass) (kind : BitVec 6) (h : Header) (body : List Byte) (s : State) :
    Host.Outcome State Fault Refusal :=
  .next (s.arriveFar { cls := cls, kind := kind, hdr := h, body := body } fun s =>
    s.routeFar { cls := cls, kind := kind, hdr := h, body := body })

/-- MISROUTED_MGMT (R138). -/
def execMisroutedMgmt (kind : BitVec 6) (h : Header) (body : List Byte) (s : State) :
    Host.Outcome State Fault Refusal :=
  .next (s.arriveFar (mgmtFrame kind h body) fun s => s.farMgmt (mgmtFrame kind h body))

/-- FOREIGN_MGMT (R139). -/
def execForeignMgmt (kind : BitVec 6) (h : Header) (body : List Byte) (s : State) :
    Host.Outcome State Fault Refusal :=
  .next (s.arriveFar (mgmtFrame kind h body) fun s => s.farMgmt (mgmtFrame kind h body))

/-- REPLAY (R142). -/
def execReplay (kind : BitVec 6) (h : Header) (body : List Byte) (s : State) : Host.Outcome State Fault Refusal :=
  .next (s.arriveFar (mgmtFrame kind h body) fun s => s.farMgmt (mgmtFrame kind h body))

/-- NAK_SEQ (R143). -/
def execNakSeq (kind : BitVec 6) (h : Header) (body : List Byte) (s : State) : Host.Outcome State Fault Refusal :=
  .next (s.arriveFar (mgmtFrame kind h body) fun s => s.farMgmt (mgmtFrame kind h body))

/-- NAK_UNKNOWN (R145). -/
def execNakUnknown (kind : BitVec 6) (h : Header) (body : List Byte) (s : State) : Host.Outcome State Fault Refusal :=
  .next (s.arriveFar (mgmtFrame kind h body) fun s => s.farMgmt (mgmtFrame kind h body))

end Sys2Proof.Machine
end

