-- ==== Sys2Proof/Machine/Dispatch.lean ====
section
/-! DEFINITION. The dispatch: one arm per command, each one call of its meaning. -/

namespace Sys2Proof.Machine

def exec (i : Instr) (s : State) : Host.Outcome State Fault Refusal :=
  match i with
  | .nearRequest kind h body => Sys2Proof.Machine.execNearRequest kind h body s
  | .fence h body => Sys2Proof.Machine.execFence h body s
  | .nearFrameDiscard cls kind h body => Sys2Proof.Machine.execNearFrameDiscard cls kind h body s
  | .nearMgmtDiscard kind h body => Sys2Proof.Machine.execNearMgmtDiscard kind h body s
  | .crcDiscard port bytes => Sys2Proof.Machine.execCrcDiscard port bytes s
  | .farResponse kind h body => Sys2Proof.Machine.execFarResponse kind h body s
  | .notTarget kind h body => Sys2Proof.Machine.execNotTarget kind h body s
  | .farFrameDiscard cls kind h body => Sys2Proof.Machine.execFarFrameDiscard cls kind h body s
  | .misroutedMgmt kind h body => Sys2Proof.Machine.execMisroutedMgmt kind h body s
  | .foreignMgmt kind h body => Sys2Proof.Machine.execForeignMgmt kind h body s
  | .replay kind h body => Sys2Proof.Machine.execReplay kind h body s
  | .nakSeq kind h body => Sys2Proof.Machine.execNakSeq kind h body s
  | .nakUnknown kind h body => Sys2Proof.Machine.execNakUnknown kind h body s
  | .fill h body => Sys2Proof.Machine.execFill h body s
  | .deny h body => Sys2Proof.Machine.execDeny h body s
  | .pin h body => Sys2Proof.Machine.execPin h body s
  | .readEntry h body => Sys2Proof.Machine.execReadEntry h body s
  | .purge h body => Sys2Proof.Machine.execPurge h body s
  | .openContext h body => Sys2Proof.Machine.execOpenContext h body s
  | .closeContext h body => Sys2Proof.Machine.execCloseContext h body s
  | .quiesce h body => Sys2Proof.Machine.execQuiesce h body s
  | .resume h body => Sys2Proof.Machine.execResume h body s
  | .setParam h body => Sys2Proof.Machine.execSetParam h body s
  | .getParam h body => Sys2Proof.Machine.execGetParam h body s
  | .readStatus h body => Sys2Proof.Machine.execReadStatus h body s
  | .readCounters h body => Sys2Proof.Machine.execReadCounters h body s
  | .readFaults h body => Sys2Proof.Machine.execReadFaults h body s
  | .clearFaults h body => Sys2Proof.Machine.execClearFaults h body s
  | .handover h body => Sys2Proof.Machine.execHandover h body s
  | .resetBridge h body => Sys2Proof.Machine.execResetBridge h body s
  | .missTimeout id => Sys2Proof.Machine.execMissTimeout id s
  | .missNotice id => Sys2Proof.Machine.execMissNotice id s
  | .responseTimeout tag => Sys2Proof.Machine.execResponseTimeout tag s
  | .secondDeadline tag => Sys2Proof.Machine.execSecondDeadline tag s
  | .nearLinkDown => Sys2Proof.Machine.execNearLinkDown s
  | .farLinkDown => Sys2Proof.Machine.execFarLinkDown s
  | .linkUp port => Sys2Proof.Machine.execLinkUp port s
  | .powerOnReset nodeStrap managerStrap => Sys2Proof.Machine.execPowerOnReset nodeStrap managerStrap s
  | .powerGoodFall => Sys2Proof.Machine.execPowerGoodFall s
  | .arbiterForward => Sys2Proof.Machine.execArbiterForward s
  | .missEntryOffer id => Sys2Proof.Machine.execMissEntryOffer id s
  | .fenceDone agent => Sys2Proof.Machine.execFenceDone agent s
  | .purgeDone slot => Sys2Proof.Machine.execPurgeDone slot s
  | .closeDone ctx => Sys2Proof.Machine.execCloseDone ctx s
  | .quiesced => Sys2Proof.Machine.execQuiesced s
  | .unknownKindRequest kind h body => Sys2Proof.Machine.execUnknownKindRequest kind h body s
  | .frameLeavesPort port => Sys2Proof.Machine.execFrameLeavesPort port s

end Sys2Proof.Machine
end

