-- ==== Sys2Proof/Machine/Ticks.lean ====
section
/-! DEFINITION. The passing of time: what one microsecond of the time base makes fall due (R173, R174). -/

namespace Sys2Proof.Machine

/-- The events of one miss id that have fallen due: its next notice copy, its deadline (R43, R52). -/
def dueOfMiss (s : State) (id : MissId) : List Instr :=
  match s.misses[id].active with
  | none => []
  | some m =>
    (if m.next.any fun t => reached t s.time then [.missNotice id] else [])
      ++ (if reached m.deadline s.time then [.missTimeout id] else [])

/-- The event of one outstanding entry that has fallen due: its first or its second deadline (R90, R91). -/
def dueOfEntry (s : State) (t : BridgeTag) : List Instr :=
  match s.outs[t] with
  | none => []
  | some o =>
    if reached o.deadline s.time then
      match o.phase with
      | .waiting => [.responseTimeout t]
      | .expired => [.secondDeadline t]
    else []

/-- The time events that have fallen due (R174). -/
def dueEvents (s : State) : List Instr :=
  (List.finRange 16).flatMap (dueOfMiss s) ++ (List.finRange 128).flatMap (dueOfEntry s)

/-- The due events in the order in which they are taken: a free order (section 0.6.6; log entry 5). -/
def dueOrder (moment : Nat) (events : List Instr) : List Instr :=
  ((events.zipIdx.map fun (i, n) => (Config.dueRank moment n, i)).insertionSort fun x y => x.1 ≤ y.1).map Prod.snd

/-- One microsecond passes while no command waits: the time base counts up by one, and the events that fall due join
the queue (R173, R174; log entry 4). While power-good is low the time base does not run (R189). -/
def State.tick (s : State) : State :=
  if s.powered then
    let later := { s with time := s.time + 1 }
    { later with pending := dueOrder s.moment (dueEvents later), moment := s.moment + 1 }
  else s

end Sys2Proof.Machine
end

