-- ==== Sys2Proof/Safety.lean ====
section
/-! DEFINITION. The laws the spec says the bridge holds, each as a property of a state, in the terms the
claims use. A safe run keeps them all. -/

namespace Sys2Proof.Safety

open Sys2Proof.Machine

/-! ## The translation cache -/

/-- Every valid entry stands in the set of its page (R1). -/
abbrev Placed (s : State) : Prop :=
  ∀ (t : SetId) (w : WayId), s.cache[t].ways[w].valid = true → setOf s.cache[t].ways[w].page = t

/-- For every context and page at most one valid entry matches (R4). -/
abbrev UniqueMatch (s : State) : Prop :=
  ∀ (c : Ctx) (p : Page) (t u : SetId) (v w : WayId), s.cache[t].ways[v].matchesPair c p = true →
    s.cache[u].ways[w].matchesPair c p = true → t = u ∧ v = w

/-- No two valid ways of a set match a common pair (R4, Table 1-5). -/
abbrev NoConflict (s : State) : Prop :=
  ∀ (t : SetId) (v w : WayId), v ≠ w → s.cache[t].ways[v].valid = true →
    s.cache[t].ways[w].conflicts s.cache[t].ways[v] = false

/-- A set's order is a permutation of its ways, at most three ways are pinned, and a pinned way is valid (R11). -/
abbrev SetLaw (t : CacheSet) : Prop :=
  t.order.Perm [0, 1, 2, 3] ∧ (t.ways.toList.countP Entry.pinned ≤ 3) ∧
    ∀ w : WayId, t.ways[w].pinned = true → t.ways[w].valid = true

/-- Every set keeps its law (R11). -/
abbrev CacheLaw (s : State) : Prop := ∀ t : SetId, SetLaw s.cache[t]

/-! ## The park buffer and the miss table -/

/-- The park buffer never holds more than 64 records (R28). -/
abbrev ParkBound (s : State) : Prop := s.park.length ≤ 64

/-- Every WAITING record waits on an active miss of its own (context, page) (R31, R34, R38, R48). -/
abbrev WaitersLive (s : State) : Prop :=
  ∀ r ∈ s.park, ∀ id : MissId, r.waitsOn id = true →
    s.misses[id].active.any (fun m => m.onPair r.ctx r.page) = true

/-- No WAITING or UNNOTICED record has a pair that a valid entry matches (R31). -/
abbrev ParkedUnmatched (s : State) : Prop :=
  ∀ r ∈ s.park, r.isReady = false → ∀ (t : SetId) (w : WayId), s.cache[t].ways[w].matchesPair r.ctx r.page = false

/-- No two active misses have the same pair (R35). -/
abbrev MissesDistinct (s : State) : Prop :=
  ∀ (i j : MissId) (m n : Miss), s.misses[i].active = some m → s.misses[j].active = some n →
    m.ctx = n.ctx → m.page = n.page → i = j

/-- No UNNOTICED record has the pair of an active miss (R35). -/
abbrev UnnoticedApart (s : State) : Prop :=
  ∀ r ∈ s.park, r.isUnnoticed = true → ∀ id : MissId,
    s.misses[id].active.any (fun m => m.onPair r.ctx r.page) = false

/-- An UNNOTICED record exists only while every miss entry is active (R41). -/
abbrev UnnoticedOnlyFull (s : State) : Prop :=
  s.park.any ParkRecord.isUnnoticed = true → ∀ id : MissId, s.misses[id].active.isSome = true

/-- A miss's copy number is within its repeats, and its next notice time is that of the next copy (R43). -/
abbrev ScheduleLaw (s : State) : Prop :=
  ∀ (id : MissId) (m : Miss), s.misses[id].active = some m →
    m.sent ≤ m.repeats ∧ m.repeats ≤ 7 ∧ m.next = m.nextCopy m.sent

/-! ## Identities in flight, fences -/

/-- The near identities in flight, with repetitions: park records, WAITING non-orphan entries, pending fences
(R62). -/
def identities (s : State) : List (Agent × NearTag) :=
  s.park.map (fun r => (r.agent, r.tag))
    ++ (s.outs.toList.filterMap fun o => o.filter OutEntry.live).map (fun o => (o.agent, o.tag))
    ++ (List.finRange 8).filterMap fun a => s.fences[a].map fun t => (a, t)

/-- No two in-flight near requests share an (agent, tag) (R62). -/
abbrev IdentitiesDistinct (s : State) : Prop := (identities s).Nodup

/-- Fence-held work belongs to an agent with a pending fence, and only live entries are held (R79, R81, R94). -/
abbrev HoldsPending (s : State) : Prop :=
  (∀ r ∈ s.park, r.held = true → s.fences[r.agent].isSome = true) ∧
    ∀ (t : BridgeTag) (o : OutEntry), s.outs[t] = some o → o.held = true →
      o.live = true ∧ s.fences[o.agent].isSome = true

/-- A pending fence holds something (R80). -/
abbrev FencesHold (s : State) : Prop := ∀ a : Agent, s.fences[a].isSome = true → s.heldBy a = true

/-! ## The outstanding table, the ready list, purges -/

/-- An EXPIRED entry carries no mark and no fence hold (R91). -/
abbrev ExpiredBare (s : State) : Prop :=
  ∀ (t : BridgeTag) (o : OutEntry), s.outs[t] = some o → o.phase = .expired → o.marks = [] ∧ o.held = false

/-- A POST is never held in the outstanding table (R70). -/
abbrev OutsNonPosted (s : State) : Prop :=
  ∀ (t : BridgeTag) (o : OutEntry), s.outs[t] = some o → o.kind ≠ .post

/-- The ready list's head cannot leave (R72, R73). -/
abbrev ArbiterSettled (s : State) : Prop := s.forwardHead = none

/-- Every mark carried belongs to a slot in use, and a slot in use has a carrier (R105). -/
abbrev MarksLaw (s : State) : Prop := ∀ k : SlotId, s.slots[k].isSome = true ↔ 0 < s.carriers k

/-! ## Contexts, the bridge state, the channel, the log, the ports -/

/-- A CLOSED context carries nothing: no non-global entry, park record, active miss or WAITING entry (R117). -/
abbrev ClosedEmpty (s : State) : Prop :=
  ∀ c : Ctx, s.ctxs[c].state = .closed →
    (∀ (t : SetId) (w : WayId), s.cache[t].ways[w].valid = true → s.cache[t].ways[w].scope ≠ .context c) ∧
    (∀ r ∈ s.park, r.ctx ≠ c) ∧ (∀ (id : MissId) (m : Miss), s.misses[id].active = some m → m.ctx ≠ c) ∧
    s.ctxWaits c = false

/-- A CLOSING context keeps only WAITING entries, and at least one (R122 to R124, R126). -/
abbrev ClosingDraining (s : State) : Prop :=
  ∀ (c : Ctx) (q : Byte), s.ctxs[c].state = .closing q →
    (∀ (t : SetId) (w : WayId), s.cache[t].ways[w].valid = true → s.cache[t].ways[w].scope ≠ .context c) ∧
    (∀ r ∈ s.park, r.ctx ≠ c) ∧ (∀ (id : MissId) (m : Miss), s.misses[id].active = some m → m.ctx ≠ c) ∧
    s.ctxWaits c = true

/-- While QUIESCED, nothing is parked, no miss is active, nothing is WAITING and no fence is pending (R130). -/
abbrev QuiescedEmpty (s : State) : Prop := ∀ q : Byte, s.bridge = .quiesced q → s.drained = true

/-- While QUIESCING, the drain condition does not hold yet (R132). -/
abbrev QuiescingBusy (s : State) : Prop := ∀ q : Byte, s.bridge = .quiescing q → s.drained = false

/-- Every parameter lies in its range (R147). -/
abbrev ParamsInRange (s : State) : Prop :=
  200 ≤ s.chan.params.missTimeout.toNat ∧ 50 ≤ s.chan.params.noticeInterval.toNat ∧
    s.chan.params.noticeRepeats ≤ 7 ∧ 100 ≤ s.chan.params.responseTimeout.toNat

/-- The bridge is never its own manager (R137, R156). -/
abbrev ManagerElsewhere (s : State) : Prop := s.chan.manager ≠ some s.node

/-- The fault log never holds more than 32 records (R162). -/
abbrev LogBound (s : State) : Prop := s.log.ring.length ≤ 32

/-- A port whose link is DOWN holds no frame (R182). -/
abbrev DownPortsEmpty (s : State) : Prop :=
  (s.near.up = false → s.near.queue = []) ∧ (s.far.up = false → s.far.queue = [])

/-- While the far link is DOWN nothing is READY and no outstanding entry is in use (R58, R95, R96). -/
abbrev FarDownClear (s : State) : Prop :=
  s.far.up = false → s.readyExists = false ∧ ∀ t : BridgeTag, s.outs[t] = none

/-- No body the bridge holds to send, its stored reply's among them, exceeds 300 bytes (R183). -/
abbrev BodiesFit (s : State) : Prop :=
  (∀ f ∈ s.near.queue, f.body.length ≤ 300) ∧ (∀ f ∈ s.far.queue, f.body.length ≤ 300) ∧
    ∀ f, s.chan.stored = some f → f.body.length ≤ 300

/-- The lengths and payloads of the requests held are those of their kind (R29, R61). -/
abbrev RequestsSound (s : State) : Prop :=
  (∀ r ∈ s.park, 1 ≤ r.len ∧ r.len ≤ 256 ∧ payloadFits r.kind r.len r.payload = true ∧
    withinPage r.address r.len = true) ∧
    ∀ (t : BridgeTag) (o : OutEntry), s.outs[t] = some o → 1 ≤ o.len ∧ o.len ≤ 256

/-- While power-good is low both links are DOWN and the time base stands at 0. DEDUCED, log entry 15: R189 gives links DOWN and time 0
at the end of a power-on reset, and of the fall says that the bridge drops what it holds, sends nothing and holds reset. -/
abbrev UnpoweredDark (s : State) : Prop :=
  s.powered = false → s.near.up = false ∧ s.far.up = false ∧ s.time = 0

/-! ## The laws in the groups that the steps keep together -/

/-- The laws of the cache, and that no unresolved record is matched by it (R1, R4, R11, R31). -/
abbrev CacheLaws (s : State) : Prop := CacheLaw s ∧ Placed s ∧ NoConflict s ∧ UniqueMatch s ∧ ParkedUnmatched s

/-- The bounds: park records, fault records, parameters, notice schedules (R28, R43, R137, R147, R162). -/
abbrev BoundLaws (s : State) : Prop :=
  ParkBound s ∧ LogBound s ∧ ParamsInRange s ∧ ScheduleLaw s ∧ ManagerElsewhere s

/-- The laws of the ports and of what they carry (R29, R61, R182, R183), and of an unpowered bridge (the model's reading, log entry 15). -/
abbrev PortLaws (s : State) : Prop := DownPortsEmpty s ∧ UnpoweredDark s ∧ RequestsSound s ∧ BodiesFit s

/-- The laws of the miss table (R34, R35, R41). -/
abbrev MissLaws (s : State) : Prop := MissesDistinct s ∧ WaitersLive s ∧ UnnoticedApart s ∧ UnnoticedOnlyFull s

/-- The laws of the fences (R78 to R81). -/
abbrev FenceLaws (s : State) : Prop := HoldsPending s ∧ FencesHold s

/-- The laws of the ready list and the outstanding table (R58, R70, R72, R95). -/
abbrev ReadyLaws (s : State) : Prop := ArbiterSettled s ∧ FarDownClear s ∧ OutsNonPosted s

/-- The laws of the purge list (R91, R105). -/
abbrev PurgeLaws (s : State) : Prop := MarksLaw s ∧ ExpiredBare s

/-- The laws of the contexts (R117, R126). -/
abbrev ContextLaws (s : State) : Prop := ClosedEmpty s ∧ ClosingDraining s

/-- The laws of the bridge state (R130, R132). -/
abbrev QuiesceLaws (s : State) : Prop := QuiescedEmpty s ∧ QuiescingBusy s

/-! ## The terms of the claims: arrivals -/

/-- A near frame counted at its arrival (R171). -/
def nearTaken (s : State) : State := { s with ctr := { s.ctr with nearFrames := s.ctr.nearFrames + 1 } }

/-- A far frame counted at its arrival (R171). -/
def farTaken (s : State) : State := { s with ctr := { s.ctr with farFrames := s.ctr.farFrames + 1 } }

/-- The near port takes a frame with this body (R175, R177). -/
abbrev NearTakes (s : State) (body : List Byte) : Prop := s.near.up = true ∧ body.length ≤ 300

/-- The far port takes a frame with this body (R175, R177). -/
abbrev FarTakes (s : State) (body : List Byte) : Prop := s.far.up = true ∧ body.length ≤ 300

/-- A READ, WRITE or POST that passes steps 1 to 5 of Table 3-1 as request `r` (R59 to R62). -/
abbrev Arrives (s : State) (kind : ReqKind) (h : Header) (body : List Byte) (r : Request) : Prop :=
  NearTakes s body ∧ agentOf h = some r.agent ∧ nearTagOf h = some r.tag ∧
    judgeBody kind r.agent r.tag body = .good r ∧ s.inFlight r.agent r.tag = false

/-- A request that passes steps 6 to 10 of Table 3-1 (R63 to R67). -/
abbrev Admitted (s : State) (r : Request) : Prop :=
  s.bridge = .running ∧ s.far.up = true ∧ withinPage r.address r.len = true ∧ s.ctxs[r.ctx].state = .opened ∧
    ¬(r.mode = .user ∧ s.ctxs[r.ctx].supOnly = true)

/-- A FENCE that passes steps 1 to 5 of Table 3-1 (R59 to R62). -/
abbrev FenceArrives (s : State) (h : Header) (a : Agent) (t : NearTag) : Prop :=
  s.near.up = true ∧ agentOf h = some a ∧ nearTagOf h = some t ∧ s.inFlight a t = false

/-- A command's frame passes steps 1 to 3 of Table 7-2 (R138 to R141). -/
abbrev UnderE (s : State) (h : Header) (body : List Byte) : Prop :=
  FarTakes s body ∧ nodeField h.dst = s.node ∧ s.chan.manager = some (nodeField h.src) ∧
    h.seq = s.chan.expected

/-- The body length of each command (Table 10-6). -/
def commandLength : Command → Nat
  | .fill => 13
  | .deny => 3
  | .pin => 3
  | .readEntry => 2
  | .purge => 8
  | .openContext => 3
  | .closeContext => 1
  | .quiesce => 0
  | .resume => 0
  | .setParam => 3
  | .getParam => 1
  | .readStatus => 0
  | .readCounters => 1
  | .readFaults => 2
  | .clearFaults => 0
  | .handover => 1
  | .resetBridge => 0

/-- The row of each command (Table 7-3). -/
def commandRow (c : Command) (h : Header) (body : List Byte) : Instr :=
  match c with
  | .fill => .fill h body
  | .deny => .deny h body
  | .pin => .pin h body
  | .readEntry => .readEntry h body
  | .purge => .purge h body
  | .openContext => .openContext h body
  | .closeContext => .closeContext h body
  | .quiesce => .quiesce h body
  | .resume => .resume h body
  | .setParam => .setParam h body
  | .getParam => .getParam h body
  | .readStatus => .readStatus h body
  | .readCounters => .readCounters h body
  | .readFaults => .readFaults h body
  | .clearFaults => .clearFaults h body
  | .handover => .handover h body
  | .resetBridge => .resetBridge h body

/-! ## The terms of the claims: frames -/

/-- Frames handed to an UP near port (R182). -/
def onNear (s : State) (fs : List Frame) : State := { s with near := { s.near with queue := s.near.queue ++ fs } }

/-- Frames handed to an UP far port (R182). -/
def onFar (s : State) (fs : List Frame) : State := { s with far := { s.far with queue := s.far.queue ++ fs } }

/-- A RESPONSE frame to an agent under its near tag (R77). -/
def nearResponse (node : NodeId) (a : Agent) (t : NearTag) (kind : BitVec 6) (body : List Byte) : Frame :=
  { cls := .response, kind := kind
    hdr := { dst := byteOf a.val, src := byteOf node.val, tag := byteOf t.val, seq := 0, last := 0 }
    body := body }

/-- The far REQUEST frame of a translated request (R74, Table 10-3): to the target node under a bridge tag, in the body
context 0, the mode, the 36-bit memory address under four high bits of 0, the length less one, and the payload of a WRITE
or POST. -/
def farRequest (node : NodeId) (kind : ReqKind) (mode : Mode) (len : Nat) (payload : List Byte) (x : Translation)
    (tag : Byte) : Frame :=
  let address : BitVec 40 := 0#4 ++ x.address
  { cls := .request
    kind := match kind with
      | .read => 1
      | .write => 2
      | .post => 3
    hdr := { dst := byteOf x.node.val, src := byteOf node.val, tag := tag, seq := 0, last := 0 }
    body := [0, if mode = .user then 0 else 1, address.extractLsb' 32 8, address.extractLsb' 24 8,
      address.extractLsb' 16 8, address.extractLsb' 8 8, address.extractLsb' 0 8, byteOf (len - 1)] ++
        if kind = .read then [] else payload }

/-- A REFUSE sent on an UP near port and counted; a POST receives none (R69, R77, R170). -/
def refuseNear (s : State) (kind : ReqKind) (a : Agent) (t : NearTag) (reason detail : Byte) : State :=
  if kind = .post then s
  else { onNear s [nearResponse s.node a t 3 [reason, detail]] with
    ctr := { s.ctr with refusals := s.ctr.refusals + 1 } }

/-- A request turned away for a reason without a fault kind of its own: refused, or a POST lost with its POST-LOST
record (R69). -/
def turnedAway (s : State) (r : Request) (reason detail : Byte) : State :=
  if r.kind = .post then
    s.makeFault
      { kind := .postLost, agent := some r.agent, tag := some r.tag, ctx := some r.ctx, page := some (pageOf r.address),
        detail := reason }
  else refuseNear s r.kind r.agent r.tag reason detail

/-- The refusals of a miss's waiters, in park order: a POST receives none (R51, R52). -/
def waiterRefusals (s : State) (id : MissId) (reason detail : Byte) : List Frame :=
  ((s.waiters id).filter fun r => r.kind != .post).map fun r =>
    nearResponse s.node r.agent r.tag 3 [reason, detail]

/-- A miss ended on an UP near link: its waiters refused and gone, its entry free, its generation kept (R47, R51, R52). -/
def missEnded (s : State) (id : MissId) (reason detail : Byte) : State :=
  { onNear s (waiterRefusals s id reason detail) with
    park := s.park.filter fun r => !r.waitsOn id
    misses := s.misses.set id { gen := s.misses[id].gen, active := none }
    ctr := { s.ctr with
      refusals := s.ctr.refusals + BitVec.ofNat 32 ((s.waiters id).countP fun r => r.kind != .post) } }

/-- The reply to a command (R146). -/
def replyTo (s : State) (h : Header) (kind : BitVec 6) (body : List Byte) : Frame :=
  { cls := .mgmt, kind := kind
    hdr := { dst := byteOf (nodeField h.src).val, src := byteOf s.node.val, tag := h.tag, seq := h.seq, last := 0 }
    body := body }

/-- The state after a command is taken whose one further effect is its reply: counted at arrival, replied to on the UP
far port, the reply stored and E advanced (R141, R146, R171). -/
def answered (s : State) (h : Header) (kind : BitVec 6) (body : List Byte) : State :=
  { s with
    far := { s.far with queue := s.far.queue ++ [replyTo s h kind body] }
    chan := { s.chan with stored := some (replyTo s h kind body), expected := s.chan.expected + 1 }
    ctr := { s.ctr with farFrames := s.ctr.farFrames + 1 } }

/-- The state after a command whose ACK is followed at once by one notice on the UP far port (R153 to R155). -/
def answeredAndNotified (s : State) (h : Header) (body : List Byte) (kind : BitVec 6) (notice : List Byte) : State :=
  (answered s h 32 body).notice kind notice

/-- The state after a near request's hit: counted, its way at the front of its set's order, the hits counter up (R5, R12). -/
def hitState (s : State) (p : Page) (w : WayId) : State :=
  { s with
    cache := s.cache.set (setOf p) { ways := s.cache[setOf p].ways, order := w :: s.cache[setOf p].order.erase w }
    ctr := { s.ctr with nearFrames := s.ctr.nearFrames + 1, hits := s.ctr.hits + 1 } }

/-- Nothing waits on the end of a transaction: nothing is READY, no purge slot is in use, no fence is pending, no context
is CLOSING and the bridge is RUNNING. -/
abbrev NothingWaits (s : State) : Prop :=
  s.readyExists = false ∧ (∀ k : SlotId, s.slots[k] = none) ∧ (∀ a : Agent, s.fences[a] = none) ∧
    (∀ c : Ctx, s.ctxs[c].state = .closed ∨ s.ctxs[c].state = .opened) ∧ s.bridge = .running

/-! ## The terms of the claims: the cache -/

/-- A purge pattern and the include-pinned flag name a cache entry (R103, Table 5-1). -/
def entryNamed (pat : Pattern) (includePinned : Bool) (e : Entry) : Bool :=
  e.valid && (includePinned || !e.pinned) &&
    match pat with
    | .all => true
    | .context d => e.scope == .context d
    | .page d q globalToo => e.page == q && (e.scope == .context d || globalToo && e.scope == .allContexts)
    | .allGlobal => e.scope == .allContexts

/-- A purge pattern names the recorded translation of work in flight, by its context, its page and its global flag (R106,
Table 5-1). -/
def workNamed (pat : Pattern) (c : Ctx) (p : Page) (isGlobal : Bool) : Bool :=
  match pat with
  | .all => true
  | .context d => !isGlobal && c == d
  | .page d q globalToo => p == q && if isGlobal then globalToo else c == d
  | .allGlobal => isGlobal

/-- The number of the cache's entries that a test names (R103, R125). -/
def countNamed (s : State) (named : Entry → Bool) : Nat :=
  ((List.finRange 64).map fun i => (List.finRange 4).countP fun w => named s.cache[i].ways[w]).sum

/-- A set whose named ways are invalidated: they keep their other fields (R3) and stand at the back of the order in
ascending way number, behind the rest in the order it had (R13). -/
def setInvalidated (named : Entry → Bool) (t : CacheSet) : CacheSet :=
  let gone := (List.finRange 4).filter fun w => named t.ways[w]
  { ways := t.ways.map fun e => if named e then { e with valid := false, pinned := false } else e
    order := t.order.diff gone ++ gone }

/-- The way that a FILL of this entry takes (R14, R19): an explicit way; under AUTO the one way that holds the identical
key, else the invalid way nearest the back of the order, else the unpinned way nearest the back. -/
abbrev TargetWay (t : CacheSet) (e : Entry) (choice : WayChoice) (w : WayId) : Prop :=
  match choice with
  | .explicit v => w = v
  | .auto =>
    let holdsKey (v : WayId) : Prop := t.ways[v].valid = true ∧ t.ways[v].scope = e.scope ∧ t.ways[v].page = e.page
    (∀ v : WayId, holdsKey v ↔ v = w) ∨
      ((∀ v : WayId, ¬holdsKey v) ∧ ∃ before behind : List WayId, t.order = before ++ w :: behind ∧
        ((t.ways[w].valid = false ∧ ∀ v ∈ behind, t.ways[v].valid = true) ∨
          ((∀ v : WayId, t.ways[v].valid = true) ∧ t.ways[w].pinned = false ∧
            ∀ v ∈ behind, t.ways[v].pinned = true)))

/-- A valid entry and a new one would match a common (context, page) (R20, Table 1-5). -/
abbrev Clash (other new : Entry) : Prop :=
  other.valid = true ∧ other.page = new.page ∧
    (other.scope = .allContexts ∨ new.scope = .allContexts ∨ other.scope = new.scope)

/-! ## The terms of the claims: notices, and the ends of waiting -/

/-- These frames are the notices of these kinds with these bodies, in this order: to the manager, while the far link is UP
and a manager is configured; otherwise none is sent (R153, R154). -/
def AreNotices (s : State) (fs : List Frame) (said : List (BitVec 6 × List Byte)) : Prop :=
  fs.map (fun f => (f.cls, f.hdr.dst, f.kind, f.body)) =
    match s.far.up, s.chan.manager with
    | true, some m => said.map fun x => (.mgmt, byteOf m.val, x.1, x.2)
    | _, _ => []

/-- The PURGE-DONEs of the slots whose last carrier is gone in `u`, in ascending slot number (R109, R110). -/
def purgesDone (s u : State) : List (BitVec 6 × List Byte) :=
  (List.finRange 4).filterMap fun k =>
    if u.carriers k = 0 then s.slots[k].map fun p => (50, [byteOf k.val, p.seq]) else none

/-- The CLOSE-DONEs of the CLOSING contexts for which nothing is WAITING in `u`, in ascending context number (R126). -/
def closesDone (s u : State) : List (BitVec 6 × List Byte) :=
  (List.finRange 16).filterMap fun c =>
    match s.ctxs[c].state with
    | .closing q => if u.ctxWaits c then none else some (51, [byteOf c.val, q])
    | _ => none

/-- The QUIESCED notice of an event that leaves `t`, where it completes the drain (R132). -/
def quiescedSaid (s t : State) : List (BitVec 6 × List Byte) :=
  match s.bridge with
  | .quiescing q => if t.drained then [(52, [q])] else []
  | _ => []

/-- The bridge state after an event that leaves `t`: QUIESCED where it completes the drain (R132). -/
def BridgeJudged (s t : State) : Prop :=
  t.bridge = match s.bridge with
    | .quiescing q => if t.drained then .quiesced q else .quiescing q
    | b => b

/-- What the arbiter leaves of the park buffer: every record that is not READY, and of the READY ones all but some that
stood first (R72). -/
def ReadyHeadsLeft (s t : State) : Prop :=
  t.park.filter (fun r => !r.isReady) = s.park.filter (fun r => !r.isReady) ∧
    t.park.filter ParkRecord.isReady <:+ s.park.filter ParkRecord.isReady

/-- An entry that was FREE, or became so, is FREE, or it carries a request that was READY and leaves at this event (R73,
R75). -/
def FreeOrForwarded (s t : State) (g : BridgeTag) : Prop :=
  ∀ x : OutEntry, t.outs[g] = some x → x.phase = .waiting ∧ x.orphan = false ∧ x.issue = s.time ∧
    ∃ r ∈ s.park, r.isReady = true ∧ r.agent = x.agent ∧ r.tag = x.tag ∧ r.kind = x.kind

/-- Work the arbiter sends: far REQUEST frames, and the PURGE-DONEs that forwarded POSTs complete (R110). -/
def AreForwards (fs : List Frame) : Prop := ∀ f ∈ fs, f.cls = .request ∨ (f.cls = .mgmt ∧ f.kind = 50)

/-- What waits on the WAITING entry `o` at the event that ends its part, where `u` is the state without it (R98): on the
far port the PURGE-DONEs, the CLOSE-DONEs, the arbiter's forwards and QUIESCED, in this order; the slots, contexts and
bridge state that they speak of; and on the near port, behind the entry's own answer, nothing but the DONEs of fences, first
the one that the entry alone held. -/
def PartEnds (s u t : State) (o : OutEntry) (near far : List Frame) : Prop :=
  (∃ purges closes forwards quiesced : List Frame, far = purges ++ closes ++ forwards ++ quiesced ∧
    AreNotices s purges (purgesDone s u) ∧ AreNotices s closes (closesDone s u) ∧ AreForwards forwards ∧
    AreNotices s quiesced (quiescedSaid s t)) ∧
  (∀ k : SlotId, t.slots[k] = if t.carriers k = 0 then none else s.slots[k]) ∧
  (∀ c : Ctx, t.ctxs[c] = match s.ctxs[c].state with
    | .closing _ => if u.ctxWaits c then s.ctxs[c] else { s.ctxs[c] with state := .closed }
    | _ => s.ctxs[c]) ∧
  BridgeJudged s t ∧ ReadyHeadsLeft s t ∧
  (∀ f ∈ near, f.cls = .response ∧ f.kind = 2 ∧ f.body = []) ∧
  (∀ q : NearTag, s.fences[o.agent] = some q → o.held = true → u.heldBy o.agent = false →
    t.fences[o.agent] = none ∧ (s.near.up = true → near.head? = some (nearResponse s.node o.agent q 2 [])))

/-- The READY records at the head of `u`'s list that have left in `t`, forwarded by these frames in park order (R72, R74,
R75): a READ or WRITE under an entry that was FREE, which takes over its marks and its hold. No head is left that could
leave. -/
def HeadsForwarded (s u t : State) (forwards : List Frame) : Prop :=
  t.forwardHead = none ∧ ∃ gone : List ParkRecord,
    u.park.filter ParkRecord.isReady = gone ++ t.park.filter ParkRecord.isReady ∧
    (forwards.filter fun f => f.cls == .request).map (fun f => { f with hdr := { f.hdr with tag := 0 } }) =
      gone.filterMap (fun r => match r.state with
        | .ready x _ => some (farRequest s.node r.kind r.mode r.len r.payload x 0)
        | _ => none) ∧
    ∀ r ∈ gone, r.kind ≠ .post → ∀ (x : Translation) (m : List SlotId), r.state = .ready x m →
      ∃ g : BridgeTag, s.outs[g] = none ∧
        farRequest s.node r.kind r.mode r.len r.payload x (byteOf g.val) ∈ forwards ∧
        t.outs[g] = some
          { phase := .waiting, agent := r.agent, tag := r.tag, kind := r.kind, len := r.len, ctx := r.ctx,
            page := pageOf r.address, isGlobal := x.isGlobal, node := x.node, issue := s.time,
            deadline := s.time + s.chan.params.responseTimeout.setWidth 32, marks := m, orphan := false, held := r.held }

/-- A request whose part in a fence ends at an event: its agent, whether it is fence-held, and the frames that answer it. -/
structure Leaving where
  agent  : Agent
  held   : Bool
  frames : List Frame
  deriving DecidableEq, Repr

/-- The near-port outputs of an event at which requests end their part one after another (R80): each one's answer, and
behind the answer that ends the last hold of its agent's pending fence the fence's DONE. `stays` tells the agents of whom
something stays held after the event. -/
def nearOutputs (s : State) (stays : Agent → Bool) : List Leaving → List Frame
  | [] => []
  | x :: rest =>
    x.frames ++
      (match s.fences[x.agent] with
        | some q =>
          if x.held = true ∧ stays x.agent = false ∧ ∀ y ∈ rest, y.agent = x.agent → y.held = false then
            [nearResponse s.node x.agent q 2 []]
          else []
        | none => []) ++
      nearOutputs s stays rest

/-- These frames are handed to the near port: queued while its link is UP, lost while it is DOWN (R182). -/
def NearSends (s t : State) (fs : List Frame) : Prop :=
  t.near = if s.near.up then { s.near with queue := s.near.queue ++ fs } else s.near

/-! ## The terms of the claims: the release of a FILL (R46) -/

/-- A record that a new entry releases: not READY, and of a (context, page) that the entry matches (R4, R46). -/
def releasedBy (e : Entry) (r : ParkRecord) : Bool :=
  !r.isReady && pageOf r.address == e.page && (e.scope == .allContexts || e.scope == .context r.ctx)

/-- The detail of the RIGHTS refusal of a record by an entry, if it is refused so (R7, Table 1-3). -/
def rightsDetail (e : Entry) (r : ParkRecord) : Option Byte :=
  if r.mode = .user ∧ e.user = false then some 1
  else if (if r.kind = .read then e.read else e.write) = false then some 2
  else none

/-- A released record becomes READY: its rights are granted and the action is FORWARD (R46). -/
def readiedBy (e : Entry) (r : ParkRecord) : Bool :=
  releasedBy e r && rightsDetail e r == none && e.action == .forward

/-- A record as a FILL's release leaves it, where it stays: READY with the entry's translation, without marks, its hold
kept; any other record unchanged (R10, R46). -/
def afterRelease (e : Entry) (r : ParkRecord) : ParkRecord :=
  if readiedBy e r then
    { r with
      state := .ready { node := e.node, address := e.ppage ++ offsetOf r.address, isGlobal := e.scope == .allContexts } [] }
  else r

/-- The answer to a released record that leaves: REFUSE RIGHTS or GUARD, or what ZERO answers; a POST receives none (R7 to
R9, R46). -/
def releaseAnswer (node : NodeId) (e : Entry) (r : ParkRecord) : List Frame :=
  if r.kind = .post then []
  else
    match rightsDetail e r with
    | some d => [nearResponse node r.agent r.tag 3 [6, d]]
    | none =>
      if e.action = .guard then [nearResponse node r.agent r.tag 3 [7, 0]]
      else if r.kind = .read then [nearResponse node r.agent r.tag 1 (List.replicate r.len 0)]
      else [nearResponse node r.agent r.tag 2 []]

/-- The fault record of a released record that is refused, a POST among them (R7, R8, R46). -/
def releaseRecord (e : Entry) (r : ParkRecord) : Option FaultBody :=
  match rightsDetail e r with
  | some d =>
    some { kind := .rights, agent := some r.agent, tag := some r.tag, ctx := some r.ctx, page := some (pageOf r.address),
           detail := d }
  | none =>
    if e.action = .guard then
      some { kind := .guard, agent := some r.agent, tag := some r.tag, ctx := some r.ctx, page := some (pageOf r.address) }
    else none

/-- The FAULT-NOTICEs of the records that one event makes, in append order, while FAULT-NOTICES is ON (R163, R165). -/
def faultsSaid (s : State) (ws : List FaultBody) : List (BitVec 6 × List Byte) :=
  if s.chan.params.faultNotices then
    ws.zipIdx.map fun (w, i) =>
      (49, faultBytes { number := s.log.nextNumber + BitVec.ofNat 16 i, time := s.time, what := w })
  else []

/-- The first access, page and schedule of a miss allocated now for this request, copy 0 fallen due (R40, R43). -/
def freshMiss (s : State) (c : Ctx) (p : Page) (kind : ReqKind) (mode : Mode) : Miss :=
  { ctx := c, page := p, access := if kind = .read then .read else .write, mode := mode, alloc := s.time
    deadline := s.time + s.chan.params.missTimeout.setWidth 32, interval := s.chan.params.noticeInterval
    repeats := s.chan.params.noticeRepeats, sent := 0
    next :=
      if 1 ≤ s.chan.params.noticeRepeats ∧
          timeBefore (s.time + s.chan.params.noticeInterval.setWidth 32)
            (s.time + s.chan.params.missTimeout.setWidth 32) = true then
        some (s.time + s.chan.params.noticeInterval.setWidth 32)
      else none }

/-- The end of miss `id` in a refusal of its waiters (R47, R48, R51, R52, R132): the waiters gone, refused in park order on
an UP near link and counted whether or not it carries them; the freed entry given to the oldest UNNOTICED record with all
of its page, under the next generation, or else free under its own; and on the far port, behind `ack`, copy 0 of that
miss, the FAULT-NOTICE of the record, and QUIESCED. -/
def MissEnds (s t : State) (id : MissId) (reason detail : Byte) (ack : List Frame) (w : FaultBody) : Prop :=
  (s.near.up = true → ∃ l : List Frame, t.near = { s.near with queue := s.near.queue ++ l } ∧
    l.filter (fun f => f.kind == 3) = waiterRefusals s id reason detail ∧ ∀ f ∈ l, f.kind = 2 ∨ f.kind = 3) ∧
  (s.near.up = false → t.near = s.near) ∧
  t.ctr.refusals = s.ctr.refusals + BitVec.ofNat 32 ((s.waiters id).countP fun r => r.kind != .post) ∧
  (∀ j : MissId, j ≠ id → t.misses[j] = s.misses[j]) ∧
  (∃ copies faults quiesced : List Frame, t.far = { s.far with queue := s.far.queue ++ ack ++ copies ++ faults ++ quiesced } ∧
    ((∀ r ∈ s.park, r.state ≠ .unnoticed) →
      t.misses[id] = { gen := s.misses[id].gen, active := none } ∧ t.ctr.misses = s.ctr.misses ∧
      t.park = s.park.filter (fun r => !r.waitsOn id) ∧ copies = []) ∧
    (∀ (before behind : List ParkRecord) (r : ParkRecord), s.park = before ++ r :: behind →
      (∀ q ∈ before, q.state ≠ .unnoticed) → r.state = .unnoticed →
      t.misses[id] = { gen := s.misses[id].gen + 1, active := some (freshMiss s r.ctx (pageOf r.address) r.kind r.mode) } ∧
      t.ctr.misses = s.ctr.misses + 1 ∧
      t.park = (s.park.filter fun q => !q.waitsOn id).map (fun q =>
        if q.state = .unnoticed ∧ q.ctx = r.ctx ∧ pageOf q.address = pageOf r.address then { q with state := .waiting id }
        else q) ∧
      AreNotices s copies [(48, [byteOf id.val, s.misses[id].gen + 1, 0, byteOf r.ctx.val] ++
        beBytes 4 (pageOf r.address).toNat ++
        [byteOf ((pageOf r.address).toNat % 64), byteOf (s.cache[setOf (pageOf r.address)].victim).val,
          (if r.kind = .read then 0 else 2) + (if r.mode = .user then 0 else 1),
          byteOf (s.park.countP fun q =>
            q.state == .unnoticed && q.ctx == r.ctx && pageOf q.address == pageOf r.address)])]) ∧
    AreNotices s faults (if s.chan.params.faultNotices then
      [(49, faultBytes { number := s.log.nextNumber, time := s.time, what := w })] else []) ∧
    AreNotices s quiesced (quiescedSaid s t)) ∧
  t.log = s.log.append s.time w ∧ BridgeJudged s t ∧ t.cache = s.cache ∧ t.ctxs = s.ctxs ∧ t.outs = s.outs ∧
  t.slots = s.slots

/-- The time events due at a state's time (R43, R52, R90, R91, R174). -/
def Due (s : State) : Instr → Prop
  | .missNotice id => ∃ m t, s.misses[id].active = some m ∧ m.next = some t ∧ reached t s.time = true
  | .missTimeout id => ∃ m, s.misses[id].active = some m ∧ reached m.deadline s.time = true
  | .responseTimeout t => ∃ o, s.outs[t] = some o ∧ o.phase = .waiting ∧ reached o.deadline s.time = true
  | .secondDeadline t => ∃ o, s.outs[t] = some o ∧ o.phase = .expired ∧ reached o.deadline s.time = true
  | _ => False

/-- The non-posted near identities in flight, with repetitions (R62, R77). -/
def nonPosted (s : State) : List (Agent × NearTag) :=
  (s.park.filter fun r => r.kind != .post).map (fun r => (r.agent, r.tag))
    ++ (s.outs.toList.filterMap fun o => o.filter OutEntry.live).map (fun o => (o.agent, o.tag))
    ++ (List.finRange 8).filterMap fun a => s.fences[a].map fun t => (a, t)

/-- The commands by which no near frame arrives or leaves and no near identity is lost unanswered: all but near frames, the
near port's sending, near link down and the power events (R77). -/
def keepsAnswers : Instr → Bool
  | .nearRequest _ _ _ => false
  | .fence _ _ => false
  | .nearFrameDiscard _ _ _ _ => false
  | .nearMgmtDiscard _ _ _ => false
  | .unknownKindRequest _ _ _ => false
  | .crcDiscard .near _ => false
  | .frameLeavesPort .near => false
  | .nearLinkDown => false
  | .powerOnReset _ _ => false
  | .powerGoodFall => false
  | _ => true

/-- A frame answers this near identity (R77). -/
def answers (a : Agent) (t : NearTag) (f : Frame) : Bool :=
  f.cls == .response && f.hdr.dst == byteOf a.val && f.hdr.tag == byteOf t.val

end Sys2Proof.Safety
end

