-- ==== Sys2Proof/Certificates/Slice0/Obligations.lean ====
section
/-! DEFINITION. The statements for the provers: what each command does, by the spec's rules, and the laws
that every step keeps. -/

section Statements

open Sys2Proof Sys2Proof.Machine Sys2Proof.Safety

/-! ## The step and the queue -/

/-- A step takes the command at the front of the queue (the block's own form of R140 and section 0.6.6). -/
def Obligations.StepTakesTheFront : Prop :=
  ∀ (c : Instr) (rest : List Instr) (s : State),
    step { s with pending := c :: rest } = exec c { s with pending := rest }

/-- With nothing waiting one microsecond passes (R173): the time base counts up by one, and what waits then are exactly the
events due (R174), in an order that is left free. That a step on an empty queue is a tick, and that the due events
join the queue, are the model's choices (log entries 4 and 5). With power-good low nothing happens: the model's
reading of R189 (log entry 15). -/
def Obligations.IdleStepIsOneMicrosecond : Prop :=
  ∀ s : State, s.pending = [] →
    (s.powered = true → ∃ q : List Instr,
      step s = .next { s with time := s.time + 1, moment := s.moment + 1, pending := q } ∧
        q.Nodup ∧ ∀ c : Instr, c ∈ q ↔ Due { s with time := s.time + 1 } c) ∧
    (s.powered = false → step s = .next s)

/-- Every command answers a next state, leaves the queue as it finds it, and only the power events set the time base
(R173), the node id, the strap value and the power state (R188, R189). -/
def Obligations.CommandsKeepQueueTimeAndStraps : Prop :=
  ∀ (c : Instr) (s : State), ∃ t : State, exec c s = .next t ∧ t.pending = s.pending ∧
    ((t.time = s.time ∧ t.node = s.node ∧ t.managerStrap = s.managerStrap ∧ t.powered = s.powered) ∨
      (∃ n m, c = .powerOnReset n m) ∨ c = .powerGoodFall)

/-! ## Reset, power and the ports -/

/-- The state at the end of a power-on reset (R27, R55, R78, R83, R114, R117, R135, R136, R137, R147, R162, R172, R173,
R175). That State.reset samples unconnected straps is the model's choice (log entry 1). -/
def Obligations.PowerOnState : Prop :=
  (∀ n m : NodeId, ∃ s : State, s = State.powerOn n m ∧
    (∀ (t : SetId) (w : WayId), s.cache[t].order = [3, 2, 1, 0] ∧ s.cache[t].ways[w] =
      { valid := false, scope := .context 0, page := 0, node := 0, ppage := 0, action := .forward, read := false,
        write := false, user := false, pinned := false }) ∧
    s.park = [] ∧ (∀ id : MissId, s.misses[id] = { gen := 0, active := none }) ∧
    (∀ a : Agent, s.fences[a] = none) ∧ (∀ t : BridgeTag, s.outs[t] = none) ∧ (∀ k : SlotId, s.slots[k] = none) ∧
    (∀ c : Ctx, s.ctxs[c] = { state := .closed, policy := .notice, supOnly := false }) ∧
    s.bridge = .running ∧ s.cause = .powerOn ∧
    s.chan = { manager := if m = n then none else some m, expected := 0, stored := none, noticeSeq := 0,
               params := { missTimeout := 2000, noticeInterval := 500, noticeRepeats := 3, responseTimeout := 4000,
                           faultNotices := true } } ∧
    s.log = { ring := [], nextNumber := 0, overwritten := 0 } ∧
    s.ctr = { nearFrames := 0, farFrames := 0, nearCrc := 0, farCrc := 0, hits := 0, misses := 0, exhaustion := 0,
              notices := 0, refusals := 0, late := 0 } ∧
    s.time = 0 ∧ s.near = { up := false, queue := [], sent := [] } ∧ s.far = { up := false, queue := [], sent := [] } ∧
    s.node = n ∧ s.managerStrap = m ∧ s.powered = true ∧ s.moment = 0 ∧ s.pending = []) ∧
  State.reset = State.powerOn 0 0

/-- Power-good rising and falling (R188, R189): all but the model's own records is at power-on; after a fall nothing is sent,
no link comes UP and the time base does not run. Bring-up completes: the link is UP and nothing else changes (R186). The
oldest frame a port holds leaves on an UP link, with its length and its trailer; on a DOWN link, or with none held,
nothing leaves (R182, R183). That a rise of power-good is taken in every state, and what an unpowered bridge holds, are
the model's readings (log entries 12 and 15). -/
def Obligations.PowerLinksAndSending : Prop :=
  ∀ s : State,
    (∀ n m : NodeId, exec (.powerOnReset n m) s = .next { State.powerOn n m with
      near := { up := false, queue := [], sent := s.near.sent }, far := { up := false, queue := [], sent := s.far.sent },
      moment := s.moment, pending := s.pending }) ∧
    exec .powerGoodFall s = .next { State.powerOn s.node s.managerStrap with
      near := { up := false, queue := [], sent := s.near.sent }, far := { up := false, queue := [], sent := s.far.sent },
      powered := false, moment := s.moment, pending := s.pending } ∧
    (s.powered = false → ∀ p : Port, exec (.linkUp p) s = .next s) ∧
    (s.powered = true →
      exec (.linkUp .near) s = .next { s with near := { s.near with up := true } } ∧
      exec (.linkUp .far) s = .next { s with far := { s.far with up := true } }) ∧
    (∀ f rest, s.near.up = true → s.near.queue = f :: rest →
      exec (.frameLeavesPort .near) s =
        .next { s with near := { s.near with queue := rest, sent := s.near.sent ++ [frameBytes f] } }) ∧
    (∀ f rest, s.far.up = true → s.far.queue = f :: rest →
      exec (.frameLeavesPort .far) s =
        .next { s with far := { s.far with queue := rest, sent := s.far.sent ++ [frameBytes f] } }) ∧
    (s.near.up = false ∨ s.near.queue = [] → exec (.frameLeavesPort .near) s = .next s) ∧
    (s.far.up = false ∨ s.far.queue = [] → exec (.frameLeavesPort .far) s = .next s)

/-- Near link down (R184, R57, R81, R94, R110, R115, R132): what it drops, what it makes orphan, what it leaves, its record, and on the
far port the PURGE-DONEs, the record's FAULT-NOTICE and QUIESCED, in this order. That on a DOWN link it does not happen is
the model's reading (log entry 3). -/
def Obligations.NearLinkDown : Prop :=
  ∀ s : State,
    (s.near.up = false → exec .nearLinkDown s = .next s) ∧
    (s.near.up = true → ∃ t : State, exec .nearLinkDown s = .next t ∧
      t.near = { up := false, queue := [], sent := s.near.sent } ∧ t.park = [] ∧ (∀ a : Agent, t.fences[a] = none) ∧
      (∀ g : BridgeTag, t.outs[g] = (s.outs[g]).map fun o =>
        if o.phase = .waiting ∧ o.orphan = false then { o with orphan := true, held := false } else o) ∧
      (∀ k : SlotId, t.slots[k] =
        if ∃ (g : BridgeTag) (o : OutEntry), s.outs[g] = some o ∧ o.phase = .waiting ∧ k ∈ o.marks then s.slots[k]
        else none) ∧
      t.log = s.log.append s.time
        { kind := .linkDown, port := some .near
          count := some (byteOf (s.park.length + s.outs.toList.countP fun o =>
            o.any fun e => e.phase == .waiting && !e.orphan))
          detail := byteOf (s.park.countP fun r => r.kind == .post) } ∧
      t.bridge = (match s.bridge with
        | .quiescing q =>
          if (∀ id : MissId, s.misses[id].active = none) ∧
              (∀ (g : BridgeTag) (o : OutEntry), s.outs[g] = some o → o.phase = .expired) then .quiesced q
          else s.bridge
        | b => b) ∧
      (∃ purges faults quiesced : List Frame, t.far = { s.far with queue := s.far.queue ++ purges ++ faults ++ quiesced } ∧
        AreNotices s purges (purgesDone s { s with park := [] }) ∧
        (∀ w : FaultBody, w = { kind := .linkDown, port := some .near
                                count := some (byteOf (s.park.length + s.outs.toList.countP fun o =>
                                  o.any fun e => e.phase == .waiting && !e.orphan))
                                detail := byteOf (s.park.countP fun r => r.kind == .post) } →
          AreNotices s faults (faultsSaid s [w])) ∧
        AreNotices s quiesced (quiescedSaid s t)) ∧
      t.cache = s.cache ∧ t.misses = s.misses ∧ t.ctxs = s.ctxs ∧ t.cause = s.cause ∧
      t.chan.params = s.chan.params ∧ t.chan.manager = s.chan.manager ∧ t.chan.expected = s.chan.expected ∧
      t.chan.stored = s.chan.stored ∧ t.ctr.refusals = s.ctr.refusals)

/-- Far link down (R185, R58, R80, R81, R95, R113, R128, R132): the READY records and every outstanding entry go, refused LINK on the near
port in park order and then by bridge tag, each refusal that ends a fence's last hold followed by its DONE; the refusals
are counted, also while the near link is DOWN; slots and closes end without a notice; the bridge may become QUIESCED, with no
notice; the rest stays. What the fences do is said where only live work is held (an invariant, FenceLawsKept). That on a DOWN
link it does not happen is the model's reading (log entry 3). -/
def Obligations.FarLinkDown : Prop :=
  ∀ s : State,
    (s.far.up = false → exec .farLinkDown s = .next s) ∧
    (s.far.up = true → ∃ t : State, exec .farLinkDown s = .next t ∧
      t.far = { up := false, queue := [], sent := s.far.sent } ∧
      t.park = s.park.filter (fun r => !r.isReady) ∧ (∀ g : BridgeTag, t.outs[g] = none) ∧
      (∀ k : SlotId, t.slots[k] = none) ∧
      (∀ c : Ctx, t.ctxs[c] = match s.ctxs[c].state with
        | .closing _ => { s.ctxs[c] with state := .closed }
        | _ => s.ctxs[c]) ∧
      (s.near.up = true → ∃ l : List Frame, t.near = { s.near with queue := s.near.queue ++ l } ∧
        l.filter (fun f => f.kind == 3) =
          ((s.park.filter fun r => r.isReady && r.kind != .post).map fun r =>
            nearResponse s.node r.agent r.tag 3 [11, 0]) ++
          ((s.outs.toList.filterMap id).filter fun o => o.phase == .waiting && !o.orphan).map fun o =>
            nearResponse s.node o.agent o.tag 3 [11, 0]) ∧
      (s.near.up = false → t.near = s.near) ∧
      (HoldsPending s → ∀ stays : Agent → Bool, (∀ a, stays a = s.park.any fun r => !r.isReady && r.held && r.agent == a) →
        NearSends s t (nearOutputs s stays
          ((s.park.filter ParkRecord.isReady).map (fun r =>
            { agent := r.agent, held := r.held
              frames := if r.kind = .post then [] else [nearResponse s.node r.agent r.tag 3 [11, 0]] }) ++
          ((s.outs.toList.filterMap id).filter fun o => o.phase == .waiting && !o.orphan).map fun o =>
            { agent := o.agent, held := o.held, frames := [nearResponse s.node o.agent o.tag 3 [11, 0]] })) ∧
        ∀ a : Agent, t.fences[a] = if stays a = false ∧ ((∃ r ∈ s.park, r.isReady = true ∧ r.held = true ∧ r.agent = a) ∨
            ∃ (g : BridgeTag) (o : OutEntry), s.outs[g] = some o ∧ o.held = true ∧ o.agent = a) then none
          else s.fences[a]) ∧
      t.ctr.refusals = s.ctr.refusals +
        BitVec.ofNat 32 ((s.park.countP fun r => r.isReady && r.kind != .post) +
          (s.outs.toList.filterMap id).countP fun o => o.phase == .waiting && !o.orphan) ∧
      BridgeJudged s t ∧
      t.log = s.log.append s.time
        { kind := .linkDown, port := some .far
          count := some (byteOf (s.park.countP ParkRecord.isReady + s.outs.toList.countP Option.isSome))
          detail := byteOf (s.park.countP fun r => r.isReady && r.kind == .post) } ∧
      t.chan = s.chan ∧ t.cache = s.cache ∧ t.misses = s.misses ∧ t.cause = s.cause ∧
      t.ctr.notices = s.ctr.notices)

/-! ## Frames as bytes -/

/-- A frame sent and received is the frame: no field of an encoding is lost or changed (R177, R178, R183, R194, Table 10-1). -/
def Obligations.SentFrameIsReceived : Prop :=
  ∀ f : Frame, f.body.length ≤ 300 → parseFrame (frameBytes f) = some f

/-- Bytes received that are no frame's (they fail the length or the CRC test) are counted as a CRC discard of their port and
change nothing else (R177). That on a DOWN link the bytes do nothing is the model's reading (log entry 11). -/
def Obligations.CrcDiscard : Prop :=
  ∀ (s : State) (bytes : List Byte),
    ((¬∃ f : Frame, f.body.length ≤ 300 ∧ frameBytes f = bytes) →
      (s.near.up = true →
        exec (.crcDiscard .near bytes) s = .next { s with ctr := { s.ctr with nearCrc := s.ctr.nearCrc + 1 } }) ∧
      (s.far.up = true →
        exec (.crcDiscard .far bytes) s = .next { s with ctr := { s.ctr with farCrc := s.ctr.farCrc + 1 } })) ∧
    (s.near.up = false → exec (.crcDiscard .near bytes) s = .next s) ∧
    (s.far.up = false → exec (.crcDiscard .far bytes) s = .next s)

/-- The entry record of a valid entry, with a way and a ticket behind it, is read back as it was written (R17, Table 10-5,
Table 10-6). -/
def Obligations.EntryRecordIsReadBack : Prop :=
  ∀ (e : Entry) (id : MissId) (gen : Byte) (w : WayId), e.valid = true →
    fillArgs (entryBytes e ++ [4, 255, gen]) = some { entry := e, way := .auto, ticket := none } ∧
    fillArgs (entryBytes e ++ [byteOf w.val, byteOf id.val, gen]) =
      some { entry := e, way := .explicit w, ticket := some { id := id, gen := gen } }

/-! ## Discards on the near port -/

/-- A near frame of class RESPONSE or of the fourth encoding counts its frames-taken counter and nothing else (R179). A near
REQUEST of unknown kind, or with an agent or a tag out of range, makes a MALFORMED record of detail 16, 17 or 18 and
nothing else (R60; which fields a record with one field out of range carries is read from R60, log entry 10). -/
def Obligations.NearFramesDiscarded : Prop :=
  ∀ (s : State) (h : Header) (body : List Byte) (kind : BitVec 6), NearTakes s body →
    exec (.nearFrameDiscard .response kind h body) s = .next (nearTaken s) ∧
    exec (.nearFrameDiscard .fourth kind h body) s = .next (nearTaken s) ∧
    (kind.toNat = 0 ∨ 4 < kind.toNat →
      exec (.unknownKindRequest kind h body) s = .next ((nearTaken s).makeFault
        { kind := .malformed, agent := agentOf h, tag := nearTagOf h, port := some .near, detail := 16 })) ∧
    (agentOf h = none → ∀ k : ReqKind,
      exec (.nearRequest k h body) s = .next ((nearTaken s).makeFault
        { kind := .malformed, tag := nearTagOf h, port := some .near, detail := 17 })) ∧
    (agentOf h = none →
      exec (.fence h body) s = .next ((nearTaken s).makeFault
        { kind := .malformed, tag := nearTagOf h, port := some .near, detail := 17 })) ∧
    (∀ a : Agent, agentOf h = some a → nearTagOf h = none →
      (∀ k : ReqKind, exec (.nearRequest k h body) s = .next ((nearTaken s).makeFault
        { kind := .malformed, agent := some a, port := some .near, detail := 18 })) ∧
      exec (.fence h body) s = .next ((nearTaken s).makeFault
        { kind := .malformed, agent := some a, port := some .near, detail := 18 }))

/-- A MGMT frame on the near port is discarded with a FOREIGN-MGMT record, whatever it holds (R180). -/
def Obligations.NearMgmtDiscarded : Prop :=
  ∀ (s : State) (h : Header) (body : List Byte) (kind : BitVec 6), NearTakes s body →
    exec (.nearMgmtDiscard kind h body) s = .next ((nearTaken s).makeFault
      { kind := .foreignMgmt, port := some .near, node := some (nodeField h.src),
        detail := BitVec.ofNat 8 kind.toNat })

/-! ## Request intake -/

/-- A body inconsistent with its kind is refused MALFORMED, a POST without response, with one MALFORMED record (R61): first the
length, then the context, then the mode, and a FENCE for any body at all. A sound request or FENCE whose (agent, tag) is
in flight is discarded with a DUP-TAG record, and the request in flight is not disturbed (R62). -/
def Obligations.MalformedAndDuplicates : Prop :=
  (
    ∀ (s : State) (h : Header) (body : List Byte) (a : Agent) (g : NearTag), NearTakes s body →
      agentOf h = some a → nearTagOf h = some g →
      (∀ kind : ReqKind,
        ((body.length < 8 ∨ (kind = .read ∧ body.length ≠ 8) ∨
            (kind ≠ .read ∧ body.length ≠ 9 + (body.getD 7 0).toNat)) →
          exec (.nearRequest kind h body) s = .next ((refuseNear (nearTaken s) kind a g 12 1).makeFault
            { kind := .malformed, agent := some a, tag := some g, port := some .near, detail := 1
              ctx := if body = [] then none else inRange 16 (body.getD 0 0).toNat })) ∧
        ((kind = .read ∧ body.length = 8) ∨
            (kind ≠ .read ∧ 8 < body.length ∧ body.length = 9 + (body.getD 7 0).toNat) →
          (15 < (body.getD 0 0).toNat →
            exec (.nearRequest kind h body) s = .next ((refuseNear (nearTaken s) kind a g 12 2).makeFault
              { kind := .malformed, agent := some a, tag := some g, port := some .near, detail := 2 })) ∧
          ((body.getD 0 0).toNat ≤ 15 → 1 < (body.getD 1 0).toNat →
            exec (.nearRequest kind h body) s = .next ((refuseNear (nearTaken s) kind a g 12 3).makeFault
              { kind := .malformed, agent := some a, tag := some g, port := some .near, detail := 3
                ctx := inRange 16 (body.getD 0 0).toNat })))) ∧
      (body ≠ [] →
        exec (.fence h body) s = .next ((refuseNear (nearTaken s) .read a g 12 4).makeFault
          { kind := .malformed, agent := some a, tag := some g, port := some .near, detail := 4 }))) ∧
  ∀ (s : State) (h : Header) (a : Agent) (g : NearTag), s.near.up = true → agentOf h = some a →
    nearTagOf h = some g →
    ((∃ r ∈ s.park, r.agent = a ∧ r.tag = g) ∨
      (∃ (i : BridgeTag) (o : OutEntry), s.outs[i] = some o ∧ o.phase = .waiting ∧ o.orphan = false ∧ o.agent = a ∧
        o.tag = g) ∨ s.fences[a] = some g) →
    (∀ (kind : ReqKind) (body : List Byte) (r : Request), body.length ≤ 300 → judgeBody kind a g body = .good r →
      exec (.nearRequest kind h body) s = .next ((nearTaken s).makeFault
        { kind := .dupTag, agent := some a, tag := some g, port := some .near
          detail := match kind with
            | .read => 1
            | .write => 2
            | .post => 3 })) ∧
    exec (.fence h []) s = .next ((nearTaken s).makeFault
      { kind := .dupTag, agent := some a, tag := some g, port := some .near, detail := 4 })

/-- The refusals of steps 6 to 10, in their order (R63 to R67, R69): nothing changes but the refusal or the POST's record. -/
def Obligations.IntakeRefusals : Prop :=
  ∀ (s : State) (kind : ReqKind) (h : Header) (body : List Byte) (r : Request), Arrives s kind h body r →
    (s.bridge ≠ .running → exec (.nearRequest kind h body) s = .next (turnedAway (nearTaken s) r 1 1)) ∧
    (s.bridge = .running → s.far.up = false →
      exec (.nearRequest kind h body) s = .next (turnedAway (nearTaken s) r 11 0)) ∧
    (s.bridge = .running → s.far.up = true →
      (16384 < (offsetOf r.address).toNat + r.len →
        exec (.nearRequest kind h body) s = .next
          (if kind = .post then (nearTaken s).makeFault
            { kind := .boundary, agent := some r.agent, tag := some r.tag, ctx := some r.ctx,
              page := some (pageOf r.address) }
          else refuseNear (nearTaken s) kind r.agent r.tag 8 0)) ∧
      ((offsetOf r.address).toNat + r.len ≤ 16384 →
        (s.ctxs[r.ctx].state = .closed →
          exec (.nearRequest kind h body) s = .next (turnedAway (nearTaken s) r 2 0)) ∧
        (∀ q, s.ctxs[r.ctx].state = .closing q →
          exec (.nearRequest kind h body) s = .next (turnedAway (nearTaken s) r 2 1)) ∧
        (s.ctxs[r.ctx].state = .opened → r.mode = .user → s.ctxs[r.ctx].supOnly = true →
          exec (.nearRequest kind h body) s = .next ((refuseNear (nearTaken s) kind r.agent r.tag 6 3).makeFault
            { kind := .rights, agent := some r.agent, tag := some r.tag, ctx := some r.ctx,
              page := some (pageOf r.address), detail := 3 }))))

/-- The cases of a miss, in the order of Table 2-4 (R36 to R41, R33, R43). -/
def Obligations.MissCases : Prop :=
  ∀ (s : State) (kind : ReqKind) (h : Header) (body : List Byte) (r : Request), Arrives s kind h body r →
    Admitted s r → (∀ w : WayId, s.cache[setOf (pageOf r.address)].ways[w].matchesPair r.ctx (pageOf r.address) = false) →
    (s.ctxs[r.ctx].policy = .refuse → exec (.nearRequest kind h body) s = .next (turnedAway (nearTaken s) r 3 0)) ∧
    (s.ctxs[r.ctx].policy = .notice → 64 ≤ s.park.length →
      exec (.nearRequest kind h body) s = .next (turnedAway (nearTaken s) r 1 0)) ∧
    (s.ctxs[r.ctx].policy = .notice → s.park.length < 64 →
      (∀ id : MissId, s.missFor r.ctx (pageOf r.address) = some id →
        exec (.nearRequest kind h body) s = .next { nearTaken s with park := s.park ++ [parkedAs r (.waiting id)] }) ∧
      (s.missFor r.ctx (pageOf r.address) = none →
        ((∃ q ∈ s.park, q.state = .unnoticed ∧ q.ctx = r.ctx ∧ pageOf q.address = pageOf r.address) →
          exec (.nearRequest kind h body) s = .next { nearTaken s with park := s.park ++ [parkedAs r .unnoticed] }) ∧
        ((¬∃ q ∈ s.park, q.state = .unnoticed ∧ q.ctx = r.ctx ∧ pageOf q.address = pageOf r.address) →
          (∀ id : MissId, s.freeMissId = some id →
            exec (.nearRequest kind h body) s = .next ({ nearTaken s with
              park := s.park ++ [parkedAs r (.waiting id)]
              misses := s.misses.set id
                { gen := s.misses[id].gen + 1
                  active := some
                    { ctx := r.ctx, page := pageOf r.address
                      access := if kind = ReqKind.read then Access.read else Access.write
                      mode := r.mode, alloc := s.time
                      deadline := s.time + s.chan.params.missTimeout.setWidth 32
                      interval := s.chan.params.noticeInterval, repeats := s.chan.params.noticeRepeats, sent := 0
                      next :=
                        if 1 ≤ s.chan.params.noticeRepeats ∧
                            timeBefore (s.time + s.chan.params.noticeInterval.setWidth 32)
                              (s.time + s.chan.params.missTimeout.setWidth 32) = true then
                          some (s.time + s.chan.params.noticeInterval.setWidth 32)
                        else none } }
              ctr := { s.ctr with nearFrames := s.ctr.nearFrames + 1, misses := s.ctr.misses + 1 } }.notice 48
                ([byteOf id.val, s.misses[id].gen + 1, 0, byteOf r.ctx.val] ++ beBytes 4 (pageOf r.address).toNat ++
                  [byteOf ((pageOf r.address).toNat % 64), byteOf (s.cache[setOf (pageOf r.address)].victim).val,
                    (if kind = ReqKind.read then 0 else 2) + (if r.mode = Mode.user then 0 else 1),
                    byteOf ((s.waiters id).length + 1)]))) ∧
          (s.freeMissId = none →
            exec (.nearRequest kind h body) s = .next { nearTaken s with
              park := s.park ++ [parkedAs r .unnoticed]
              ctr := { s.ctr with
                nearFrames := s.ctr.nearFrames + 1, exhaustion := s.ctr.exhaustion + 1 } }))))

/-- A hit that the entry check refuses, or that action ZERO answers (R5, R7, R8, R9): user allowed, then the access, then the
action. -/
def Obligations.HitsRefusedOrZero : Prop :=
  ∀ (s : State) (kind : ReqKind) (h : Header) (body : List Byte) (r : Request) (w : WayId) (e : Entry),
    Arrives s kind h body r → Admitted s r →
    s.cache[setOf (pageOf r.address)].lookup r.ctx (pageOf r.address) = some w →
    s.cache[setOf (pageOf r.address)].ways[w] = e →
    (r.mode = .user → e.user = false →
      exec (.nearRequest kind h body) s = .next
        ((refuseNear (hitState s (pageOf r.address) w) kind r.agent r.tag 6 1).makeFault
          { kind := .rights, agent := some r.agent, tag := some r.tag, ctx := some r.ctx,
            page := some (pageOf r.address), detail := 1 })) ∧
    ((r.mode = .supervisor ∨ e.user = true) → (if kind = ReqKind.read then e.read else e.write) = false →
      exec (.nearRequest kind h body) s = .next
        ((refuseNear (hitState s (pageOf r.address) w) kind r.agent r.tag 6 2).makeFault
          { kind := .rights, agent := some r.agent, tag := some r.tag, ctx := some r.ctx,
            page := some (pageOf r.address), detail := 2 })) ∧
    ((r.mode = .supervisor ∨ e.user = true) → (if kind = ReqKind.read then e.read else e.write) = true →
      (e.action = .guard →
        exec (.nearRequest kind h body) s = .next
          ((refuseNear (hitState s (pageOf r.address) w) kind r.agent r.tag 7 0).makeFault
            { kind := .guard, agent := some r.agent, tag := some r.tag, ctx := some r.ctx,
              page := some (pageOf r.address) })) ∧
      (e.action = .zero →
        exec (.nearRequest kind h body) s = .next (onNear (hitState s (pageOf r.address) w)
          (match kind with
            | .read => [nearResponse s.node r.agent r.tag 1 (List.replicate r.len 0)]
            | .write => [nearResponse s.node r.agent r.tag 2 []]
            | .post => []))))

/-- The four cases of a FORWARD hit (R10, R71, R74 to R76): a POST leaves at once, a READ or WRITE under the lowest FREE entry, each
in the far REQUEST frame that R74 gives it; otherwise it parks READY, and with 64 records it is refused BUSY. -/
def Obligations.ForwardHits : Prop :=
  ∀ (s : State) (kind : ReqKind) (h : Header) (body : List Byte) (r : Request) (w : WayId) (e : Entry),
    Arrives s kind h body r → Admitted s r →
    s.cache[setOf (pageOf r.address)].lookup r.ctx (pageOf r.address) = some w →
    s.cache[setOf (pageOf r.address)].ways[w] = e → (r.mode = .supervisor ∨ e.user = true) →
    (if kind = ReqKind.read then e.read else e.write) = true → e.action = .forward →
    (s.readyExists = false → kind = .post →
      exec (.nearRequest kind h body) s = .next (onFar (hitState s (pageOf r.address) w)
        [farRequest s.node kind r.mode r.len r.payload
          { node := e.node, address := e.ppage ++ offsetOf r.address, isGlobal := e.scope == .allContexts } 0])) ∧
    (∀ g : BridgeTag, s.readyExists = false → kind ≠ .post → s.freeTag = some g →
      exec (.nearRequest kind h body) s = .next { onFar (hitState s (pageOf r.address) w)
          [farRequest s.node kind r.mode r.len r.payload
            { node := e.node, address := e.ppage ++ offsetOf r.address, isGlobal := e.scope == .allContexts }
            (byteOf g.val)] with
        outs := s.outs.set g (some
          { phase := .waiting, agent := r.agent, tag := r.tag, kind := kind, len := r.len, ctx := r.ctx,
            page := pageOf r.address, isGlobal := e.scope == .allContexts, node := e.node, issue := s.time,
            deadline := s.time + s.chan.params.responseTimeout.setWidth 32, marks := [], orphan := false,
            held := false }) }) ∧
    ((s.readyExists = true ∨ (kind ≠ .post ∧ s.freeTag = none)) →
      (s.park.length < 64 →
        exec (.nearRequest kind h body) s = .next { hitState s (pageOf r.address) w with
          park := s.park ++ [parkedAs r (.ready
            { node := e.node, address := e.ppage ++ offsetOf r.address, isGlobal := e.scope == .allContexts } [])] }) ∧
      (64 ≤ s.park.length →
        exec (.nearRequest kind h body) s = .next (turnedAway (hitState s (pageOf r.address) w) r 1 0)))

/-- A FENCE (R63, R79): refused BUSY when the bridge is not RUNNING or one is pending; answered DONE when nothing of its agent is
in flight; otherwise pending, with the agent's park records and live entries held. -/
def Obligations.FenceTaken : Prop :=
  ∀ (s : State) (h : Header) (a : Agent) (g : NearTag), FenceArrives s h a g →
    (s.bridge ≠ .running →
      exec (.fence h []) s = .next (refuseNear (nearTaken s) .read a g 1 1)) ∧
    (s.bridge = .running → s.fences[a] ≠ none →
      exec (.fence h []) s = .next (refuseNear (nearTaken s) .read a g 1 2)) ∧
    (s.bridge = .running → s.fences[a] = none →
      ((¬∃ r ∈ s.park, r.agent = a) →
        (¬∃ (i : BridgeTag) (o : OutEntry), s.outs[i] = some o ∧ o.phase = .waiting ∧ o.orphan = false ∧ o.agent = a) →
        exec (.fence h []) s = .next (onNear (nearTaken s) [nearResponse s.node a g 2 []])) ∧
      (((∃ r ∈ s.park, r.agent = a) ∨
          ∃ (i : BridgeTag) (o : OutEntry), s.outs[i] = some o ∧ o.phase = .waiting ∧ o.orphan = false ∧ o.agent = a) →
        exec (.fence h []) s = .next { nearTaken s with
          park := s.park.map fun r => if r.agent = a then { r with held := true } else r
          outs := s.outs.map fun x => x.map fun o =>
            if o.phase = .waiting ∧ o.orphan = false ∧ o.agent = a then { o with held := true } else o
          fences := s.fences.set a (some g) }))

/-! ## Far responses, deadlines, the arbiter -/

/-- The judgment of a response by a WAITING entry, row by row of Table 4-2 (R87). -/
def Obligations.ResponseTable : Prop :=
  ∀ (len : Nat) (body : List Byte),
    (body.length = len → judgeResponse .read len 1 body = { answer := .data body, error := none }) ∧
    (body.length ≠ len → judgeResponse .read len 1 body = { answer := .refuse .target 0, error := some 1 }) ∧
    judgeResponse .read len 2 body = { answer := .refuse .target 0, error := some 3 } ∧
    judgeResponse .write len 2 [] = { answer := .done, error := none } ∧
    (body ≠ [] → judgeResponse .write len 2 body = { answer := .refuse .target 0, error := some 5 }) ∧
    judgeResponse .write len 1 body = { answer := .refuse .target 0, error := some 2 } ∧
    (∀ kind : ReqKind,
      (∀ code detail : Byte, judgeResponse kind len 3 [code, detail] = { answer := .refuse .target code, error := none }) ∧
      (body.length ≠ 2 → judgeResponse kind len 3 body = { answer := .refuse .target 0, error := some 4 }) ∧
      (∀ c : BitVec 6, c ≠ 1 → c ≠ 2 → c ≠ 3 →
        judgeResponse kind len c body = { answer := .refuse .target 0, error := some 6 }))

/-- A WAITING entry takes its response (R88, R89, R93): the near answer comes first unless the entry is an orphan, one TARGET-ERROR
record is made for a malformed response, the entry is FREE or at once a READY request's, no other entry in use is touched,
and whatever waits on the entry ends, on either state of the near link (R98, R109, R126, R132). Where nothing waits on it,
that is all. -/
def Obligations.ResponseTaken : Prop :=
  ∀ (s : State) (kind : BitVec 6) (h : Header) (body : List Byte) (g : BridgeTag) (o : OutEntry), FarTakes s body →
    nodeField h.dst = s.node → h.tag = byteOf g.val → s.outs[g] = some o → o.phase = .waiting →
    nodeField h.src = o.node →
    (∃ (t : State) (near far faults : List Frame), exec (.farResponse kind h body) s = .next t ∧
      (s.near.up = true → t.near = { s.near with queue := s.near.queue ++ (if o.orphan then [] else
        [nearResponse s.node o.agent o.tag (judgeResponse o.kind o.len kind body).answer.kind
          (judgeResponse o.kind o.len kind body).answer.body]) ++ near }) ∧
      (s.near.up = false → t.near = s.near ∧ near = []) ∧
      t.far = { s.far with queue := s.far.queue ++ faults ++ far } ∧
      PartEnds s { s with outs := s.outs.set g none } t o near far ∧
      (match (judgeResponse o.kind o.len kind body).error with
        | none => t.log = s.log ∧ faults = []
        | some d => ∀ w : FaultBody,
          w = { kind := .targetError, agent := some o.agent, tag := some o.tag, ctx := some o.ctx, page := some o.page,
                node := some o.node, detail := d } →
          t.log = s.log.append s.time w ∧ AreNotices s faults (if s.chan.params.faultNotices then
            [(49, faultBytes { number := s.log.nextNumber, time := s.time, what := w })] else [])) ∧
      FreeOrForwarded s t g ∧
      (∀ (i : BridgeTag) (x : OutEntry), i ≠ g → s.outs[i] = some x → t.outs[i] = some x) ∧
      t.ctr.refusals = s.ctr.refusals +
        (if o.orphan = false ∧ (judgeResponse o.kind o.len kind body).answer.kind = 3 then 1 else 0) ∧
      t.cache = s.cache ∧ t.misses = s.misses ∧ t.chan.params = s.chan.params ∧ t.chan.expected = s.chan.expected) ∧
    (s.near.up = true → NothingWaits s → (judgeResponse o.kind o.len kind body).error = none → o.orphan = false →
      exec (.farResponse kind h body) s = .next { onNear (farTaken s)
          [nearResponse s.node o.agent o.tag (judgeResponse o.kind o.len kind body).answer.kind
            (judgeResponse o.kind o.len kind body).answer.body] with
        outs := s.outs.set g none
        ctr := { s.ctr with
          farFrames := s.ctr.farFrames + 1
          refusals := s.ctr.refusals +
            (if (judgeResponse o.kind o.len kind body).answer.kind = 3 then 1 else 0) } }) ∧
    (NothingWaits s → o.orphan = true →
      exec (.farResponse kind h body) s = .next
        { (match (judgeResponse o.kind o.len kind body).error with
            | none => farTaken s
            | some d => (farTaken s).makeFault
              { kind := .targetError, agent := some o.agent, tag := some o.tag, ctx := some o.ctx,
                page := some o.page, node := some o.node, detail := d }) with
          outs := s.outs.set g none })

/-- A response that matches no entry is counted late with a LATE-RESPONSE record and changes no entry (R86); one that matches an
EXPIRED entry frees it, is counted late and makes no record, whatever its kind and body (R91), and READY heads that can
now leave are forwarded (R73). With nothing READY it sends nothing. -/
def Obligations.LateResponses : Prop :=
  ∀ (s : State) (kind : BitVec 6) (h : Header) (body : List Byte), FarTakes s body → nodeField h.dst = s.node →
    ((¬∃ (g : BridgeTag) (o : OutEntry), h.tag.toNat = g.val ∧ s.outs[g] = some o ∧ nodeField h.src = o.node) →
      exec (.farResponse kind h body) s = .next
        ({ s with ctr := { s.ctr with farFrames := s.ctr.farFrames + 1, late := s.ctr.late + 1 } }.makeFault
          { kind := .lateResponse, port := some .far, node := some (nodeField h.src), detail := h.tag })) ∧
    (∀ (g : BridgeTag) (o : OutEntry), h.tag.toNat = g.val → s.outs[g] = some o → nodeField h.src = o.node →
      o.phase = .expired →
      (∃ (t : State) (forwards quiesced : List Frame), exec (.farResponse kind h body) s = .next t ∧
        t.far = { s.far with queue := s.far.queue ++ forwards ++ quiesced } ∧ AreForwards forwards ∧
        HeadsForwarded { s with outs := s.outs.set g none } s t forwards ∧
        AreNotices s quiesced (quiescedSaid s t) ∧ BridgeJudged s t ∧ ReadyHeadsLeft s t ∧ FreeOrForwarded s t g ∧
        (∀ (i : BridgeTag) (x : OutEntry), i ≠ g → s.outs[i] = some x → t.outs[i] = some x) ∧ t.log = s.log ∧
        t.ctr.refusals = s.ctr.refusals ∧ t.ctr.late = s.ctr.late + 1 ∧ t.ctr.farFrames = s.ctr.farFrames + 1 ∧
        t.cache = s.cache ∧ t.misses = s.misses ∧ t.ctxs = s.ctxs) ∧
      (s.readyExists = false → (∀ q, s.bridge ≠ .quiescing q) →
        exec (.farResponse kind h body) s = .next { s with
          outs := s.outs.set g none
          ctr := { s.ctr with farFrames := s.ctr.farFrames + 1, late := s.ctr.late + 1 } }))

/-- The deadlines of an outstanding entry. The first (R90): REFUSE RESPONSE-TIMEOUT unless an orphan, one record, and the entry is
EXPIRED with its second deadline one span on, bare of marks and hold; and whatever waits on the entry ends, on either state
of the near link (R98, R109, R126, R132). The second (R91): the entry is FREE, silently, and a READY head may take it (R73).
That before its deadline the event, as a command, changes nothing is the model's reading (log entry 3). -/
def Obligations.EntryDeadlines : Prop :=
  ∀ (s : State) (g : BridgeTag) (o : OutEntry), s.outs[g] = some o →
    (reached o.deadline s.time = false →
      exec (.responseTimeout g) s = .next s ∧ exec (.secondDeadline g) s = .next s) ∧
    (reached o.deadline s.time = true → o.phase = .waiting →
      (∃ (t : State) (near far faults : List Frame) (w : FaultBody), exec (.responseTimeout g) s = .next t ∧
        w = { kind := .responseTimeout, agent := some o.agent, tag := some o.tag, ctx := some o.ctx, page := some o.page,
              node := some o.node, detail := byteOf g.val } ∧
        t.outs[g] = some { o with
          phase := .expired, deadline := o.deadline + (o.deadline - o.issue), marks := [], held := false } ∧
        (s.near.up = true → t.near = { s.near with queue := s.near.queue ++ (if o.orphan then [] else
          [nearResponse s.node o.agent o.tag 3 [5, 0]]) ++ near }) ∧
        (s.near.up = false → t.near = s.near ∧ near = []) ∧
        t.far = { s.far with queue := s.far.queue ++ faults ++ far } ∧
        PartEnds s { s with outs := s.outs.set g none } t o near far ∧
        t.log = s.log.append s.time w ∧
        AreNotices s faults (if s.chan.params.faultNotices then
          [(49, faultBytes { number := s.log.nextNumber, time := s.time, what := w })] else []) ∧
        (∀ (i : BridgeTag) (x : OutEntry), i ≠ g → s.outs[i] = some x → t.outs[i] = some x) ∧
        t.ctr.refusals = s.ctr.refusals + (if o.orphan then 0 else 1) ∧
        t.cache = s.cache ∧ t.misses = s.misses ∧ t.chan.params = s.chan.params) ∧
      (s.near.up = true → NothingWaits s →
        exec (.responseTimeout g) s = .next { (if o.orphan then s else refuseNear s .read o.agent o.tag 5 0).makeFault
            { kind := .responseTimeout, agent := some o.agent, tag := some o.tag, ctx := some o.ctx, page := some o.page,
              node := some o.node, detail := byteOf g.val } with
          outs := s.outs.set g (some { o with
            phase := .expired, deadline := o.deadline + (o.deadline - o.issue), marks := [], held := false }) })) ∧
    (reached o.deadline s.time = true → o.phase = .expired →
      (∃ (t : State) (forwards quiesced : List Frame), exec (.secondDeadline g) s = .next t ∧
        t.far = { s.far with queue := s.far.queue ++ forwards ++ quiesced } ∧ AreForwards forwards ∧
        AreNotices s quiesced (quiescedSaid s t) ∧ BridgeJudged s t ∧ ReadyHeadsLeft s t ∧ FreeOrForwarded s t g ∧
        (∀ (i : BridgeTag) (x : OutEntry), i ≠ g → s.outs[i] = some x → t.outs[i] = some x) ∧ t.log = s.log ∧
        t.ctr.refusals = s.ctr.refusals ∧ t.ctr.late = s.ctr.late ∧ t.cache = s.cache ∧ t.misses = s.misses) ∧
      (s.readyExists = false → (∀ q, s.bridge ≠ .quiescing q) →
        exec (.secondDeadline g) s = .next { s with outs := s.outs.set g none }))

/-- The ready list's arbiter (R72 to R76, R80, R107, R110, R132, R134), in every bridge state: a READ or WRITE head takes the lowest FREE
entry with its marks and its hold; a POST head leaves as soon as it is head, and behind its frame come the PURGE-DONEs of
the slots whose last carrier it was, the DONE of the fence whose last hold it was, and QUIESCED; any other head waits; and a
run of the arbiter ends with a head that cannot leave. That the row forwards one head where it can is the model's reading
(log entry 2). -/
def Obligations.ArbiterForwards : Prop :=
  ∀ s : State,
    (∀ (before behind : List ParkRecord) (r : ParkRecord) (x : Translation) (m : List SlotId),
      s.park = before ++ r :: behind → (∀ q ∈ before, q.isReady = false) → r.state = .ready x m → s.far.up = true →
      (∀ g : BridgeTag, r.kind ≠ .post → s.freeTag = some g →
        exec .arbiterForward s = .next { onFar s
            [farRequest s.node r.kind r.mode r.len r.payload x (byteOf g.val)] with
          park := before ++ behind
          outs := s.outs.set g (some
            { phase := .waiting, agent := r.agent, tag := r.tag, kind := r.kind, len := r.len, ctx := r.ctx,
              page := pageOf r.address, isGlobal := x.isGlobal, node := x.node, issue := s.time,
              deadline := s.time + s.chan.params.responseTimeout.setWidth 32, marks := m, orphan := false,
              held := r.held }) }) ∧
      (r.kind = .post → r.held = false → (∀ k : SlotId, s.slots[k] = none) → (∀ q, s.bridge ≠ .quiescing q) →
        exec .arbiterForward s = .next { onFar s [farRequest s.node r.kind r.mode r.len r.payload x 0] with
          park := before ++ behind }) ∧
      (r.kind = .post → ∀ u : State, u = { s with park := before ++ behind } →
        ∃ (t : State) (purges quiesced : List Frame), exec .arbiterForward s = .next t ∧
          t.park = before ++ behind ∧
          t.far = { s.far with queue := s.far.queue ++ [farRequest s.node r.kind r.mode r.len r.payload x 0] ++ purges ++
            quiesced } ∧
          AreNotices s purges (purgesDone s u) ∧ AreNotices s quiesced (quiescedSaid s t) ∧ BridgeJudged s t ∧
          (∀ k : SlotId, t.slots[k] = if u.carriers k = 0 then none else s.slots[k]) ∧
          (∀ q : NearTag, r.held = true → u.heldBy r.agent = false → s.fences[r.agent] = some q →
            t.fences = s.fences.set r.agent none ∧
            t.near = if s.near.up then { s.near with queue := s.near.queue ++ [nearResponse s.node r.agent q 2 []] }
              else s.near) ∧
          (r.held = false ∨ u.heldBy r.agent = true ∨ s.fences[r.agent] = none →
            t.fences = s.fences ∧ t.near = s.near) ∧
          t.outs = s.outs ∧ t.ctxs = s.ctxs ∧ t.misses = s.misses ∧ t.cache = s.cache ∧ t.log = s.log ∧
          t.ctr.refusals = s.ctr.refusals) ∧
      (r.kind ≠ .post → s.freeTag = none → exec .arbiterForward s = .next s)) ∧
    (s.far.up = false ∨ s.readyExists = false → exec .arbiterForward s = .next s) ∧
    s.runArbiter.forwardHead = none

/-- The ends that the model's consequence rows bring about where their condition holds, and only there (R80, R109, R126, R132): the
fence's DONE, PURGE-DONE, CLOSE-DONE and QUIESCED. That these rows act as commands is the model's reading (log entry 2). -/
def Obligations.EndsOfWaiting : Prop :=
  ∀ s : State,
    (∀ (a : Agent) (g : NearTag), s.fences[a] = some g → s.heldBy a = false → (∀ q, s.bridge ≠ .quiescing q) →
      exec (.fenceDone a) s = .next { (if s.near.up then onNear s [nearResponse s.node a g 2 []] else s) with
        fences := s.fences.set a none }) ∧
    (∀ a : Agent, s.fences[a] = none ∨ s.heldBy a = true → (∀ q, s.bridge ≠ .quiescing q) →
      exec (.fenceDone a) s = .next s) ∧
    (∀ (k : SlotId) (p : PurgeSlot), s.slots[k] = some p → s.carriers k = 0 →
      exec (.purgeDone k) s = .next ({ s with slots := s.slots.set k none }.notice 50 [byteOf k.val, p.seq])) ∧
    (∀ k : SlotId, s.slots[k] = none ∨ s.carriers k ≠ 0 → exec (.purgeDone k) s = .next s) ∧
    (∀ (c : Ctx) (q : Byte), s.ctxs[c].state = .closing q →
      ((¬∃ (g : BridgeTag) (o : OutEntry), s.outs[g] = some o ∧ o.phase = .waiting ∧ o.ctx = c) →
        exec (.closeDone c) s = .next ({ s with
          ctxs := s.ctxs.set c { s.ctxs[c] with state := .closed } }.notice 51 [byteOf c.val, q])) ∧
      ((∃ (g : BridgeTag) (o : OutEntry), s.outs[g] = some o ∧ o.phase = .waiting ∧ o.ctx = c) →
        exec (.closeDone c) s = .next s)) ∧
    (∀ c : Ctx, s.ctxs[c].state = .closed ∨ s.ctxs[c].state = .opened → exec (.closeDone c) s = .next s) ∧
    (∀ q : Byte, s.bridge = .quiescing q →
      (s.park = [] → (∀ id : MissId, s.misses[id].active = none) →
        (∀ (g : BridgeTag) (o : OutEntry), s.outs[g] = some o → o.phase = .expired) →
        (∀ a : Agent, s.fences[a] = none) →
        exec .quiesced s = .next ({ s with bridge := .quiesced q }.notice 52 [q])) ∧
      (s.drained = false → exec .quiesced s = .next s)) ∧
    ((∀ q, s.bridge ≠ .quiescing q) → exec .quiesced s = .next s)

/-! ## Far frames that reach no block, and the channel's own answers -/

/-- A far REQUEST to the bridge is answered REFUSE NOT-TARGET, detail 0, to its source under its tag, counted, whatever it holds and
in every bridge state, and nothing else changes; one for another node reaches no table (R99). -/
def Obligations.NotTarget : Prop :=
  ∀ (s : State) (kind : BitVec 6) (h : Header) (body : List Byte), FarTakes s body →
    (nodeField h.dst = s.node →
      exec (.notTarget kind h body) s = .next { onFar s
          [{ cls := .response, kind := 3
             hdr := { dst := byteOf (nodeField h.src).val, src := byteOf s.node.val, tag := h.tag, seq := 0, last := 0 }
             body := [13, 0] }] with
        ctr := { s.ctr with farFrames := s.ctr.farFrames + 1, refusals := s.ctr.refusals + 1 } }) ∧
    (nodeField h.dst ≠ s.node → exec (.notTarget kind h body) s = .next (farTaken s))

/-- Far frames discarded with their count alone (R138, R181): a REQUEST or RESPONSE for another node, the fourth class encoding,
and a misrouted MGMT frame, whatever its source, kind and number. A MGMT frame to the bridge from a node that is not the
manager, or while there is none, is discarded with a FOREIGN-MGMT record and executes nothing, whatever command it
carries (R139). -/
def Obligations.FarFramesNotTaken : Prop :=
  (
    ∀ (s : State) (kind : BitVec 6) (h : Header) (body : List Byte), FarTakes s body →
      exec (.farFrameDiscard .fourth kind h body) s = .next (farTaken s) ∧
      (nodeField h.dst ≠ s.node →
        exec (.farFrameDiscard .request kind h body) s = .next (farTaken s) ∧
        exec (.farFrameDiscard .response kind h body) s = .next (farTaken s) ∧
        exec (.farResponse kind h body) s = .next (farTaken s) ∧
        exec (.misroutedMgmt kind h body) s = .next (farTaken s))) ∧
  ∀ (s : State) (kind : BitVec 6) (h : Header) (body : List Byte), FarTakes s body → nodeField h.dst = s.node →
    s.chan.manager ≠ some (nodeField h.src) →
    exec (.foreignMgmt kind h body) s = .next ((farTaken s).makeFault
      { kind := .foreignMgmt, port := some .far, node := some (nodeField h.src),
        detail := BitVec.ofNat 8 kind.toNat }) ∧
    ∀ c : Command, exec (commandRow c h body) s = .next ((farTaken s).makeFault
      { kind := .foreignMgmt, port := some .far, node := some (nodeField h.src),
        detail := BitVec.ofNat 8 (commandCode c).toNat })

/-- A command under E-1 while a reply is stored is not executed: the stored reply is sent again, and nothing else changes, whatever
the command (R142). -/
def Obligations.Replay : Prop :=
  ∀ (s : State) (kind : BitVec 6) (h : Header) (body : List Byte) (l : Frame), FarTakes s body →
    nodeField h.dst = s.node → s.chan.manager = some (nodeField h.src) → s.chan.stored = some l →
    h.seq + 1 = s.chan.expected →
    exec (.replay kind h body) s = .next (onFar (farTaken s) [l]) ∧
    ∀ c : Command, exec (commandRow c h body) s = .next (onFar (farTaken s) [l])

/-- A command whose number is neither E nor, with a stored reply present, E-1 is answered NAK SEQ with E as its detail; it is not
executed, the NAK is not stored, and E stays (R143). -/
def Obligations.NakSequence : Prop :=
  ∀ (s : State) (kind : BitVec 6) (h : Header) (body : List Byte), FarTakes s body →
    nodeField h.dst = s.node → s.chan.manager = some (nodeField h.src) → h.seq ≠ s.chan.expected →
    (s.chan.stored = none ∨ h.seq + 1 ≠ s.chan.expected) →
    exec (.nakSeq kind h body) s = .next (onFar (farTaken s)
      [replyTo s h 33 [BitVec.ofNat 8 kind.toNat, 1, s.chan.expected]]) ∧
    ∀ c : Command, exec (commandRow c h body) s = .next (onFar (farTaken s)
      [replyTo s h 33 [BitVec.ofNat 8 (commandCode c).toNat, 1, s.chan.expected]])

/-- A frame taken under E whose kind is not a command kind is answered NAK UNKNOWN; a command whose body has not the length of
Table 10-6 is answered NAK RANGE. Either NAK is stored and E advances, and nothing else changes (R141, R145). -/
def Obligations.ChannelNaks : Prop :=
  ∀ (s : State) (h : Header) (body : List Byte), UnderE s h body →
    (∀ kind : BitVec 6, kind.toNat = 0 ∨ 17 < kind.toNat →
      exec (.nakUnknown kind h body) s = .next (answered s h 33 [BitVec.ofNat 8 kind.toNat, 7, 0])) ∧
    ∀ c : Command, body.length ≠ commandLength c →
      exec (commandRow c h body) s = .next (answered s h 33 [BitVec.ofNat 8 (commandCode c).toNat, 2, 0])

/-! ## The cache's commands -/

/-- The NAKs of a FILL, at the first check that fails, in the order of Table 1-4 (R16, R17, R18, R20, R21, R141): the range, field by
field; the context's state; a conflict with another way than the target; a fourth pin. Nothing else changes. The target is
the way that R14 and R19 choose. -/
def Obligations.FillNaks : Prop :=
  ∀ (s : State) (h : Header) (body : List Byte), UnderE s h body →
    (∀ flags ctx p3 p2 p1 p0 node q2 q1 q0 way id gen : Byte,
      body = [flags, ctx, p3, p2, p1, p0, node, q2, q1, q0, way, id, gen] →
      (fillArgs body = none ↔
        4 < way.toNat ∨ flags.getLsbD 7 = false ∨ (flags.getLsbD 4 = true ∧ flags.getLsbD 3 = true) ∨
          (flags.getLsbD 6 = false ∧ 15 < ctx.toNat) ∨ 67108863 < beNat [p3, p2, p1, p0] ∨ 63 < node.toNat ∨
          4194303 < beNat [q2, q1, q0] ∨ (15 < id.toNat ∧ id ≠ 255))) ∧
    (fillArgs body = none → exec (.fill h body) s = .next (answered s h 33 [1, 2, 0])) ∧
    (∀ a : FillArgs, fillArgs body = some a →
      ((∃ c, a.entry.scope = .context c ∧ s.ctxs[c].state ≠ .opened) →
        exec (.fill h body) s = .next (answered s h 33 [1, 3, 0])) ∧
      (∀ w : WayId, TargetWay s.cache[setOf a.entry.page] a.entry a.way w →
        (s.cache[setOf a.entry.page]).target a.entry a.way = w) ∧
      ((∀ c, a.entry.scope = .context c → s.ctxs[c].state = .opened) →
        ((∃ v : WayId, v ≠ (s.cache[setOf a.entry.page]).target a.entry a.way ∧
            Clash s.cache[setOf a.entry.page].ways[v] a.entry) →
          exec (.fill h body) s = .next (answered s h 33 [1, 4, 0])) ∧
        ((∀ v : WayId, v ≠ (s.cache[setOf a.entry.page]).target a.entry a.way →
            ¬Clash s.cache[setOf a.entry.page].ways[v] a.entry) →
          a.entry.pinned = true →
          (∀ v : WayId, v ≠ (s.cache[setOf a.entry.page]).target a.entry a.way →
            s.cache[setOf a.entry.page].ways[v].pinned = true) →
          exec (.fill h body) s = .next (answered s h 33 [1, 5, 0]))))

/-- A FILL that passes every check (R14, R19 to R22, R45, R46, R49): the entry stands in its target way, which moves to the front,
and every other way and set is as it was; the ACK comes first on the far port and carries the set, the way, INSTALLED or
UPDATED, the ticket status and the number of records released. With nothing to release or free, that is all. And the checks
pass with the way that R14 and R19 choose, where the context is OPEN, no other way clashes and no fourth pin comes. -/
def Obligations.FillInstalls : Prop :=
  (∀ (s : State) (e : Entry) (choice : WayChoice) (w : WayId), TargetWay s.cache[setOf e.page] e choice w →
    (∀ c, e.scope = .context c → s.ctxs[c].state = .opened) →
    (∀ v : WayId, v ≠ w → ¬Clash s.cache[setOf e.page].ways[v] e) →
    (e.pinned = false ∨ ∃ v : WayId, v ≠ w ∧ s.cache[setOf e.page].ways[v].pinned = false) →
    judgeFill s e choice = .ok w) ∧
  ∀ (s : State) (h : Header) (body : List Byte) (a : FillArgs) (w : WayId), UnderE s h body →
    fillArgs body = some a → judgeFill s a.entry a.way = .ok w →
    ∃ (t : State) (ack : List Byte), exec (.fill h body) s = .next t ∧
      ack = [1, byteOf (a.entry.page.toNat % 64), byteOf w.val,
        (if (s.cache[setOf a.entry.page].ways[w]).sameKey a.entry then 1 else 0),
        (match a.ticket with
          | none => 0
          | some k =>
            match s.misses[k.id].active with
            | none => 1
            | some m =>
              if s.misses[k.id].gen ≠ k.gen then 1
              else if a.entry.matchesPair m.ctx m.page then 3 else 2),
        byteOf (s.park.countP fun r => !r.isReady && a.entry.matchesPair r.ctx (pageOf r.address))] ∧
      t.cache = s.cache.set (setOf a.entry.page)
        { ways := (s.cache[setOf a.entry.page]).ways.set w a.entry
          order := w :: (s.cache[setOf a.entry.page]).order.erase w } ∧
      s.far.queue ++ [replyTo s h 32 ack] <+: t.far.queue ∧ t.chan.stored = some (replyTo s h 32 ack) ∧
      t.chan.expected = s.chan.expected + 1 ∧ t.chan.params = s.chan.params ∧ t.chan.manager = s.chan.manager ∧
      t.ctxs = s.ctxs ∧ t.ctr.hits = s.ctr.hits ∧
      (s.park = [] → (∀ (id : MissId) (m : Miss), s.misses[id].active = some m →
          a.entry.matchesPair m.ctx m.page = false) → (∀ q, s.bridge ≠ .quiescing q) →
        t = answered { s with cache := t.cache } h 32 ack)

/-- The miss side of a FILL that passes every check (R46 to R50, R80, R110, R132). Every unresolved record that the new entry matches is
released, in park order: those whose rights it grants and whose action is FORWARD become READY in their places, with its
translation, no marks and their own hold; the others leave, answered on the near port in park order, each answer that ends
a fence's last hold followed by its DONE, and each refusal recorded. Every other record stays as it is, but for UNNOTICED
ones given a freed miss, and the READY heads that can leave are forwarded. Every miss the entry matches is freed and kept or
given on, the others being as they were. The far port's outputs come in the order of R49. -/
def Obligations.FillReleases : Prop :=
  ∀ (s : State) (h : Header) (body : List Byte) (a : FillArgs) (w : WayId) (e : Entry) (u : State), UnderE s h body →
    fillArgs body = some a → judgeFill s a.entry a.way = .ok w → e = a.entry →
    u = { s with
      park := (s.park.filter fun r => !releasedBy e r || readiedBy e r).map (afterRelease e) } →
    ∃ (t : State) (ack : List Byte) (copies faults forwards quiesced dones : List Frame) (ws : List FaultBody),
      exec (.fill h body) s = .next t ∧ ack.getLast? = some (byteOf (s.park.countP (releasedBy e))) ∧
      List.Forall₂ (fun q r => r = q ∨ (q.state = .unnoticed ∧ ∃ (id : MissId) (m : Miss),
          s.misses[id].active = some m ∧ e.matchesPair m.ctx m.page = true ∧
            t.misses[id].gen = s.misses[id].gen + 1 ∧ r = { q with state := .waiting id }))
        (u.park.filter fun q => !q.isReady) (t.park.filter fun r => !r.isReady) ∧
      HeadsForwarded s u t forwards ∧
      (∀ (g : BridgeTag) (o : OutEntry), s.outs[g] = some o → t.outs[g] = some o) ∧
      (∀ g : BridgeTag, s.outs[g] = none → FreeOrForwarded u t g) ∧
      (∀ (id : MissId) (m : Miss), s.misses[id].active = some m → e.matchesPair m.ctx m.page = true →
        t.misses[id] = { gen := s.misses[id].gen, active := none } ∨
          ∃ q ∈ s.park, releasedBy e q = false ∧ q.state = .unnoticed ∧ t.misses[id] =
            { gen := s.misses[id].gen + 1, active := some (freshMiss s q.ctx (pageOf q.address) q.kind q.mode) }) ∧
      (∀ id : MissId, (∀ m : Miss, s.misses[id].active = some m → e.matchesPair m.ctx m.page = false) →
        t.misses[id] = s.misses[id]) ∧
      NearSends s t (nearOutputs s
        (fun g => u.park.any (fun r => r.held && r.agent == g) || s.outs.toList.any fun o => o.any fun x =>
          x.held && x.agent == g)
        ((s.park.filter fun r => releasedBy e r && !readiedBy e r).map fun r =>
          { agent := r.agent, held := r.held, frames := releaseAnswer s.node e r }) ++ dones) ∧
      (∀ f ∈ dones, ∃ (g : Agent) (q : NearTag), s.fences[g] = some q ∧ f = nearResponse s.node g q 2 []) ∧
      t.ctr.refusals = s.ctr.refusals + BitVec.ofNat 32 (s.park.countP fun r =>
        releasedBy e r && r.kind != .post && (releaseRecord e r).isSome) ∧
      ws = (s.park.filter (releasedBy e)).filterMap (releaseRecord e) ∧
      t.log = ws.foldl (fun l x => l.append s.time x) s.log ∧
      t.far = { s.far with queue :=
        s.far.queue ++ [replyTo s h 32 ack] ++ copies ++ faults ++ forwards ++ quiesced } ∧
      (∀ f ∈ copies, f.cls = .mgmt ∧ f.kind = 48) ∧ (copies.map fun f => f.body.headD 0).Pairwise (· < ·) ∧
      AreNotices s faults (faultsSaid s ws) ∧ AreForwards forwards ∧ AreNotices s quiesced (quiescedSaid s t) ∧
      (∀ k : SlotId, t.slots[k] = s.slots[k] ∨ (t.slots[k] = none ∧ t.carriers k = 0)) ∧ BridgeJudged s t

/-- PIN and READ-ENTRY (R25, R26, R141): a set, way or setting out of range, an invalid way and a fourth pin are answered NAK; a PIN
changes the one flag and moves no way; READ-ENTRY reports the entry and its position and changes no entry. -/
def Obligations.PinAndReadEntry : Prop :=
  ∀ (s : State) (h : Header) (t : SetId) (w : WayId),
    (∀ b0 b1 b2 : Byte, UnderE s h [b0, b1, b2] → 63 < b0.toNat ∨ 3 < b1.toNat ∨ 1 < b2.toNat →
      exec (.pin h [b0, b1, b2]) s = .next (answered s h 33 [3, 2, 0])) ∧
    (∀ b0 b1 : Byte, UnderE s h [b0, b1] → 63 < b0.toNat ∨ 3 < b1.toNat →
      exec (.readEntry h [b0, b1]) s = .next (answered s h 33 [4, 2, 0])) ∧
    (UnderE s h [] → ∀ on : Bool,
      (s.cache[t].ways[w].valid = false →
        exec (.pin h [byteOf t.val, byteOf w.val, flagByte on]) s = .next (answered s h 33 [3, 3, 0])) ∧
      (s.cache[t].ways[w].valid = true →
        (on = true → s.cache[t].ways[w].pinned = false → (∀ v : WayId, v ≠ w → s.cache[t].ways[v].pinned = true) →
          exec (.pin h [byteOf t.val, byteOf w.val, flagByte on]) s = .next (answered s h 33 [3, 5, 0])) ∧
        (on = false ∨ s.cache[t].ways[w].pinned = true ∨ (∃ v : WayId, v ≠ w ∧ s.cache[t].ways[v].pinned = false) →
          exec (.pin h [byteOf t.val, byteOf w.val, flagByte on]) s = .next (answered
            (s.setCache t
              { ways := s.cache[t].ways.set w { s.cache[t].ways[w] with pinned := on }, order := s.cache[t].order })
            h 32 [3])))) ∧
    (UnderE s h [] →
      exec (.readEntry h [byteOf t.val, byteOf w.val]) s = .next (answered s h 34
        (entryBytes s.cache[t].ways[w] ++ [byteOf (s.cache[t].order.idxOf w)])))

/-- PURGE (R102, R103, R104, R105, R106, R108, R13): a pattern, context, page or flag out of range is answered NAK RANGE, and only the
fields that the pattern uses are examined; NAK BUSY with every slot in use; otherwise the named entries are invalidated,
pinned ones only when included, with their other fields kept, and move to the back in ascending way number, but for ALL with
include-pinned, which sets every order to the power-on order; the lowest free slot marks every READY record and WAITING
entry that the pattern names; the ACK carries the slot and the count; and with nothing marked the slot is free again, its
PURGE-DONE sent, numbered and counted. Nothing else changes. -/
def Obligations.Purge : Prop :=
  ∀ (s : State) (h : Header),
    (∀ code inc globalToo ctx p3 p2 p1 p0 : Byte, UnderE s h [code, inc, globalToo, ctx, p3, p2, p1, p0] →
      3 < code.toNat ∨ 1 < inc.toNat ∨ (15 < ctx.toNat ∧ (code = 1 ∨ code = 2)) ∨
        (code = 2 ∧ (67108863 < beNat [p3, p2, p1, p0] ∨ 1 < globalToo.toNat)) →
      exec (.purge h [code, inc, globalToo, ctx, p3, p2, p1, p0]) s = .next (answered s h 33 [5, 2, 0])) ∧
    (∀ (inc globalToo : Bool) (c : Ctx) (p : Page) (b0 b1 b2 b3 b4 b5 : Byte),
      purgeArgs [0, flagByte inc, b0, b1, b2, b3, b4, b5] = some (.all, inc) ∧
      purgeArgs [1, flagByte inc, b0, byteOf c.val, b2, b3, b4, b5] = some (.context c, inc) ∧
      purgeArgs ([2, flagByte inc, flagByte globalToo, byteOf c.val] ++ beBytes 4 p.toNat) =
        some (.page c p globalToo, inc) ∧
      purgeArgs [3, flagByte inc, b0, b1, b2, b3, b4, b5] = some (.allGlobal, inc)) ∧
    ∀ (body : List Byte) (pat : Pattern) (inc : Bool), UnderE s h body → purgeArgs body = some (pat, inc) →
      ((∀ k : SlotId, s.slots[k] ≠ none) → exec (.purge h body) s = .next (answered s h 33 [5, 6, 0])) ∧
      (∀ (k : SlotId) (u : State) (ack : List Byte), s.slots[k] = none → (∀ j : SlotId, j < k → s.slots[j] ≠ none) →
        u = { s with
          cache := s.cache.map fun t =>
            if pat = .all ∧ inc = true then
              { ways := t.ways.map fun e => if e.valid then { e with valid := false, pinned := false } else e
                order := [3, 2, 1, 0] }
            else setInvalidated (entryNamed pat inc) t
          slots := s.slots.set k (some { pattern := pat, seq := h.seq })
          park := s.park.map fun r => match r.state with
            | .ready x m =>
              if workNamed pat r.ctx (pageOf r.address) x.isGlobal then
                { r with state := .ready x ((List.finRange 4).filter fun j => j == k || m.contains j) }
              else r
            | _ => r
          outs := s.outs.map fun x => x.map fun o =>
            if o.phase = .waiting ∧ workNamed pat o.ctx o.page o.isGlobal = true then
              { o with marks := (List.finRange 4).filter fun j => j == k || o.marks.contains j }
            else o } →
        ack = [5, byteOf k.val] ++ beBytes 2 (countNamed s (entryNamed pat inc)) →
        (0 < u.carriers k → exec (.purge h body) s = .next (answered u h 32 ack)) ∧
        (u.carriers k = 0 → exec (.purge h body) s = .next { answered u h 32 ack with
          slots := s.slots
          far := { s.far with queue := s.far.queue ++ [replyTo s h 32 ack,
            { cls := .mgmt, kind := 50
              hdr := { dst := byteOf (nodeField h.src).val, src := byteOf s.node.val, tag := 0, seq := s.chan.noticeSeq, last := 0 }
              body := [byteOf k.val, h.seq] }] }
          chan := { s.chan with
            stored := some (replyTo s h 32 ack), expected := s.chan.expected + 1, noticeSeq := s.chan.noticeSeq + 1 }
          ctr := { s.ctr with farFrames := s.ctr.farFrames + 1, notices := s.ctr.notices + 1 } }))

/-! ## The miss table's commands and events -/

/-- DENY (R51): an id above 15 is answered NAK RANGE; a stale ticket releases nothing and changes nothing; a live one refuses every
waiter NO-TRANSLATION with the DENY's detail in park order, a POST without response, makes its DENIED record, and frees the
entry, which goes to the oldest UNNOTICED record's page if one waits (R48). On a near link that is DOWN the refusals are
lost and counted, and all else is the same. -/
def Obligations.Deny : Prop :=
  ∀ (s : State) (h : Header) (id : MissId) (gen detail : Byte), UnderE s h [] →
    (∀ x : Byte, 15 < x.toNat → exec (.deny h [x, gen, detail]) s = .next (answered s h 33 [2, 2, 0])) ∧
    ((s.misses[id].active = none ∨ s.misses[id].gen ≠ gen) →
      exec (.deny h [byteOf id.val, gen, detail]) s = .next (answered s h 32 [2, 0])) ∧
    (∀ (m : Miss) (w : FaultBody), s.misses[id].active = some m → s.misses[id].gen = gen →
      w = { kind := .denied, ctx := some m.ctx, page := some m.page, count := some (byteOf (s.waiters id).length),
            detail := byteOf id.val } →
      (∃ t : State, exec (.deny h [byteOf id.val, gen, detail]) s = .next t ∧
        MissEnds s t id 3 detail [replyTo s h 32 [2, byteOf (s.waiters id).length]] w ∧
        t.chan.stored = some (replyTo s h 32 [2, byteOf (s.waiters id).length]) ∧
        t.chan.expected = s.chan.expected + 1) ∧
      ((∀ r ∈ s.park, r.state ≠ .unnoticed) → (∀ r ∈ s.waiters id, r.held = false) →
        (∀ q, s.bridge ≠ .quiescing q) → s.near.up = true →
        exec (.deny h [byteOf id.val, gen, detail]) s = .next ((answered (missEnded s id 3 detail) h 32
            [2, byteOf (s.waiters id).length]).makeFault w)))

/-- The deadline of a miss (R52): every waiter is refused MISS-TIMEOUT in park order, a POST without response, one record is made,
and the entry is freed and goes to the oldest UNNOTICED record's page if one waits (R48), whether or not either link is UP.
That before it, and on a free id, the event changes nothing is the model's reading (log entry 3). -/
def Obligations.MissTimeout : Prop :=
  ∀ (s : State) (id : MissId),
    (s.misses[id].active = none → exec (.missTimeout id) s = .next s) ∧
    (∀ (m : Miss) (w : FaultBody), s.misses[id].active = some m →
      w = { kind := .missTimeout, ctx := some m.ctx, page := some m.page,
            count := some (byteOf (s.waiters id).length), detail := byteOf id.val } →
      (reached m.deadline s.time = false → exec (.missTimeout id) s = .next s) ∧
      (reached m.deadline s.time = true →
        (∃ t : State, exec (.missTimeout id) s = .next t ∧ MissEnds s t id 4 0 [] w) ∧
        ((∀ r ∈ s.park, r.state ≠ .unnoticed) → (∀ r ∈ s.waiters id, r.held = false) →
          (∀ q, s.bridge ≠ .quiescing q) → s.near.up = true →
          exec (.missTimeout id) s = .next ((missEnded s id 4 0).makeFault w))))

/-- A copy of a miss's notice (R42, R43, R44): when its time is reached its number is used up, the time of the next one before the
deadline is held, and it is sent as a notice is. That before its time, with no copy left, and on a free id, the event
changes nothing is the model's reading (log entry 3). -/
def Obligations.MissNotice : Prop :=
  ∀ (s : State) (id : MissId),
    (∀ (m : Miss) (t : Time), s.misses[id].active = some m → m.next = some t →
      (reached t s.time = true →
        exec (.missNotice id) s = .next ({ s with
          misses := s.misses.set id
            { gen := s.misses[id].gen
              active := some { m with
                sent := m.sent + 1,
                next :=
                  if m.sent + 2 ≤ m.repeats ∧
                      timeBefore (m.alloc + BitVec.ofNat 32 ((m.sent + 2) * m.interval.toNat)) m.deadline = true then
                    some (m.alloc + BitVec.ofNat 32 ((m.sent + 2) * m.interval.toNat))
                  else none } } }.notice 48
            ([byteOf id.val, s.misses[id].gen, byteOf (m.sent + 1), byteOf m.ctx.val] ++ beBytes 4 m.page.toNat ++
              [byteOf (m.page.toNat % 64), byteOf (s.cache[setOf m.page].victim).val, firstAccessByte m.access m.mode,
                byteOf (s.waiters id).length]))) ∧
      (reached t s.time = false → exec (.missNotice id) s = .next s)) ∧
    (s.misses[id].active = none → exec (.missNotice id) s = .next s) ∧
    (∀ m : Miss, s.misses[id].active = some m → m.next = none → exec (.missNotice id) s = .next s)

/-- A free miss entry offered (R48, R33, R40): it is allocated to the page of the oldest UNNOTICED record, every UNNOTICED record of
that page joins it, and copy 0 falls due; with no UNNOTICED record, or an active entry, nothing changes. That the row
offers a free entry as a command is the model's reading (log entry 2). -/
def Obligations.MissEntryOffer : Prop :=
  ∀ (s : State) (id : MissId),
    (∀ (before behind : List ParkRecord) (r : ParkRecord), s.misses[id].active = none →
      s.park = before ++ r :: behind → (∀ q ∈ before, q.state ≠ .unnoticed) → r.state = .unnoticed →
      ∃ t : State, exec (.missEntryOffer id) s = .next t ∧
        t.park = s.park.map (fun q =>
          if q.state = .unnoticed ∧ q.ctx = r.ctx ∧ pageOf q.address = pageOf r.address then
            { q with state := .waiting id }
          else q) ∧
        t.misses[id].gen = s.misses[id].gen + 1 ∧
        (∃ m : Miss, t.misses[id].active = some m ∧ m.ctx = r.ctx ∧ m.page = pageOf r.address ∧
          m.access = accessOf r.kind ∧ m.mode = r.mode ∧ m.alloc = s.time ∧ m.sent = 0 ∧
          m.deadline = s.time + s.chan.params.missTimeout.setWidth 32 ∧ m.interval = s.chan.params.noticeInterval ∧
          m.repeats = s.chan.params.noticeRepeats) ∧
        (∀ j : MissId, j ≠ id → t.misses[j] = s.misses[j]) ∧ t.ctr.misses = s.ctr.misses + 1 ∧
        (∀ m : NodeId, s.far.up = true → s.chan.manager = some m → ∃ f : Frame,
          t.far.queue = s.far.queue ++ [f] ∧ f.kind = 48 ∧ f.hdr.seq = s.chan.noticeSeq ∧
            f.hdr.dst = byteOf m.val ∧ f.body.take 3 = [byteOf id.val, s.misses[id].gen + 1, 0]) ∧
        t.near = s.near ∧ t.cache = s.cache ∧ t.outs = s.outs ∧ t.fences = s.fences ∧ t.log = s.log) ∧
    (s.misses[id].active ≠ none ∨ (∀ q ∈ s.park, q.state ≠ .unnoticed) →
      exec (.missEntryOffer id) s = .next s)

/-! ## Contexts and the bridge state -/

/-- OPEN-CONTEXT (R119): NAK STATE while CLOSING; a CLOSED context opens with the policy and flag given, note OPENED; an OPEN one takes
them, note UPDATED. Nothing else changes. -/
def Obligations.OpenContext : Prop :=
  ∀ (s : State) (h : Header) (c : Ctx) (policy supOnly : Byte), UnderE s h [] →
    (1 < policy.toNat ∨ 1 < supOnly.toNat →
      exec (.openContext h [byteOf c.val, policy, supOnly]) s = .next (answered s h 33 [6, 2, 0])) ∧
    (∀ x : Byte, 15 < x.toNat →
      exec (.openContext h [x, policy, supOnly]) s = .next (answered s h 33 [6, 2, 0])) ∧
    (policy.toNat ≤ 1 → supOnly.toNat ≤ 1 →
      (∀ q, s.ctxs[c].state = .closing q →
        exec (.openContext h [byteOf c.val, policy, supOnly]) s = .next (answered s h 33 [6, 3, 0])) ∧
      (s.ctxs[c].state = .closed ∨ s.ctxs[c].state = .opened →
        exec (.openContext h [byteOf c.val, policy, supOnly]) s = .next (answered
          (s.setCtx c
            { state := .opened, policy := if policy = 1 then .refuse else .notice, supOnly := supOnly == 1 })
          h 32 [6, if s.ctxs[c].state = .closed then 0 else 1])))

/-- CLOSE-CONTEXT (R13, R80, R121 to R126, R132): on a CLOSED or CLOSING context only the note; on an OPEN one every non-global entry of the
context is invalidated and moves to the back, every park record and miss of it is gone, each READ or WRITE refused ABORTED in
park order and each POST recorded POST-LOST, the ACK carries the counts, and the context is CLOSED when no WAITING entry of it
remains, else CLOSING under the command's number. The records of other contexts stay in their order, but for READY ones that
may now leave and UNNOTICED ones given a freed miss. The far port's outputs come in the order of R125. -/
def Obligations.CloseContext : Prop :=
  ∀ (s : State) (h : Header) (c : Ctx), UnderE s h [] →
    (∀ x : Byte, 15 < x.toNat → exec (.closeContext h [x]) s = .next (answered s h 33 [7, 2, 0])) ∧
    (s.ctxs[c].state = .closed →
      exec (.closeContext h [byteOf c.val]) s = .next (answered s h 32 [7, 1, 0, 0, 0, 0])) ∧
    (∀ q, s.ctxs[c].state = .closing q →
      exec (.closeContext h [byteOf c.val]) s = .next (answered s h 32 [7, 2, 0, 0, 0, 0])) ∧
    (s.ctxs[c].state = .opened → ∃ (t : State) (ack : List Byte) (copies purges closes faults forwards quiesced : List Frame),
      exec (.closeContext h [byteOf c.val]) s = .next t ∧
      ack = [7, 0] ++ beBytes 2 (countNamed s fun e => e.valid && e.scope == .context c) ++
        [byteOf (s.park.countP fun r => r.ctx == c),
          byteOf ((List.finRange 16).countP fun id => s.misses[id].active.any fun m => m.ctx == c)] ∧
      t.cache = s.cache.map (setInvalidated fun e => e.valid && e.scope == .context c) ∧
      List.Forall₂ (fun q r => r = q ∨ (q.state = .unnoticed ∧ ∃ (id : MissId) (m : Miss),
          s.misses[id].active = some m ∧ m.ctx = c ∧ t.misses[id].gen = s.misses[id].gen + 1 ∧
            r = { q with state := .waiting id }))
        (s.park.filter fun q => q.ctx != c && !q.isReady) (t.park.filter fun r => !r.isReady) ∧
      t.park.filter ParkRecord.isReady <:+ s.park.filter (fun q => q.ctx != c && q.isReady) ∧
      (∀ r ∈ t.park, r.ctx ≠ c) ∧
      (∀ (id : MissId) (m : Miss), t.misses[id].active = some m → m.ctx ≠ c) ∧
      (∀ id : MissId, (∀ m : Miss, s.misses[id].active = some m → m.ctx ≠ c) → t.misses[id] = s.misses[id]) ∧
      (∀ (id : MissId) (m : Miss), s.misses[id].active = some m → m.ctx = c →
        t.misses[id] = { gen := s.misses[id].gen, active := none } ∨
          ∃ q ∈ s.park, q.ctx ≠ c ∧ q.state = .unnoticed ∧ t.misses[id] =
            { gen := s.misses[id].gen + 1, active := some (freshMiss s q.ctx (pageOf q.address) q.kind q.mode) }) ∧
      t.ctxs[c] = { s.ctxs[c] with state :=
        if ∃ (g : BridgeTag) (o : OutEntry), s.outs[g] = some o ∧ o.phase = .waiting ∧ o.ctx = c then .closing h.seq
        else .closed } ∧
      (∀ d : Ctx, d ≠ c → t.ctxs[d] = s.ctxs[d]) ∧
      (∀ (g : BridgeTag) (o : OutEntry), s.outs[g] = some o → t.outs[g] = some o) ∧
      (∀ g : BridgeTag, s.outs[g] = none → FreeOrForwarded s t g) ∧
      (∀ k : SlotId, t.slots[k] = if t.carriers k = 0 then none else s.slots[k]) ∧
      BridgeJudged s t ∧
      (s.near.up = true → ∃ l : List Frame, t.near = { s.near with queue := s.near.queue ++ l } ∧
        (∀ f ∈ l, f.kind = 2 ∨ f.kind = 3) ∧
        l.filter (fun f => f.kind == 3) = (s.park.filter fun r => r.ctx == c && r.kind != .post).map fun r =>
          nearResponse s.node r.agent r.tag 3 [9, 0]) ∧
      (s.near.up = false → t.near = s.near) ∧
      t.ctr.refusals = s.ctr.refusals + BitVec.ofNat 32 (s.park.countP fun r => r.ctx == c && r.kind != .post) ∧
      t.log = ((s.park.filter fun r => r.ctx == c && r.kind == .post).map fun r =>
        ({ kind := .postLost, agent := some r.agent, tag := some r.tag, ctx := some r.ctx,
           page := some (pageOf r.address), detail := 9 } : FaultBody)).foldl
          (fun l w => l.append s.time w) s.log ∧
      t.far = { s.far with queue :=
        s.far.queue ++ [replyTo s h 32 ack] ++ copies ++ purges ++ closes ++ faults ++ forwards ++ quiesced } ∧
      (∀ f ∈ copies, f.cls = .mgmt ∧ f.kind = 48) ∧ (copies.map fun f => f.body.headD 0).Pairwise (· < ·) ∧
      AreNotices s purges (purgesDone s { s with park := s.park.filter fun r => r.ctx != c }) ∧
      AreNotices s closes (if ∃ (g : BridgeTag) (o : OutEntry), s.outs[g] = some o ∧ o.phase = .waiting ∧ o.ctx = c then []
        else [(51, [byteOf c.val, h.seq])]) ∧
      faults.map Frame.kind = List.replicate
        (if s.chan.params.faultNotices then s.park.countP fun r => r.ctx == c && r.kind == .post else 0) 49 ∧
      AreForwards forwards ∧ AreNotices s quiesced (quiescedSaid s t) ∧
      t.chan.stored = some (replyTo s h 32 ack) ∧
      t.chan.expected = s.chan.expected + 1 ∧ t.chan.params = s.chan.params)

/-- The drain condition's four parts (R132). QUIESCE and RESUME (R131, R133): the ACK reports the state after the command's own change;
when the drain condition holds, or the bridge is already QUIESCED, the QUIESCED notice with the command's number
follows; RESUME drops state and number and sends no notice. Nothing else changes. -/
def Obligations.QuiesceAndResume : Prop :=
  (∀ s : State, s.drained = true ↔ s.park = [] ∧ (∀ id : MissId, s.misses[id].active = none) ∧
    (∀ (g : BridgeTag) (o : OutEntry), s.outs[g] = some o → o.phase ≠ .waiting) ∧ ∀ a : Agent, s.fences[a] = none) ∧
  ∀ (s : State) (h : Header), UnderE s h [] →
    (s.bridge = .running ∨ (∃ q, s.bridge = .quiescing q) →
      (s.drained = false →
        exec (.quiesce h []) s = .next (answered { s with bridge := .quiescing h.seq } h 32 [8, 1])) ∧
      (s.drained = true →
        exec (.quiesce h []) s = .next
          (answeredAndNotified { s with bridge := .quiesced h.seq } h [8, 1] 52 [h.seq]))) ∧
    (∀ q, s.bridge = .quiesced q →
      exec (.quiesce h []) s = .next
        (answeredAndNotified { s with bridge := .quiesced h.seq } h [8, 2] 52 [h.seq])) ∧
    exec (.resume h []) s = .next (answered { s with bridge := .running } h 32 [9, 0])

/-! ## The channel's own commands, the log and the counters -/

/-- SET-PARAM (R149): a name that is not one of the five, or a value outside the named parameter's range, is answered NAK RANGE and
sets nothing; otherwise the parameter takes the value, and the ACK carries the name and the value in force; in every
bridge state; and a replay re-sends its ACK and sets nothing again. -/
def Obligations.SetParam : Prop :=
  ∀ (s : State) (h : Header) (name hi lo : Byte),
    (UnderE s h [name, hi, lo] →
      (name = 0 ∨ 5 < name.toNat → exec (.setParam h [name, hi, lo]) s = .next (answered s h 33 [10, 2, 0])) ∧
      ((name = 1 ∧ (hi ++ lo).toNat < 200) ∨ (name = 2 ∧ (hi ++ lo).toNat < 50) ∨ (name = 3 ∧ 7 < (hi ++ lo).toNat) ∨
          (name = 4 ∧ (hi ++ lo).toNat < 100) ∨ (name = 5 ∧ 1 < (hi ++ lo).toNat) →
        exec (.setParam h [name, hi, lo]) s = .next (answered s h 33 [10, 2, 0])) ∧
      (∀ ps : Params,
        (name = 1 ∧ 200 ≤ (hi ++ lo).toNat ∧ ps = { s.chan.params with missTimeout := hi ++ lo }) ∨
          (name = 2 ∧ 50 ≤ (hi ++ lo).toNat ∧ ps = { s.chan.params with noticeInterval := hi ++ lo }) ∨
          (name = 3 ∧ (hi ++ lo).toNat ≤ 7 ∧ ps = { s.chan.params with noticeRepeats := (hi ++ lo).toNat }) ∨
          (name = 4 ∧ 100 ≤ (hi ++ lo).toNat ∧ ps = { s.chan.params with responseTimeout := hi ++ lo }) ∨
          (name = 5 ∧ (hi ++ lo).toNat = 0 ∧ ps = { s.chan.params with faultNotices := false }) ∨
          (name = 5 ∧ (hi ++ lo).toNat = 1 ∧ ps = { s.chan.params with faultNotices := true }) →
        exec (.setParam h [name, hi, lo]) s = .next (answered
          { s with chan := { s.chan with params := ps } } h 32 [10, name, hi, lo]))) ∧
    (∀ l : Frame, FarTakes s [name, hi, lo] → nodeField h.dst = s.node → s.chan.manager = some (nodeField h.src) →
      s.chan.stored = some l → h.seq + 1 = s.chan.expected →
      exec (.setParam h [name, hi, lo]) s = .next (onFar (farTaken s) [l]))

/-- GET-PARAM (R150): a name that is not one of the five is answered NAK RANGE; otherwise the PARAM reply carries the name and the
value in force, nothing else changes, and a replay carries the reply of the first taking. -/
def Obligations.GetParam : Prop :=
  ∀ (s : State) (h : Header) (name : Byte),
    (UnderE s h [name] →
      (name = 0 ∨ 5 < name.toNat → exec (.getParam h [name]) s = .next (answered s h 33 [11, 2, 0])) ∧
      (∀ v : BitVec 16,
        (name = 1 ∧ v = s.chan.params.missTimeout) ∨ (name = 2 ∧ v = s.chan.params.noticeInterval) ∨
          (name = 3 ∧ v = BitVec.ofNat 16 s.chan.params.noticeRepeats) ∨ (name = 4 ∧ v = s.chan.params.responseTimeout) ∨
          (name = 5 ∧ v = if s.chan.params.faultNotices then 1 else 0) →
        exec (.getParam h [name]) s = .next (answered s h 35 ([name] ++ beBytes 2 v.toNat)))) ∧
    (∀ l : Frame, FarTakes s [name] → nodeField h.dst = s.node → s.chan.manager = some (nodeField h.src) →
      s.chan.stored = some l → h.seq + 1 = s.chan.expected →
      exec (.getParam h [name]) s = .next (onFar (farTaken s) [l]))

/-- READ-STATUS (R151, R152, Table 7-5, Table 10-6a), READ-COUNTERS (R170, R172) and READ-FAULTS (R167): the snapshot, the ten counters
with the frame itself counted, and the log's counts with the records from the offset on, oldest first; nothing else
changes but the counters under the clear flag. -/
def Obligations.ReadingCommands : Prop :=
  (
    ∀ (s : State) (h : Header), UnderE s h [] →
      exec (.readStatus h []) s = .next (answered s h 36
        ((match s.bridge with
            | .running => ([0, 0] : List Byte)
            | .quiescing q => [1, q]
            | .quiesced q => [2, q]) ++
          [(match s.cause with
              | .powerOn => (0 : Byte)
              | .soft => 1), flagByte s.near.up, 1, byteOf s.node.val, byteOf (nodeField h.src).val, h.seq + 1,
            s.chan.noticeSeq, byteOf (s.park.countP fun r => r.isWaiting), byteOf (s.park.countP fun r => r.isUnnoticed),
            byteOf (s.park.countP fun r => r.isReady), byteOf (s.misses.toList.countP fun m => m.active.isSome),
            byteOf (s.outs.toList.countP fun x => x.any fun o => o.phase == .waiting),
            byteOf (s.outs.toList.countP fun x => x.any fun o => o.phase == .expired),
            byteOf (s.slots.toList.countP fun x => x.isSome), byteOf (s.fences.toList.countP fun x => x.isSome)] ++
          s.ctxs.toList.map (fun c => match c.state with
            | .closed => (0 : Byte)
            | .opened => 1
            | .closing _ => 2) ++
          [byteOf s.log.ring.length] ++ beBytes 4 s.time.toNat)) ∧
      (∀ flag : Byte, 1 < flag.toNat → exec (.readCounters h [flag]) s = .next (answered s h 33 [13, 2, 0])) ∧
      (∀ body : List Byte,
        body = beBytes 4 s.ctr.nearFrames.toNat ++ beBytes 4 (s.ctr.farFrames + 1).toNat ++ beBytes 4 s.ctr.nearCrc.toNat ++
          beBytes 4 s.ctr.farCrc.toNat ++ beBytes 4 s.ctr.hits.toNat ++ beBytes 4 s.ctr.misses.toNat ++
          beBytes 4 s.ctr.exhaustion.toNat ++ beBytes 4 s.ctr.notices.toNat ++ beBytes 4 s.ctr.refusals.toNat ++
          beBytes 4 s.ctr.late.toNat →
        exec (.readCounters h [0]) s = .next (answered s h 37 body) ∧
        exec (.readCounters h [1]) s = .next { answered s h 37 body with
          ctr := { nearFrames := 0, farFrames := 0, nearCrc := 0, farCrc := 0, hits := 0, misses := 0, exhaustion := 0,
                   notices := 0, refusals := 0, late := 0 } })) ∧
  ∀ (s : State) (h : Header) (start count : Byte), UnderE s h [start, count] →
    (31 < start.toNat ∨ count = 0 ∨ 8 < count.toNat →
      exec (.readFaults h [start, count]) s = .next (answered s h 33 [14, 2, 0])) ∧
    (∀ rs : List FaultRecord, start.toNat ≤ 31 → count ≠ 0 → count.toNat ≤ 8 →
      rs = (s.log.ring.drop start.toNat).take count.toNat →
      exec (.readFaults h [start, count]) s = .next (answered s h 38
        ([byteOf s.log.ring.length, s.log.overwritten] ++ beBytes 2 s.log.nextNumber.toNat ++
          [start, byteOf rs.length] ++ rs.flatMap faultBytes)))

/-- CLEAR-FAULTS (R168): the ring is emptied, the overwritten count is 0, the next append number stays, no record is made and no notice
is sent; and a replay re-sends its ACK and clears nothing. -/
def Obligations.ClearFaults : Prop :=
  ∀ (s : State) (h : Header),
    (UnderE s h [] → exec (.clearFaults h []) s = .next (answered
      { s with log := { ring := [], nextNumber := s.log.nextNumber, overwritten := 0 } } h 32 [15])) ∧
    (∀ l : Frame, FarTakes s [] → nodeField h.dst = s.node → s.chan.manager = some (nodeField h.src) →
      s.chan.stored = some l → h.seq + 1 = s.chan.expected →
      exec (.clearFaults h []) s = .next (onFar (farTaken s) [l]))

/-- HANDOVER (R156): a node above 63, or the bridge's own, is answered NAK RANGE; any other node becomes the manager, with the ACK sent to
the sender and not stored, E and N 0 and no stored reply; nothing outside the channel changes. -/
def Obligations.Handover : Prop :=
  ∀ (s : State) (h : Header) (x : Byte), UnderE s h [x] →
    (63 < x.toNat ∨ x.toNat = s.node.val → exec (.handover h [x]) s = .next (answered s h 33 [16, 2, 0])) ∧
    (∀ n : NodeId, x.toNat = n.val → n ≠ s.node →
      exec (.handover h [x]) s = .next { onFar (farTaken s) [replyTo s h 32 [16, x]] with
        chan := { s.chan with manager := some n, expected := 0, stored := none, noticeSeq := 0 } })

/-- RESET-BRIDGE (R56, R81, R97, R114, R129, R135, R144, R158, R159): the ACK, stored; every block's part of Table 7-6; one RESET record; and
on the near port one ABORTED refusal for each READ or WRITE record in park order (R30), each live entry in ascending bridge
tag, and each pending fence behind the other refusals of its agent, interleaved freely (R159; log entry 6). -/
def Obligations.ResetBridge : Prop :=
  ∀ (s : State) (h : Header), UnderE s h [] → ∃ (t : State) (l : List (Agent × NearTag)),
    exec (.resetBridge h []) s = .next t ∧ l.Perm (nonPosted s) ∧
    ((s.park.filter fun r => r.kind != .post).map fun r => (r.agent, r.tag)).Sublist l ∧
    (((s.outs.toList.filterMap id).filter fun o => o.phase == .waiting && !o.orphan).map fun o => (o.agent, o.tag)).Sublist l ∧
    (s.near.up = true → t.near = { s.near with
      queue := s.near.queue ++ l.map fun x => nearResponse s.node x.1 x.2 3 [9, 0] }) ∧
    (s.near.up = false → t.near = s.near) ∧
    (∀ (a : Agent) (g : NearTag), s.fences[a] = some g → ∃ before after, l = before ++ (a, g) :: after ∧
      ∀ x ∈ after, x.1 ≠ a) ∧
    t.ctr.refusals = s.ctr.refusals + BitVec.ofNat 32 l.length ∧
    t.cache = s.cache ∧ t.park = [] ∧
    (∀ id : MissId, t.misses[id].active = none ∧ t.misses[id].gen = s.misses[id].gen) ∧
    (∀ a : Agent, t.fences[a] = none) ∧ (∀ k : SlotId, t.slots[k] = none) ∧
    (∀ g : BridgeTag, t.outs[g] = (s.outs[g]).map fun o =>
      if o.phase = .waiting then
        { o with
          phase := .expired, orphan := true, deadline := s.time + s.chan.params.responseTimeout.setWidth 32,
          marks := [], held := false }
      else o) ∧
    (∀ c : Ctx, t.ctxs[c] = match s.ctxs[c].state with
      | .closing _ => { s.ctxs[c] with state := .closed }
      | _ => s.ctxs[c]) ∧
    t.bridge = .running ∧ t.cause = .soft ∧ t.chan.manager = s.chan.manager ∧ t.chan.params = s.chan.params ∧
    t.chan.expected = s.chan.expected + 1 ∧ t.chan.stored = some (replyTo s h 32 [17]) ∧
    t.log = s.log.append s.time
      { kind := .reset, count := some (byteOf s.park.length), detail := byteOf (s.park.countP fun r => r.kind == .post) } ∧
    (s.chan.params.faultNotices = false → t.far.queue = s.far.queue ++ [replyTo s h 32 [17]] ∧
      t.chan.noticeSeq = s.chan.noticeSeq) ∧
    (s.chan.params.faultNotices = true → t.chan.noticeSeq = s.chan.noticeSeq + 1 ∧ ∃ f : Frame,
      t.far.queue = s.far.queue ++ [replyTo s h 32 [17], f] ∧ f.kind = 49)

/-- A fault record made (R163, R165): the next append number, which advances; the time; the oldest of 32 records gone and counted, the
count stopping at 255; and with FAULT-NOTICES ON, the far link UP and a manager configured, one FAULT-NOTICE carrying the
record, numbered and counted (R153, R154); otherwise the log is all that changes. And the record as carried, here and in
FAULTS: the 19 bytes of Table 10-8, a presence bit for each optional field it holds, and all ones for a field it does not
(R193). -/
def Obligations.FaultRecordMade : Prop :=
  (∀ r : FaultRecord, ∃ kind presence agent tag ctx p3 p2 p1 p0 node port count : Byte,
    faultBytes r =
      [r.number.extractLsb' 8 8, r.number.extractLsb' 0 8, r.time.extractLsb' 24 8, r.time.extractLsb' 16 8,
        r.time.extractLsb' 8 8, r.time.extractLsb' 0 8, kind, presence, agent, tag, ctx, p3, p2, p1, p0, node, port, count,
        r.what.detail] ∧
    kind = (match r.what.kind with
      | .rights => 1
      | .guard => 2
      | .boundary => 3
      | .denied => 4
      | .missTimeout => 5
      | .responseTimeout => 6
      | .targetError => 7
      | .lateResponse => 8
      | .dupTag => 9
      | .postLost => 10
      | .foreignMgmt => 11
      | .malformed => 12
      | .linkDown => 13
      | .reset => 14) ∧
    presence.getLsbD 7 = false ∧ presence.getLsbD 6 = r.what.agent.isSome ∧ presence.getLsbD 5 = r.what.tag.isSome ∧
    presence.getLsbD 4 = r.what.ctx.isSome ∧ presence.getLsbD 3 = r.what.page.isSome ∧
    presence.getLsbD 2 = r.what.node.isSome ∧ presence.getLsbD 1 = r.what.port.isSome ∧
    presence.getLsbD 0 = r.what.count.isSome ∧
    agent = r.what.agent.elim 0xFF (fun x => byteOf x.val) ∧ tag = r.what.tag.elim 0xFF (fun x => byteOf x.val) ∧
    ctx = r.what.ctx.elim 0xFF (fun x => byteOf x.val) ∧
    p3 ++ p2 ++ p1 ++ p0 = r.what.page.elim 0xFFFFFFFF (fun x => x.setWidth 32) ∧
    node = r.what.node.elim 0xFF (fun x => byteOf x.val) ∧
    port = r.what.port.elim 0xFF (fun x => if x = .near then 0 else 1) ∧ count = r.what.count.getD 0xFF) ∧
  ∀ (s : State) (w : FaultBody) (l : FaultLog) (r : FaultRecord),
    r = { number := s.log.nextNumber, time := s.time, what := w } →
    l = { ring := (if s.log.ring.length < 32 then s.log.ring else s.log.ring.drop 1) ++ [r]
          nextNumber := s.log.nextNumber + 1
          overwritten :=
            if s.log.ring.length < 32 ∨ s.log.overwritten = 255 then s.log.overwritten
            else s.log.overwritten + 1 } →
    (∀ m : NodeId, s.chan.params.faultNotices = true → s.far.up = true → s.chan.manager = some m →
      s.makeFault w = { s with
        log := l
        far := { s.far with queue := s.far.queue ++
          [{ cls := .mgmt, kind := 49
             hdr := { dst := byteOf m.val, src := byteOf s.node.val, tag := 0, seq := s.chan.noticeSeq, last := 0 }
             body := faultBytes r }] }
        chan := { s.chan with noticeSeq := s.chan.noticeSeq + 1 }
        ctr := { s.ctr with notices := s.ctr.notices + 1 } }) ∧
    (s.chan.params.faultNotices = false ∨ s.far.up = false ∨ s.chan.manager = none →
      s.makeFault w = { s with log := l })

/-! ## The laws -/

/-- Every law holds at the end of a power-on reset, whatever the straps, and so in State.reset, whose straps are the model's
choice (log entry 1). -/
def Obligations.LawsHoldAtReset : Prop :=
  ∀ n m : NodeId, ∀ s : State, s = State.powerOn n m →
    CacheLaws s ∧ BoundLaws s ∧ PortLaws s ∧ MissLaws s ∧ IdentitiesDistinct s ∧ FenceLaws s ∧ ReadyLaws s ∧
      PurgeLaws s ∧ ContextLaws s ∧ QuiesceLaws s

/-- Every step keeps the laws of the cache: placement, one match at most, the order a permutation, three pins at most, each on a valid
entry, and no unresolved record matched (R1, R4, R11, R31). -/
def Obligations.CacheLawsKept : Prop :=
  ∀ s t : State, CacheLaws s → step s = .next t → CacheLaws t

/-- Every step keeps the bounds: 64 park records, 32 fault records, parameters in range, notice schedules, and a manager that is not the
bridge (R28, R43, R137, R147, R156, R162). -/
def Obligations.BoundLawsKept : Prop :=
  ∀ s t : State, BoundLaws s → step s = .next t → BoundLaws t

/-- Every step keeps the laws of the ports: a DOWN port holds nothing, requests are sound, and no body held to send exceeds 300 bytes
(R29, R61, R65, R182, R183). That an unpowered bridge is dark, both links DOWN and the time base at 0 while power-good is low, is
the model's reading (DEDUCED, log entry 15): R189 gives these at the end of a power-on reset, and of the fall says that the
bridge drops what it holds, sends nothing further and holds reset. -/
def Obligations.PortLawsKept : Prop :=
  ∀ s t : State, PortLaws s → step s = .next t → PortLaws t

/-- Every step keeps the laws of the miss table: no two active misses of one pair, every WAITING record on an active miss of its pair,
no UNNOTICED record of an active pair, and UNNOTICED records only while every entry is active (R34, R35, R41, R48). -/
def Obligations.MissLawsKept : Prop :=
  ∀ s t : State, MissLaws s → step s = .next t → MissLaws t

/-- Every step keeps it that no two in-flight near requests share an (agent, tag) (R62). -/
def Obligations.IdentitiesStayDistinct : Prop :=
  ∀ s t : State, IdentitiesDistinct s → step s = .next t → IdentitiesDistinct t

/-- Every step keeps the laws of the fences: what is held belongs to a pending fence, and a pending fence holds something (R78 to R81). -/
def Obligations.FenceLawsKept : Prop :=
  ∀ s t : State, FenceLaws s → step s = .next t → FenceLaws t

/-- Every step keeps the laws of the ready list: a head that could leave has left, nothing READY or outstanding while the far link is
DOWN, no POST in the outstanding table (R58, R70, R72, R73, R95, R96). -/
def Obligations.ReadyLawsKept : Prop :=
  ∀ s t : State, ReadyLaws s → step s = .next t → ReadyLaws t

/-- Every step keeps the laws of the purge list: a slot is in use exactly while it has a carrier, and an EXPIRED entry carries no mark
and no hold (R91, R105). -/
def Obligations.PurgeLawsKept : Prop :=
  ∀ s t : State, PurgeLaws s → step s = .next t → PurgeLaws t

/-- Every step keeps the laws of the contexts: a CLOSED context carries nothing, a CLOSING one only WAITING entries, at least one
(R117, R122 to R126). -/
def Obligations.ContextLawsKept : Prop :=
  ∀ s t : State, ContextLaws s → step s = .next t → ContextLaws t

/-- Every step keeps the laws of the bridge state: QUIESCED is empty, and QUIESCING has not drained (R130, R132). -/
def Obligations.QuiesceLawsKept : Prop :=
  ∀ s t : State, QuiesceLaws s → step s = .next t → QuiesceLaws t

/-- Every non-posted near request in flight is answered exactly once (R77), at any command other than a near arrival, the near port's
sending, near link down and the power events: with the near link UP, each near identity in flight is answered by one RESPONSE
frame if it stops being in flight, and by none if it goes on. (Near arrivals are answered as the statements on intake say.) -/
def Obligations.AnsweredExactlyOnce : Prop :=
  ∀ (c : Instr) (s t : State), IdentitiesDistinct s → s.near.up = true → keepsAnswers c = true → exec c s = .next t →
    ∃ l : List Frame, t.near = { s.near with queue := s.near.queue ++ l } ∧
      ∀ (a : Agent) (g : NearTag), (a, g) ∈ nonPosted s →
        l.countP (answers a g) = if (a, g) ∈ nonPosted t then 0 else 1

end Statements
end

