-- ==== Sys2Proof/Laws/Bytes.lean ====
section
/-! SUPPORT. Numbers in bytes and the numbered things that bytes name (chapter 10). -/

namespace Sys2Proof.Machine

@[simp] theorem beBytes_length (n v : Nat) : (beBytes n v).length = n := by
  induction n with
  | zero => rfl
  | succ n ih => simp [beBytes, ih]

theorem foldl_beBytes (n v a : Nat) :
    (beBytes n v).foldl (fun n b => n * 256 + b.toNat) a = a * 256 ^ n + v % 256 ^ n := by
  induction n generalizing a with
  | zero => simp [beBytes, Nat.mod_one]
  | succ n ih =>
    rw [beBytes, List.foldl_cons, ih]
    simp only [BitVec.toNat_ofNat]
    have h : v % 256 ^ (n + 1) = v / 256 ^ n % 256 * 256 ^ n + v % 256 ^ n := by
      rw [Nat.pow_succ, Nat.mod_mul]; ring
    rw [h, Nat.pow_succ]; ring

/-- A number spelled in `n` bytes is read back modulo 256^n. -/
theorem beNat_beBytes (n v : Nat) : beNat (beBytes n v) = v % 256 ^ n := by
  simpa [beNat] using foldl_beBytes n v 0

/-- Two bytes as a 16-bit number are spelled as the two bytes. -/
theorem beBytes_two (hi lo : Byte) : beBytes 2 (hi ++ lo).toNat = [hi, lo] := by
  have h : (hi ++ lo).toNat = hi.toNat * 256 + lo.toNat := by
    rw [BitVec.toNat_append, Nat.shiftLeft_eq, Nat.mul_comm, ← Nat.two_pow_add_eq_or_of_lt lo.isLt]
  have h1 := hi.isLt
  have h2 := lo.isLt
  rw [h]
  simp only [beBytes, List.cons.injEq, and_true]
  constructor
  · apply BitVec.eq_of_toNat_eq; simp; omega
  · apply BitVec.eq_of_toNat_eq; simp; omega

theorem inRange_none {k n : Nat} (h : k ≤ n) : inRange k n = none := by
  simp [inRange, Nat.not_lt.mpr h]

theorem inRange_some {k n : Nat} (h : n < k) : inRange k n = some ⟨n, h⟩ := by
  simp [inRange, h]

@[simp] theorem byteOf_toNat {n : Nat} (h : n < 256) : (byteOf n).toNat = n := by
  simp [byteOf, Nat.mod_eq_of_lt h]

/-- The byte of a numbered thing names it. -/
theorem inRange_byteOf {k : Nat} (hk : k ≤ 256) (i : Fin k) : inRange k (byteOf i.val).toNat = some i := by
  rw [byteOf_toNat (by omega), inRange_some i.isLt]

@[simp] theorem byteOf_byte (b : Byte) : byteOf b.toNat = b := by
  simp [byteOf]

theorem flagOf_none {b : Byte} (h : 1 < b.toNat) : flagOf b = none := by
  unfold flagOf
  rw [if_neg, if_neg] <;> rintro rfl <;> simp at h

theorem flagOf_some {b : Byte} (h : b.toNat ≤ 1) : flagOf b = some (b == 1) := by
  rcases Nat.le_one_iff_eq_zero_or_eq_one.mp h with h | h
  · obtain rfl : b = 0 := BitVec.eq_of_toNat_eq h
    rfl
  · obtain rfl : b = 1 := BitVec.eq_of_toNat_eq h
    rfl

theorem flagOf_flagByte (b : Bool) : flagOf (flagByte b) = some b := by
  cases b <;> rfl

end Sys2Proof.Machine
end

