-- ==== Sys2Proof/Laws/Cache.lean ====
section
/-! SUPPORT. How the laws of the cache hang together. -/

namespace Sys2Proof.Machine

open Sys2Proof.Safety

/-- Where every valid entry stands in the set of its page and no two ways of a set conflict, at most one way matches a
pair (R1, R4). -/
theorem uniqueMatch_of {s : State} (placed : Placed s) (noConflict : NoConflict s) : UniqueMatch s := by
  intro c p t u v w hv hw
  simp only [Entry.matchesPair, Bool.and_eq_true, beq_iff_eq] at hv hw
  obtain ⟨⟨hv1, hv2⟩, hv3⟩ := hv
  obtain ⟨⟨hw1, hw2⟩, hw3⟩ := hw
  have htu : t = u := by rw [← placed t v hv1, ← placed u w hw1, hv3, hw3]
  subst htu
  refine ⟨rfl, Classical.byContradiction fun hne => ?_⟩
  have h := noConflict t v w hne hv1
  simp only [Entry.conflicts, hw1, hw3, hv3, beq_self_eq_true, Bool.true_and] at h
  revert h hv2 hw2
  cases s.cache[t].ways[v].scope <;> cases s.cache[t].ways[w].scope <;> simp [Scope.overlaps, Scope.covers]
  rintro rfl rfl
  rfl

end Sys2Proof.Machine
end

