-- ==== Sys2Proof/Laws/State.lean ====
section
/-! SUPPORT. One lemma per field for each plain update of the state: what it writes, and that it leaves the rest. -/

namespace Sys2Proof.Machine

/-! ## `State.setCache` -/

@[simp] theorem State.setCache_cache (s : State) (t : SetId) (c : CacheSet) :
    (s.setCache t c).cache = s.cache.set t c := rfl

@[simp] theorem State.setCache_park (s : State) (t : SetId) (c : CacheSet) :
    (s.setCache t c).park = s.park := rfl

@[simp] theorem State.setCache_misses (s : State) (t : SetId) (c : CacheSet) :
    (s.setCache t c).misses = s.misses := rfl

@[simp] theorem State.setCache_fences (s : State) (t : SetId) (c : CacheSet) :
    (s.setCache t c).fences = s.fences := rfl

@[simp] theorem State.setCache_outs (s : State) (t : SetId) (c : CacheSet) :
    (s.setCache t c).outs = s.outs := rfl

@[simp] theorem State.setCache_slots (s : State) (t : SetId) (c : CacheSet) :
    (s.setCache t c).slots = s.slots := rfl

@[simp] theorem State.setCache_ctxs (s : State) (t : SetId) (c : CacheSet) :
    (s.setCache t c).ctxs = s.ctxs := rfl

@[simp] theorem State.setCache_bridge (s : State) (t : SetId) (c : CacheSet) :
    (s.setCache t c).bridge = s.bridge := rfl

@[simp] theorem State.setCache_cause (s : State) (t : SetId) (c : CacheSet) :
    (s.setCache t c).cause = s.cause := rfl

@[simp] theorem State.setCache_chan (s : State) (t : SetId) (c : CacheSet) :
    (s.setCache t c).chan = s.chan := rfl

@[simp] theorem State.setCache_log (s : State) (t : SetId) (c : CacheSet) :
    (s.setCache t c).log = s.log := rfl

@[simp] theorem State.setCache_ctr (s : State) (t : SetId) (c : CacheSet) :
    (s.setCache t c).ctr = s.ctr := rfl

@[simp] theorem State.setCache_time (s : State) (t : SetId) (c : CacheSet) :
    (s.setCache t c).time = s.time := rfl

@[simp] theorem State.setCache_near (s : State) (t : SetId) (c : CacheSet) :
    (s.setCache t c).near = s.near := rfl

@[simp] theorem State.setCache_far (s : State) (t : SetId) (c : CacheSet) :
    (s.setCache t c).far = s.far := rfl

@[simp] theorem State.setCache_node (s : State) (t : SetId) (c : CacheSet) :
    (s.setCache t c).node = s.node := rfl

@[simp] theorem State.setCache_managerStrap (s : State) (t : SetId) (c : CacheSet) :
    (s.setCache t c).managerStrap = s.managerStrap := rfl

@[simp] theorem State.setCache_powered (s : State) (t : SetId) (c : CacheSet) :
    (s.setCache t c).powered = s.powered := rfl

@[simp] theorem State.setCache_moment (s : State) (t : SetId) (c : CacheSet) :
    (s.setCache t c).moment = s.moment := rfl

@[simp] theorem State.setCache_pending (s : State) (t : SetId) (c : CacheSet) :
    (s.setCache t c).pending = s.pending := rfl

/-! ## `State.setOut` -/

@[simp] theorem State.setOut_cache (s : State) (t : BridgeTag) (o : Option OutEntry) :
    (s.setOut t o).cache = s.cache := rfl

@[simp] theorem State.setOut_park (s : State) (t : BridgeTag) (o : Option OutEntry) :
    (s.setOut t o).park = s.park := rfl

@[simp] theorem State.setOut_misses (s : State) (t : BridgeTag) (o : Option OutEntry) :
    (s.setOut t o).misses = s.misses := rfl

@[simp] theorem State.setOut_fences (s : State) (t : BridgeTag) (o : Option OutEntry) :
    (s.setOut t o).fences = s.fences := rfl

@[simp] theorem State.setOut_outs (s : State) (t : BridgeTag) (o : Option OutEntry) :
    (s.setOut t o).outs = s.outs.set t o := rfl

@[simp] theorem State.setOut_slots (s : State) (t : BridgeTag) (o : Option OutEntry) :
    (s.setOut t o).slots = s.slots := rfl

@[simp] theorem State.setOut_ctxs (s : State) (t : BridgeTag) (o : Option OutEntry) :
    (s.setOut t o).ctxs = s.ctxs := rfl

@[simp] theorem State.setOut_bridge (s : State) (t : BridgeTag) (o : Option OutEntry) :
    (s.setOut t o).bridge = s.bridge := rfl

@[simp] theorem State.setOut_cause (s : State) (t : BridgeTag) (o : Option OutEntry) :
    (s.setOut t o).cause = s.cause := rfl

@[simp] theorem State.setOut_chan (s : State) (t : BridgeTag) (o : Option OutEntry) :
    (s.setOut t o).chan = s.chan := rfl

@[simp] theorem State.setOut_log (s : State) (t : BridgeTag) (o : Option OutEntry) :
    (s.setOut t o).log = s.log := rfl

@[simp] theorem State.setOut_ctr (s : State) (t : BridgeTag) (o : Option OutEntry) :
    (s.setOut t o).ctr = s.ctr := rfl

@[simp] theorem State.setOut_time (s : State) (t : BridgeTag) (o : Option OutEntry) :
    (s.setOut t o).time = s.time := rfl

@[simp] theorem State.setOut_near (s : State) (t : BridgeTag) (o : Option OutEntry) :
    (s.setOut t o).near = s.near := rfl

@[simp] theorem State.setOut_far (s : State) (t : BridgeTag) (o : Option OutEntry) :
    (s.setOut t o).far = s.far := rfl

@[simp] theorem State.setOut_node (s : State) (t : BridgeTag) (o : Option OutEntry) :
    (s.setOut t o).node = s.node := rfl

@[simp] theorem State.setOut_managerStrap (s : State) (t : BridgeTag) (o : Option OutEntry) :
    (s.setOut t o).managerStrap = s.managerStrap := rfl

@[simp] theorem State.setOut_powered (s : State) (t : BridgeTag) (o : Option OutEntry) :
    (s.setOut t o).powered = s.powered := rfl

@[simp] theorem State.setOut_moment (s : State) (t : BridgeTag) (o : Option OutEntry) :
    (s.setOut t o).moment = s.moment := rfl

@[simp] theorem State.setOut_pending (s : State) (t : BridgeTag) (o : Option OutEntry) :
    (s.setOut t o).pending = s.pending := rfl

/-! ## `State.setCtx` -/

@[simp] theorem State.setCtx_cache (s : State) (c : Ctx) (r : CtxRecord) :
    (s.setCtx c r).cache = s.cache := rfl

@[simp] theorem State.setCtx_park (s : State) (c : Ctx) (r : CtxRecord) :
    (s.setCtx c r).park = s.park := rfl

@[simp] theorem State.setCtx_misses (s : State) (c : Ctx) (r : CtxRecord) :
    (s.setCtx c r).misses = s.misses := rfl

@[simp] theorem State.setCtx_fences (s : State) (c : Ctx) (r : CtxRecord) :
    (s.setCtx c r).fences = s.fences := rfl

@[simp] theorem State.setCtx_outs (s : State) (c : Ctx) (r : CtxRecord) :
    (s.setCtx c r).outs = s.outs := rfl

@[simp] theorem State.setCtx_slots (s : State) (c : Ctx) (r : CtxRecord) :
    (s.setCtx c r).slots = s.slots := rfl

@[simp] theorem State.setCtx_ctxs (s : State) (c : Ctx) (r : CtxRecord) :
    (s.setCtx c r).ctxs = s.ctxs.set c r := rfl

@[simp] theorem State.setCtx_bridge (s : State) (c : Ctx) (r : CtxRecord) :
    (s.setCtx c r).bridge = s.bridge := rfl

@[simp] theorem State.setCtx_cause (s : State) (c : Ctx) (r : CtxRecord) :
    (s.setCtx c r).cause = s.cause := rfl

@[simp] theorem State.setCtx_chan (s : State) (c : Ctx) (r : CtxRecord) :
    (s.setCtx c r).chan = s.chan := rfl

@[simp] theorem State.setCtx_log (s : State) (c : Ctx) (r : CtxRecord) :
    (s.setCtx c r).log = s.log := rfl

@[simp] theorem State.setCtx_ctr (s : State) (c : Ctx) (r : CtxRecord) :
    (s.setCtx c r).ctr = s.ctr := rfl

@[simp] theorem State.setCtx_time (s : State) (c : Ctx) (r : CtxRecord) :
    (s.setCtx c r).time = s.time := rfl

@[simp] theorem State.setCtx_near (s : State) (c : Ctx) (r : CtxRecord) :
    (s.setCtx c r).near = s.near := rfl

@[simp] theorem State.setCtx_far (s : State) (c : Ctx) (r : CtxRecord) :
    (s.setCtx c r).far = s.far := rfl

@[simp] theorem State.setCtx_node (s : State) (c : Ctx) (r : CtxRecord) :
    (s.setCtx c r).node = s.node := rfl

@[simp] theorem State.setCtx_managerStrap (s : State) (c : Ctx) (r : CtxRecord) :
    (s.setCtx c r).managerStrap = s.managerStrap := rfl

@[simp] theorem State.setCtx_powered (s : State) (c : Ctx) (r : CtxRecord) :
    (s.setCtx c r).powered = s.powered := rfl

@[simp] theorem State.setCtx_moment (s : State) (c : Ctx) (r : CtxRecord) :
    (s.setCtx c r).moment = s.moment := rfl

@[simp] theorem State.setCtx_pending (s : State) (c : Ctx) (r : CtxRecord) :
    (s.setCtx c r).pending = s.pending := rfl

/-! ## `State.freeMiss` -/

@[simp] theorem State.freeMiss_cache (s : State) (id : MissId) :
    (s.freeMiss id).cache = s.cache := rfl

@[simp] theorem State.freeMiss_park (s : State) (id : MissId) :
    (s.freeMiss id).park = s.park := rfl

@[simp] theorem State.freeMiss_misses (s : State) (id : MissId) :
    (s.freeMiss id).misses = s.misses.set id { s.misses[id] with active := none } := rfl

@[simp] theorem State.freeMiss_fences (s : State) (id : MissId) :
    (s.freeMiss id).fences = s.fences := rfl

@[simp] theorem State.freeMiss_outs (s : State) (id : MissId) :
    (s.freeMiss id).outs = s.outs := rfl

@[simp] theorem State.freeMiss_slots (s : State) (id : MissId) :
    (s.freeMiss id).slots = s.slots := rfl

@[simp] theorem State.freeMiss_ctxs (s : State) (id : MissId) :
    (s.freeMiss id).ctxs = s.ctxs := rfl

@[simp] theorem State.freeMiss_bridge (s : State) (id : MissId) :
    (s.freeMiss id).bridge = s.bridge := rfl

@[simp] theorem State.freeMiss_cause (s : State) (id : MissId) :
    (s.freeMiss id).cause = s.cause := rfl

@[simp] theorem State.freeMiss_chan (s : State) (id : MissId) :
    (s.freeMiss id).chan = s.chan := rfl

@[simp] theorem State.freeMiss_log (s : State) (id : MissId) :
    (s.freeMiss id).log = s.log := rfl

@[simp] theorem State.freeMiss_ctr (s : State) (id : MissId) :
    (s.freeMiss id).ctr = s.ctr := rfl

@[simp] theorem State.freeMiss_time (s : State) (id : MissId) :
    (s.freeMiss id).time = s.time := rfl

@[simp] theorem State.freeMiss_near (s : State) (id : MissId) :
    (s.freeMiss id).near = s.near := rfl

@[simp] theorem State.freeMiss_far (s : State) (id : MissId) :
    (s.freeMiss id).far = s.far := rfl

@[simp] theorem State.freeMiss_node (s : State) (id : MissId) :
    (s.freeMiss id).node = s.node := rfl

@[simp] theorem State.freeMiss_managerStrap (s : State) (id : MissId) :
    (s.freeMiss id).managerStrap = s.managerStrap := rfl

@[simp] theorem State.freeMiss_powered (s : State) (id : MissId) :
    (s.freeMiss id).powered = s.powered := rfl

@[simp] theorem State.freeMiss_moment (s : State) (id : MissId) :
    (s.freeMiss id).moment = s.moment := rfl

@[simp] theorem State.freeMiss_pending (s : State) (id : MissId) :
    (s.freeMiss id).pending = s.pending := rfl

/-! ## `State.parkRequest` -/

@[simp] theorem State.parkRequest_cache (s : State) (r : Request) (st : ParkState) :
    (s.parkRequest r st).cache = s.cache := rfl

@[simp] theorem State.parkRequest_park (s : State) (r : Request) (st : ParkState) :
    (s.parkRequest r st).park = s.park ++ [parkedAs r st] := rfl

@[simp] theorem State.parkRequest_misses (s : State) (r : Request) (st : ParkState) :
    (s.parkRequest r st).misses = s.misses := rfl

@[simp] theorem State.parkRequest_fences (s : State) (r : Request) (st : ParkState) :
    (s.parkRequest r st).fences = s.fences := rfl

@[simp] theorem State.parkRequest_outs (s : State) (r : Request) (st : ParkState) :
    (s.parkRequest r st).outs = s.outs := rfl

@[simp] theorem State.parkRequest_slots (s : State) (r : Request) (st : ParkState) :
    (s.parkRequest r st).slots = s.slots := rfl

@[simp] theorem State.parkRequest_ctxs (s : State) (r : Request) (st : ParkState) :
    (s.parkRequest r st).ctxs = s.ctxs := rfl

@[simp] theorem State.parkRequest_bridge (s : State) (r : Request) (st : ParkState) :
    (s.parkRequest r st).bridge = s.bridge := rfl

@[simp] theorem State.parkRequest_cause (s : State) (r : Request) (st : ParkState) :
    (s.parkRequest r st).cause = s.cause := rfl

@[simp] theorem State.parkRequest_chan (s : State) (r : Request) (st : ParkState) :
    (s.parkRequest r st).chan = s.chan := rfl

@[simp] theorem State.parkRequest_log (s : State) (r : Request) (st : ParkState) :
    (s.parkRequest r st).log = s.log := rfl

@[simp] theorem State.parkRequest_ctr (s : State) (r : Request) (st : ParkState) :
    (s.parkRequest r st).ctr = s.ctr := rfl

@[simp] theorem State.parkRequest_time (s : State) (r : Request) (st : ParkState) :
    (s.parkRequest r st).time = s.time := rfl

@[simp] theorem State.parkRequest_near (s : State) (r : Request) (st : ParkState) :
    (s.parkRequest r st).near = s.near := rfl

@[simp] theorem State.parkRequest_far (s : State) (r : Request) (st : ParkState) :
    (s.parkRequest r st).far = s.far := rfl

@[simp] theorem State.parkRequest_node (s : State) (r : Request) (st : ParkState) :
    (s.parkRequest r st).node = s.node := rfl

@[simp] theorem State.parkRequest_managerStrap (s : State) (r : Request) (st : ParkState) :
    (s.parkRequest r st).managerStrap = s.managerStrap := rfl

@[simp] theorem State.parkRequest_powered (s : State) (r : Request) (st : ParkState) :
    (s.parkRequest r st).powered = s.powered := rfl

@[simp] theorem State.parkRequest_moment (s : State) (r : Request) (st : ParkState) :
    (s.parkRequest r st).moment = s.moment := rfl

@[simp] theorem State.parkRequest_pending (s : State) (r : Request) (st : ParkState) :
    (s.parkRequest r st).pending = s.pending := rfl

/-! ## `State.advanceCopy` -/

@[simp] theorem State.advanceCopy_cache (s : State) (id : MissId) (m : Miss) :
    (s.advanceCopy id m).cache = s.cache := rfl

@[simp] theorem State.advanceCopy_park (s : State) (id : MissId) (m : Miss) :
    (s.advanceCopy id m).park = s.park := rfl

@[simp] theorem State.advanceCopy_misses (s : State) (id : MissId) (m : Miss) :
    (s.advanceCopy id m).misses = s.misses.set id
        { gen := s.misses[id].gen, active := some { m with sent := m.sent + 1, next := m.nextCopy (m.sent + 1) } } := rfl

@[simp] theorem State.advanceCopy_fences (s : State) (id : MissId) (m : Miss) :
    (s.advanceCopy id m).fences = s.fences := rfl

@[simp] theorem State.advanceCopy_outs (s : State) (id : MissId) (m : Miss) :
    (s.advanceCopy id m).outs = s.outs := rfl

@[simp] theorem State.advanceCopy_slots (s : State) (id : MissId) (m : Miss) :
    (s.advanceCopy id m).slots = s.slots := rfl

@[simp] theorem State.advanceCopy_ctxs (s : State) (id : MissId) (m : Miss) :
    (s.advanceCopy id m).ctxs = s.ctxs := rfl

@[simp] theorem State.advanceCopy_bridge (s : State) (id : MissId) (m : Miss) :
    (s.advanceCopy id m).bridge = s.bridge := rfl

@[simp] theorem State.advanceCopy_cause (s : State) (id : MissId) (m : Miss) :
    (s.advanceCopy id m).cause = s.cause := rfl

@[simp] theorem State.advanceCopy_chan (s : State) (id : MissId) (m : Miss) :
    (s.advanceCopy id m).chan = s.chan := rfl

@[simp] theorem State.advanceCopy_log (s : State) (id : MissId) (m : Miss) :
    (s.advanceCopy id m).log = s.log := rfl

@[simp] theorem State.advanceCopy_ctr (s : State) (id : MissId) (m : Miss) :
    (s.advanceCopy id m).ctr = s.ctr := rfl

@[simp] theorem State.advanceCopy_time (s : State) (id : MissId) (m : Miss) :
    (s.advanceCopy id m).time = s.time := rfl

@[simp] theorem State.advanceCopy_near (s : State) (id : MissId) (m : Miss) :
    (s.advanceCopy id m).near = s.near := rfl

@[simp] theorem State.advanceCopy_far (s : State) (id : MissId) (m : Miss) :
    (s.advanceCopy id m).far = s.far := rfl

@[simp] theorem State.advanceCopy_node (s : State) (id : MissId) (m : Miss) :
    (s.advanceCopy id m).node = s.node := rfl

@[simp] theorem State.advanceCopy_managerStrap (s : State) (id : MissId) (m : Miss) :
    (s.advanceCopy id m).managerStrap = s.managerStrap := rfl

@[simp] theorem State.advanceCopy_powered (s : State) (id : MissId) (m : Miss) :
    (s.advanceCopy id m).powered = s.powered := rfl

@[simp] theorem State.advanceCopy_moment (s : State) (id : MissId) (m : Miss) :
    (s.advanceCopy id m).moment = s.moment := rfl

@[simp] theorem State.advanceCopy_pending (s : State) (id : MissId) (m : Miss) :
    (s.advanceCopy id m).pending = s.pending := rfl

/-! ## `State.allocMiss` -/

@[simp] theorem State.allocMiss_cache (s : State) (id : MissId) (c : Ctx) (p : Page) (a : Access) (m : Mode) :
    (s.allocMiss id c p a m).cache = s.cache := rfl

@[simp] theorem State.allocMiss_park (s : State) (id : MissId) (c : Ctx) (p : Page) (a : Access) (m : Mode) :
    (s.allocMiss id c p a m).park = s.park := rfl

@[simp] theorem State.allocMiss_misses (s : State) (id : MissId) (c : Ctx) (p : Page) (a : Access) (m : Mode) :
    (s.allocMiss id c p a m).misses = s.misses.set id { gen := s.misses[id].gen + 1, active := some (newMiss s c p a m) } := rfl

@[simp] theorem State.allocMiss_fences (s : State) (id : MissId) (c : Ctx) (p : Page) (a : Access) (m : Mode) :
    (s.allocMiss id c p a m).fences = s.fences := rfl

@[simp] theorem State.allocMiss_outs (s : State) (id : MissId) (c : Ctx) (p : Page) (a : Access) (m : Mode) :
    (s.allocMiss id c p a m).outs = s.outs := rfl

@[simp] theorem State.allocMiss_slots (s : State) (id : MissId) (c : Ctx) (p : Page) (a : Access) (m : Mode) :
    (s.allocMiss id c p a m).slots = s.slots := rfl

@[simp] theorem State.allocMiss_ctxs (s : State) (id : MissId) (c : Ctx) (p : Page) (a : Access) (m : Mode) :
    (s.allocMiss id c p a m).ctxs = s.ctxs := rfl

@[simp] theorem State.allocMiss_bridge (s : State) (id : MissId) (c : Ctx) (p : Page) (a : Access) (m : Mode) :
    (s.allocMiss id c p a m).bridge = s.bridge := rfl

@[simp] theorem State.allocMiss_cause (s : State) (id : MissId) (c : Ctx) (p : Page) (a : Access) (m : Mode) :
    (s.allocMiss id c p a m).cause = s.cause := rfl

@[simp] theorem State.allocMiss_chan (s : State) (id : MissId) (c : Ctx) (p : Page) (a : Access) (m : Mode) :
    (s.allocMiss id c p a m).chan = s.chan := rfl

@[simp] theorem State.allocMiss_log (s : State) (id : MissId) (c : Ctx) (p : Page) (a : Access) (m : Mode) :
    (s.allocMiss id c p a m).log = s.log := rfl

@[simp] theorem State.allocMiss_ctr (s : State) (id : MissId) (c : Ctx) (p : Page) (a : Access) (m : Mode) :
    (s.allocMiss id c p a m).ctr = { s.ctr with misses := s.ctr.misses + 1 } := rfl

@[simp] theorem State.allocMiss_time (s : State) (id : MissId) (c : Ctx) (p : Page) (a : Access) (m : Mode) :
    (s.allocMiss id c p a m).time = s.time := rfl

@[simp] theorem State.allocMiss_near (s : State) (id : MissId) (c : Ctx) (p : Page) (a : Access) (m : Mode) :
    (s.allocMiss id c p a m).near = s.near := rfl

@[simp] theorem State.allocMiss_far (s : State) (id : MissId) (c : Ctx) (p : Page) (a : Access) (m : Mode) :
    (s.allocMiss id c p a m).far = s.far := rfl

@[simp] theorem State.allocMiss_node (s : State) (id : MissId) (c : Ctx) (p : Page) (a : Access) (m : Mode) :
    (s.allocMiss id c p a m).node = s.node := rfl

@[simp] theorem State.allocMiss_managerStrap (s : State) (id : MissId) (c : Ctx) (p : Page) (a : Access) (m : Mode) :
    (s.allocMiss id c p a m).managerStrap = s.managerStrap := rfl

@[simp] theorem State.allocMiss_powered (s : State) (id : MissId) (c : Ctx) (p : Page) (a : Access) (m : Mode) :
    (s.allocMiss id c p a m).powered = s.powered := rfl

@[simp] theorem State.allocMiss_moment (s : State) (id : MissId) (c : Ctx) (p : Page) (a : Access) (m : Mode) :
    (s.allocMiss id c p a m).moment = s.moment := rfl

@[simp] theorem State.allocMiss_pending (s : State) (id : MissId) (c : Ctx) (p : Page) (a : Access) (m : Mode) :
    (s.allocMiss id c p a m).pending = s.pending := rfl

/-! ## `State.applyPurge` -/

@[simp] theorem State.applyPurge_cache (s : State) (pat : Pattern) (inc : Bool) (q : Byte) (k : SlotId) :
    (s.applyPurge pat inc q k).cache = purgedCache pat inc s.cache := rfl

@[simp] theorem State.applyPurge_park (s : State) (pat : Pattern) (inc : Bool) (q : Byte) (k : SlotId) :
    (s.applyPurge pat inc q k).park = s.park.map (ParkRecord.markedBy pat k) := rfl

@[simp] theorem State.applyPurge_misses (s : State) (pat : Pattern) (inc : Bool) (q : Byte) (k : SlotId) :
    (s.applyPurge pat inc q k).misses = s.misses := rfl

@[simp] theorem State.applyPurge_fences (s : State) (pat : Pattern) (inc : Bool) (q : Byte) (k : SlotId) :
    (s.applyPurge pat inc q k).fences = s.fences := rfl

@[simp] theorem State.applyPurge_outs (s : State) (pat : Pattern) (inc : Bool) (q : Byte) (k : SlotId) :
    (s.applyPurge pat inc q k).outs = s.outs.map (Option.map (OutEntry.markedBy pat k)) := rfl

@[simp] theorem State.applyPurge_slots (s : State) (pat : Pattern) (inc : Bool) (q : Byte) (k : SlotId) :
    (s.applyPurge pat inc q k).slots = s.slots.set k (some { pattern := pat, seq := q }) := rfl

@[simp] theorem State.applyPurge_ctxs (s : State) (pat : Pattern) (inc : Bool) (q : Byte) (k : SlotId) :
    (s.applyPurge pat inc q k).ctxs = s.ctxs := rfl

@[simp] theorem State.applyPurge_bridge (s : State) (pat : Pattern) (inc : Bool) (q : Byte) (k : SlotId) :
    (s.applyPurge pat inc q k).bridge = s.bridge := rfl

@[simp] theorem State.applyPurge_cause (s : State) (pat : Pattern) (inc : Bool) (q : Byte) (k : SlotId) :
    (s.applyPurge pat inc q k).cause = s.cause := rfl

@[simp] theorem State.applyPurge_chan (s : State) (pat : Pattern) (inc : Bool) (q : Byte) (k : SlotId) :
    (s.applyPurge pat inc q k).chan = s.chan := rfl

@[simp] theorem State.applyPurge_log (s : State) (pat : Pattern) (inc : Bool) (q : Byte) (k : SlotId) :
    (s.applyPurge pat inc q k).log = s.log := rfl

@[simp] theorem State.applyPurge_ctr (s : State) (pat : Pattern) (inc : Bool) (q : Byte) (k : SlotId) :
    (s.applyPurge pat inc q k).ctr = s.ctr := rfl

@[simp] theorem State.applyPurge_time (s : State) (pat : Pattern) (inc : Bool) (q : Byte) (k : SlotId) :
    (s.applyPurge pat inc q k).time = s.time := rfl

@[simp] theorem State.applyPurge_near (s : State) (pat : Pattern) (inc : Bool) (q : Byte) (k : SlotId) :
    (s.applyPurge pat inc q k).near = s.near := rfl

@[simp] theorem State.applyPurge_far (s : State) (pat : Pattern) (inc : Bool) (q : Byte) (k : SlotId) :
    (s.applyPurge pat inc q k).far = s.far := rfl

@[simp] theorem State.applyPurge_node (s : State) (pat : Pattern) (inc : Bool) (q : Byte) (k : SlotId) :
    (s.applyPurge pat inc q k).node = s.node := rfl

@[simp] theorem State.applyPurge_managerStrap (s : State) (pat : Pattern) (inc : Bool) (q : Byte) (k : SlotId) :
    (s.applyPurge pat inc q k).managerStrap = s.managerStrap := rfl

@[simp] theorem State.applyPurge_powered (s : State) (pat : Pattern) (inc : Bool) (q : Byte) (k : SlotId) :
    (s.applyPurge pat inc q k).powered = s.powered := rfl

@[simp] theorem State.applyPurge_moment (s : State) (pat : Pattern) (inc : Bool) (q : Byte) (k : SlotId) :
    (s.applyPurge pat inc q k).moment = s.moment := rfl

@[simp] theorem State.applyPurge_pending (s : State) (pat : Pattern) (inc : Bool) (q : Byte) (k : SlotId) :
    (s.applyPurge pat inc q k).pending = s.pending := rfl

/-! ## `State.nearLost` -/

@[simp] theorem State.nearLost_cache (s : State) :
    (s.nearLost).cache = s.cache := rfl

@[simp] theorem State.nearLost_park (s : State) :
    (s.nearLost).park = [] := rfl

@[simp] theorem State.nearLost_misses (s : State) :
    (s.nearLost).misses = s.misses := rfl

@[simp] theorem State.nearLost_fences (s : State) :
    (s.nearLost).fences = Vector.replicate 8 none := rfl

@[simp] theorem State.nearLost_outs (s : State) :
    (s.nearLost).outs = s.outs.map (Option.map OutEntry.orphaned) := rfl

@[simp] theorem State.nearLost_slots (s : State) :
    (s.nearLost).slots = s.slots := rfl

@[simp] theorem State.nearLost_ctxs (s : State) :
    (s.nearLost).ctxs = s.ctxs := rfl

@[simp] theorem State.nearLost_bridge (s : State) :
    (s.nearLost).bridge = s.bridge := rfl

@[simp] theorem State.nearLost_cause (s : State) :
    (s.nearLost).cause = s.cause := rfl

@[simp] theorem State.nearLost_chan (s : State) :
    (s.nearLost).chan = s.chan := rfl

@[simp] theorem State.nearLost_log (s : State) :
    (s.nearLost).log = s.log := rfl

@[simp] theorem State.nearLost_ctr (s : State) :
    (s.nearLost).ctr = s.ctr := rfl

@[simp] theorem State.nearLost_time (s : State) :
    (s.nearLost).time = s.time := rfl

@[simp] theorem State.nearLost_near (s : State) :
    (s.nearLost).near = s.near.lost := rfl

@[simp] theorem State.nearLost_far (s : State) :
    (s.nearLost).far = s.far := rfl

@[simp] theorem State.nearLost_node (s : State) :
    (s.nearLost).node = s.node := rfl

@[simp] theorem State.nearLost_managerStrap (s : State) :
    (s.nearLost).managerStrap = s.managerStrap := rfl

@[simp] theorem State.nearLost_powered (s : State) :
    (s.nearLost).powered = s.powered := rfl

@[simp] theorem State.nearLost_moment (s : State) :
    (s.nearLost).moment = s.moment := rfl

@[simp] theorem State.nearLost_pending (s : State) :
    (s.nearLost).pending = s.pending := rfl

/-! ## `State.farDrained` -/

@[simp] theorem State.farDrained_cache (s : State) :
    (s.farDrained).cache = s.cache := rfl

@[simp] theorem State.farDrained_park (s : State) :
    (s.farDrained).park = s.park := rfl

@[simp] theorem State.farDrained_misses (s : State) :
    (s.farDrained).misses = s.misses := rfl

@[simp] theorem State.farDrained_fences (s : State) :
    (s.farDrained).fences = s.fences := rfl

@[simp] theorem State.farDrained_outs (s : State) :
    (s.farDrained).outs = s.outs := rfl

@[simp] theorem State.farDrained_slots (s : State) :
    (s.farDrained).slots = Vector.replicate 4 none := rfl

@[simp] theorem State.farDrained_ctxs (s : State) :
    (s.farDrained).ctxs = s.ctxs.map CtxRecord.closedIfClosing := rfl

@[simp] theorem State.farDrained_bridge (s : State) :
    (s.farDrained).bridge = s.bridge := rfl

@[simp] theorem State.farDrained_cause (s : State) :
    (s.farDrained).cause = s.cause := rfl

@[simp] theorem State.farDrained_chan (s : State) :
    (s.farDrained).chan = s.chan := rfl

@[simp] theorem State.farDrained_log (s : State) :
    (s.farDrained).log = s.log := rfl

@[simp] theorem State.farDrained_ctr (s : State) :
    (s.farDrained).ctr = s.ctr := rfl

@[simp] theorem State.farDrained_time (s : State) :
    (s.farDrained).time = s.time := rfl

@[simp] theorem State.farDrained_near (s : State) :
    (s.farDrained).near = s.near := rfl

@[simp] theorem State.farDrained_far (s : State) :
    (s.farDrained).far = s.far := rfl

@[simp] theorem State.farDrained_node (s : State) :
    (s.farDrained).node = s.node := rfl

@[simp] theorem State.farDrained_managerStrap (s : State) :
    (s.farDrained).managerStrap = s.managerStrap := rfl

@[simp] theorem State.farDrained_powered (s : State) :
    (s.farDrained).powered = s.powered := rfl

@[simp] theorem State.farDrained_moment (s : State) :
    (s.farDrained).moment = s.moment := rfl

@[simp] theorem State.farDrained_pending (s : State) :
    (s.farDrained).pending = s.pending := rfl

/-! ## `State.resetTables` -/

@[simp] theorem State.resetTables_cache (s : State) :
    (s.resetTables).cache = s.cache := rfl

@[simp] theorem State.resetTables_park (s : State) :
    (s.resetTables).park = [] := rfl

@[simp] theorem State.resetTables_misses (s : State) :
    (s.resetTables).misses = s.misses.map fun m => { m with active := none } := rfl

@[simp] theorem State.resetTables_fences (s : State) :
    (s.resetTables).fences = Vector.replicate 8 none := rfl

@[simp] theorem State.resetTables_outs (s : State) :
    (s.resetTables).outs = s.outs.map (Option.map (OutEntry.afterReset s.time s.chan.params.responseTimeout)) := rfl

@[simp] theorem State.resetTables_slots (s : State) :
    (s.resetTables).slots = Vector.replicate 4 none := rfl

@[simp] theorem State.resetTables_ctxs (s : State) :
    (s.resetTables).ctxs = s.ctxs.map CtxRecord.closedIfClosing := rfl

@[simp] theorem State.resetTables_bridge (s : State) :
    (s.resetTables).bridge = .running := rfl

@[simp] theorem State.resetTables_cause (s : State) :
    (s.resetTables).cause = .soft := rfl

@[simp] theorem State.resetTables_chan (s : State) :
    (s.resetTables).chan = s.chan := rfl

@[simp] theorem State.resetTables_log (s : State) :
    (s.resetTables).log = s.log := rfl

@[simp] theorem State.resetTables_ctr (s : State) :
    (s.resetTables).ctr = s.ctr := rfl

@[simp] theorem State.resetTables_time (s : State) :
    (s.resetTables).time = s.time := rfl

@[simp] theorem State.resetTables_near (s : State) :
    (s.resetTables).near = s.near := rfl

@[simp] theorem State.resetTables_far (s : State) :
    (s.resetTables).far = s.far := rfl

@[simp] theorem State.resetTables_node (s : State) :
    (s.resetTables).node = s.node := rfl

@[simp] theorem State.resetTables_managerStrap (s : State) :
    (s.resetTables).managerStrap = s.managerStrap := rfl

@[simp] theorem State.resetTables_powered (s : State) :
    (s.resetTables).powered = s.powered := rfl

@[simp] theorem State.resetTables_moment (s : State) :
    (s.resetTables).moment = s.moment + 1 := rfl

@[simp] theorem State.resetTables_pending (s : State) :
    (s.resetTables).pending = s.pending := rfl

/-! ## `State.countRefusal` -/

@[simp] theorem State.countRefusal_cache (s : State) :
    (s.countRefusal).cache = s.cache := rfl

@[simp] theorem State.countRefusal_park (s : State) :
    (s.countRefusal).park = s.park := rfl

@[simp] theorem State.countRefusal_misses (s : State) :
    (s.countRefusal).misses = s.misses := rfl

@[simp] theorem State.countRefusal_fences (s : State) :
    (s.countRefusal).fences = s.fences := rfl

@[simp] theorem State.countRefusal_outs (s : State) :
    (s.countRefusal).outs = s.outs := rfl

@[simp] theorem State.countRefusal_slots (s : State) :
    (s.countRefusal).slots = s.slots := rfl

@[simp] theorem State.countRefusal_ctxs (s : State) :
    (s.countRefusal).ctxs = s.ctxs := rfl

@[simp] theorem State.countRefusal_bridge (s : State) :
    (s.countRefusal).bridge = s.bridge := rfl

@[simp] theorem State.countRefusal_cause (s : State) :
    (s.countRefusal).cause = s.cause := rfl

@[simp] theorem State.countRefusal_chan (s : State) :
    (s.countRefusal).chan = s.chan := rfl

@[simp] theorem State.countRefusal_log (s : State) :
    (s.countRefusal).log = s.log := rfl

@[simp] theorem State.countRefusal_ctr (s : State) :
    (s.countRefusal).ctr = { s.ctr with refusals := s.ctr.refusals + 1 } := rfl

@[simp] theorem State.countRefusal_time (s : State) :
    (s.countRefusal).time = s.time := rfl

@[simp] theorem State.countRefusal_near (s : State) :
    (s.countRefusal).near = s.near := rfl

@[simp] theorem State.countRefusal_far (s : State) :
    (s.countRefusal).far = s.far := rfl

@[simp] theorem State.countRefusal_node (s : State) :
    (s.countRefusal).node = s.node := rfl

@[simp] theorem State.countRefusal_managerStrap (s : State) :
    (s.countRefusal).managerStrap = s.managerStrap := rfl

@[simp] theorem State.countRefusal_powered (s : State) :
    (s.countRefusal).powered = s.powered := rfl

@[simp] theorem State.countRefusal_moment (s : State) :
    (s.countRefusal).moment = s.moment := rfl

@[simp] theorem State.countRefusal_pending (s : State) :
    (s.countRefusal).pending = s.pending := rfl

/-! ## `State.countLate` -/

@[simp] theorem State.countLate_cache (s : State) :
    (s.countLate).cache = s.cache := rfl

@[simp] theorem State.countLate_park (s : State) :
    (s.countLate).park = s.park := rfl

@[simp] theorem State.countLate_misses (s : State) :
    (s.countLate).misses = s.misses := rfl

@[simp] theorem State.countLate_fences (s : State) :
    (s.countLate).fences = s.fences := rfl

@[simp] theorem State.countLate_outs (s : State) :
    (s.countLate).outs = s.outs := rfl

@[simp] theorem State.countLate_slots (s : State) :
    (s.countLate).slots = s.slots := rfl

@[simp] theorem State.countLate_ctxs (s : State) :
    (s.countLate).ctxs = s.ctxs := rfl

@[simp] theorem State.countLate_bridge (s : State) :
    (s.countLate).bridge = s.bridge := rfl

@[simp] theorem State.countLate_cause (s : State) :
    (s.countLate).cause = s.cause := rfl

@[simp] theorem State.countLate_chan (s : State) :
    (s.countLate).chan = s.chan := rfl

@[simp] theorem State.countLate_log (s : State) :
    (s.countLate).log = s.log := rfl

@[simp] theorem State.countLate_ctr (s : State) :
    (s.countLate).ctr = { s.ctr with late := s.ctr.late + 1 } := rfl

@[simp] theorem State.countLate_time (s : State) :
    (s.countLate).time = s.time := rfl

@[simp] theorem State.countLate_near (s : State) :
    (s.countLate).near = s.near := rfl

@[simp] theorem State.countLate_far (s : State) :
    (s.countLate).far = s.far := rfl

@[simp] theorem State.countLate_node (s : State) :
    (s.countLate).node = s.node := rfl

@[simp] theorem State.countLate_managerStrap (s : State) :
    (s.countLate).managerStrap = s.managerStrap := rfl

@[simp] theorem State.countLate_powered (s : State) :
    (s.countLate).powered = s.powered := rfl

@[simp] theorem State.countLate_moment (s : State) :
    (s.countLate).moment = s.moment := rfl

@[simp] theorem State.countLate_pending (s : State) :
    (s.countLate).pending = s.pending := rfl

end Sys2Proof.Machine
end

