-- ==== Sys2Proof/Laws/Ops.lean ====
section
/-! SUPPORT. For each shared operation, once, what of the state it can change: a frame equation
(the state as it was but for the named fields), and from it one lemma per field left alone. -/

namespace Sys2Proof.Machine

/-- What every step of a fold keeps, the fold keeps. -/
theorem foldl_keeps {σ α β : Type} (g : σ → β) (f : σ → α → σ) (h : ∀ s x, g (f s x) = g s) (l : List α) (s : σ) :
    g (l.foldl f s) = g s := by
  induction l generalizing s with
  | nil => rfl
  | cons x l ih => exact (ih (f s x)).trans (h s x)

/-! ## `State.sendNear` -/

/-- `State.sendNear` changes only near. -/
theorem State.sendNear_frame (s : State) (f : Frame) :
    s.sendNear f =
      { s with
        near := (s.sendNear f).near } := by
  unfold State.sendNear; split <;> rfl

@[simp] theorem State.sendNear_cache (s : State) (f : Frame) : (s.sendNear f).cache = s.cache :=
  (congrArg State.cache (State.sendNear_frame s f) :)

@[simp] theorem State.sendNear_park (s : State) (f : Frame) : (s.sendNear f).park = s.park :=
  (congrArg State.park (State.sendNear_frame s f) :)

@[simp] theorem State.sendNear_misses (s : State) (f : Frame) : (s.sendNear f).misses = s.misses :=
  (congrArg State.misses (State.sendNear_frame s f) :)

@[simp] theorem State.sendNear_fences (s : State) (f : Frame) : (s.sendNear f).fences = s.fences :=
  (congrArg State.fences (State.sendNear_frame s f) :)

@[simp] theorem State.sendNear_outs (s : State) (f : Frame) : (s.sendNear f).outs = s.outs :=
  (congrArg State.outs (State.sendNear_frame s f) :)

@[simp] theorem State.sendNear_slots (s : State) (f : Frame) : (s.sendNear f).slots = s.slots :=
  (congrArg State.slots (State.sendNear_frame s f) :)

@[simp] theorem State.sendNear_ctxs (s : State) (f : Frame) : (s.sendNear f).ctxs = s.ctxs :=
  (congrArg State.ctxs (State.sendNear_frame s f) :)

@[simp] theorem State.sendNear_bridge (s : State) (f : Frame) : (s.sendNear f).bridge = s.bridge :=
  (congrArg State.bridge (State.sendNear_frame s f) :)

@[simp] theorem State.sendNear_cause (s : State) (f : Frame) : (s.sendNear f).cause = s.cause :=
  (congrArg State.cause (State.sendNear_frame s f) :)

@[simp] theorem State.sendNear_chan (s : State) (f : Frame) : (s.sendNear f).chan = s.chan :=
  (congrArg State.chan (State.sendNear_frame s f) :)

@[simp] theorem State.sendNear_log (s : State) (f : Frame) : (s.sendNear f).log = s.log :=
  (congrArg State.log (State.sendNear_frame s f) :)

@[simp] theorem State.sendNear_ctr (s : State) (f : Frame) : (s.sendNear f).ctr = s.ctr :=
  (congrArg State.ctr (State.sendNear_frame s f) :)

@[simp] theorem State.sendNear_time (s : State) (f : Frame) : (s.sendNear f).time = s.time :=
  (congrArg State.time (State.sendNear_frame s f) :)

@[simp] theorem State.sendNear_far (s : State) (f : Frame) : (s.sendNear f).far = s.far :=
  (congrArg State.far (State.sendNear_frame s f) :)

@[simp] theorem State.sendNear_node (s : State) (f : Frame) : (s.sendNear f).node = s.node :=
  (congrArg State.node (State.sendNear_frame s f) :)

@[simp] theorem State.sendNear_managerStrap (s : State) (f : Frame) : (s.sendNear f).managerStrap = s.managerStrap :=
  (congrArg State.managerStrap (State.sendNear_frame s f) :)

@[simp] theorem State.sendNear_powered (s : State) (f : Frame) : (s.sendNear f).powered = s.powered :=
  (congrArg State.powered (State.sendNear_frame s f) :)

@[simp] theorem State.sendNear_moment (s : State) (f : Frame) : (s.sendNear f).moment = s.moment :=
  (congrArg State.moment (State.sendNear_frame s f) :)

@[simp] theorem State.sendNear_pending (s : State) (f : Frame) : (s.sendNear f).pending = s.pending :=
  (congrArg State.pending (State.sendNear_frame s f) :)

@[simp] theorem State.sendNear_near_up (s : State) (f : Frame) : (s.sendNear f).near.up = s.near.up := by
  unfold State.sendNear; split <;> rfl

@[simp] theorem State.sendNear_near_sent (s : State) (f : Frame) : (s.sendNear f).near.sent = s.near.sent := by
  unfold State.sendNear; split <;> rfl

/-! ## `State.sendFar` -/

/-- `State.sendFar` changes only far. -/
theorem State.sendFar_frame (s : State) (f : Frame) :
    s.sendFar f =
      { s with
        far := (s.sendFar f).far } := by
  unfold State.sendFar; split <;> rfl

@[simp] theorem State.sendFar_cache (s : State) (f : Frame) : (s.sendFar f).cache = s.cache :=
  (congrArg State.cache (State.sendFar_frame s f) :)

@[simp] theorem State.sendFar_park (s : State) (f : Frame) : (s.sendFar f).park = s.park :=
  (congrArg State.park (State.sendFar_frame s f) :)

@[simp] theorem State.sendFar_misses (s : State) (f : Frame) : (s.sendFar f).misses = s.misses :=
  (congrArg State.misses (State.sendFar_frame s f) :)

@[simp] theorem State.sendFar_fences (s : State) (f : Frame) : (s.sendFar f).fences = s.fences :=
  (congrArg State.fences (State.sendFar_frame s f) :)

@[simp] theorem State.sendFar_outs (s : State) (f : Frame) : (s.sendFar f).outs = s.outs :=
  (congrArg State.outs (State.sendFar_frame s f) :)

@[simp] theorem State.sendFar_slots (s : State) (f : Frame) : (s.sendFar f).slots = s.slots :=
  (congrArg State.slots (State.sendFar_frame s f) :)

@[simp] theorem State.sendFar_ctxs (s : State) (f : Frame) : (s.sendFar f).ctxs = s.ctxs :=
  (congrArg State.ctxs (State.sendFar_frame s f) :)

@[simp] theorem State.sendFar_bridge (s : State) (f : Frame) : (s.sendFar f).bridge = s.bridge :=
  (congrArg State.bridge (State.sendFar_frame s f) :)

@[simp] theorem State.sendFar_cause (s : State) (f : Frame) : (s.sendFar f).cause = s.cause :=
  (congrArg State.cause (State.sendFar_frame s f) :)

@[simp] theorem State.sendFar_chan (s : State) (f : Frame) : (s.sendFar f).chan = s.chan :=
  (congrArg State.chan (State.sendFar_frame s f) :)

@[simp] theorem State.sendFar_log (s : State) (f : Frame) : (s.sendFar f).log = s.log :=
  (congrArg State.log (State.sendFar_frame s f) :)

@[simp] theorem State.sendFar_ctr (s : State) (f : Frame) : (s.sendFar f).ctr = s.ctr :=
  (congrArg State.ctr (State.sendFar_frame s f) :)

@[simp] theorem State.sendFar_time (s : State) (f : Frame) : (s.sendFar f).time = s.time :=
  (congrArg State.time (State.sendFar_frame s f) :)

@[simp] theorem State.sendFar_near (s : State) (f : Frame) : (s.sendFar f).near = s.near :=
  (congrArg State.near (State.sendFar_frame s f) :)

@[simp] theorem State.sendFar_node (s : State) (f : Frame) : (s.sendFar f).node = s.node :=
  (congrArg State.node (State.sendFar_frame s f) :)

@[simp] theorem State.sendFar_managerStrap (s : State) (f : Frame) : (s.sendFar f).managerStrap = s.managerStrap :=
  (congrArg State.managerStrap (State.sendFar_frame s f) :)

@[simp] theorem State.sendFar_powered (s : State) (f : Frame) : (s.sendFar f).powered = s.powered :=
  (congrArg State.powered (State.sendFar_frame s f) :)

@[simp] theorem State.sendFar_moment (s : State) (f : Frame) : (s.sendFar f).moment = s.moment :=
  (congrArg State.moment (State.sendFar_frame s f) :)

@[simp] theorem State.sendFar_pending (s : State) (f : Frame) : (s.sendFar f).pending = s.pending :=
  (congrArg State.pending (State.sendFar_frame s f) :)

@[simp] theorem State.sendFar_far_up (s : State) (f : Frame) : (s.sendFar f).far.up = s.far.up := by
  unfold State.sendFar; split <;> rfl

@[simp] theorem State.sendFar_far_sent (s : State) (f : Frame) : (s.sendFar f).far.sent = s.far.sent := by
  unfold State.sendFar; split <;> rfl

/-! ## `State.countAnswer` -/

/-- `State.countAnswer` changes only ctr. -/
theorem State.countAnswer_frame (s : State) (a : Answer) :
    s.countAnswer a =
      { s with
        ctr := (s.countAnswer a).ctr } := by
  cases a <;> rfl

@[simp] theorem State.countAnswer_cache (s : State) (a : Answer) : (s.countAnswer a).cache = s.cache :=
  (congrArg State.cache (State.countAnswer_frame s a) :)

@[simp] theorem State.countAnswer_park (s : State) (a : Answer) : (s.countAnswer a).park = s.park :=
  (congrArg State.park (State.countAnswer_frame s a) :)

@[simp] theorem State.countAnswer_misses (s : State) (a : Answer) : (s.countAnswer a).misses = s.misses :=
  (congrArg State.misses (State.countAnswer_frame s a) :)

@[simp] theorem State.countAnswer_fences (s : State) (a : Answer) : (s.countAnswer a).fences = s.fences :=
  (congrArg State.fences (State.countAnswer_frame s a) :)

@[simp] theorem State.countAnswer_outs (s : State) (a : Answer) : (s.countAnswer a).outs = s.outs :=
  (congrArg State.outs (State.countAnswer_frame s a) :)

@[simp] theorem State.countAnswer_slots (s : State) (a : Answer) : (s.countAnswer a).slots = s.slots :=
  (congrArg State.slots (State.countAnswer_frame s a) :)

@[simp] theorem State.countAnswer_ctxs (s : State) (a : Answer) : (s.countAnswer a).ctxs = s.ctxs :=
  (congrArg State.ctxs (State.countAnswer_frame s a) :)

@[simp] theorem State.countAnswer_bridge (s : State) (a : Answer) : (s.countAnswer a).bridge = s.bridge :=
  (congrArg State.bridge (State.countAnswer_frame s a) :)

@[simp] theorem State.countAnswer_cause (s : State) (a : Answer) : (s.countAnswer a).cause = s.cause :=
  (congrArg State.cause (State.countAnswer_frame s a) :)

@[simp] theorem State.countAnswer_chan (s : State) (a : Answer) : (s.countAnswer a).chan = s.chan :=
  (congrArg State.chan (State.countAnswer_frame s a) :)

@[simp] theorem State.countAnswer_log (s : State) (a : Answer) : (s.countAnswer a).log = s.log :=
  (congrArg State.log (State.countAnswer_frame s a) :)

@[simp] theorem State.countAnswer_time (s : State) (a : Answer) : (s.countAnswer a).time = s.time :=
  (congrArg State.time (State.countAnswer_frame s a) :)

@[simp] theorem State.countAnswer_near (s : State) (a : Answer) : (s.countAnswer a).near = s.near :=
  (congrArg State.near (State.countAnswer_frame s a) :)

@[simp] theorem State.countAnswer_far (s : State) (a : Answer) : (s.countAnswer a).far = s.far :=
  (congrArg State.far (State.countAnswer_frame s a) :)

@[simp] theorem State.countAnswer_node (s : State) (a : Answer) : (s.countAnswer a).node = s.node :=
  (congrArg State.node (State.countAnswer_frame s a) :)

@[simp] theorem State.countAnswer_managerStrap (s : State) (a : Answer) : (s.countAnswer a).managerStrap = s.managerStrap :=
  (congrArg State.managerStrap (State.countAnswer_frame s a) :)

@[simp] theorem State.countAnswer_powered (s : State) (a : Answer) : (s.countAnswer a).powered = s.powered :=
  (congrArg State.powered (State.countAnswer_frame s a) :)

@[simp] theorem State.countAnswer_moment (s : State) (a : Answer) : (s.countAnswer a).moment = s.moment :=
  (congrArg State.moment (State.countAnswer_frame s a) :)

@[simp] theorem State.countAnswer_pending (s : State) (a : Answer) : (s.countAnswer a).pending = s.pending :=
  (congrArg State.pending (State.countAnswer_frame s a) :)

/-! ## `State.answer` -/

/-- `State.answer` changes only near, ctr. -/
theorem State.answer_frame (s : State) (g : Agent) (t : NearTag) (a : Answer) :
    s.answer g t a =
      { s with
        near := (s.answer g t a).near
        ctr := (s.answer g t a).ctr } := by
  unfold State.answer
  rw [State.sendNear_frame, State.countAnswer_frame]

@[simp] theorem State.answer_cache (s : State) (g : Agent) (t : NearTag) (a : Answer) : (s.answer g t a).cache = s.cache :=
  (congrArg State.cache (State.answer_frame s g t a) :)

@[simp] theorem State.answer_park (s : State) (g : Agent) (t : NearTag) (a : Answer) : (s.answer g t a).park = s.park :=
  (congrArg State.park (State.answer_frame s g t a) :)

@[simp] theorem State.answer_misses (s : State) (g : Agent) (t : NearTag) (a : Answer) : (s.answer g t a).misses = s.misses :=
  (congrArg State.misses (State.answer_frame s g t a) :)

@[simp] theorem State.answer_fences (s : State) (g : Agent) (t : NearTag) (a : Answer) : (s.answer g t a).fences = s.fences :=
  (congrArg State.fences (State.answer_frame s g t a) :)

@[simp] theorem State.answer_outs (s : State) (g : Agent) (t : NearTag) (a : Answer) : (s.answer g t a).outs = s.outs :=
  (congrArg State.outs (State.answer_frame s g t a) :)

@[simp] theorem State.answer_slots (s : State) (g : Agent) (t : NearTag) (a : Answer) : (s.answer g t a).slots = s.slots :=
  (congrArg State.slots (State.answer_frame s g t a) :)

@[simp] theorem State.answer_ctxs (s : State) (g : Agent) (t : NearTag) (a : Answer) : (s.answer g t a).ctxs = s.ctxs :=
  (congrArg State.ctxs (State.answer_frame s g t a) :)

@[simp] theorem State.answer_bridge (s : State) (g : Agent) (t : NearTag) (a : Answer) : (s.answer g t a).bridge = s.bridge :=
  (congrArg State.bridge (State.answer_frame s g t a) :)

@[simp] theorem State.answer_cause (s : State) (g : Agent) (t : NearTag) (a : Answer) : (s.answer g t a).cause = s.cause :=
  (congrArg State.cause (State.answer_frame s g t a) :)

@[simp] theorem State.answer_chan (s : State) (g : Agent) (t : NearTag) (a : Answer) : (s.answer g t a).chan = s.chan :=
  (congrArg State.chan (State.answer_frame s g t a) :)

@[simp] theorem State.answer_log (s : State) (g : Agent) (t : NearTag) (a : Answer) : (s.answer g t a).log = s.log :=
  (congrArg State.log (State.answer_frame s g t a) :)

@[simp] theorem State.answer_time (s : State) (g : Agent) (t : NearTag) (a : Answer) : (s.answer g t a).time = s.time :=
  (congrArg State.time (State.answer_frame s g t a) :)

@[simp] theorem State.answer_far (s : State) (g : Agent) (t : NearTag) (a : Answer) : (s.answer g t a).far = s.far :=
  (congrArg State.far (State.answer_frame s g t a) :)

@[simp] theorem State.answer_node (s : State) (g : Agent) (t : NearTag) (a : Answer) : (s.answer g t a).node = s.node :=
  (congrArg State.node (State.answer_frame s g t a) :)

@[simp] theorem State.answer_managerStrap (s : State) (g : Agent) (t : NearTag) (a : Answer) : (s.answer g t a).managerStrap = s.managerStrap :=
  (congrArg State.managerStrap (State.answer_frame s g t a) :)

@[simp] theorem State.answer_powered (s : State) (g : Agent) (t : NearTag) (a : Answer) : (s.answer g t a).powered = s.powered :=
  (congrArg State.powered (State.answer_frame s g t a) :)

@[simp] theorem State.answer_moment (s : State) (g : Agent) (t : NearTag) (a : Answer) : (s.answer g t a).moment = s.moment :=
  (congrArg State.moment (State.answer_frame s g t a) :)

@[simp] theorem State.answer_pending (s : State) (g : Agent) (t : NearTag) (a : Answer) : (s.answer g t a).pending = s.pending :=
  (congrArg State.pending (State.answer_frame s g t a) :)

@[simp] theorem State.answer_near_up (s : State) (g : Agent) (t : NearTag) (a : Answer) : (s.answer g t a).near.up = s.near.up := by
  simp [State.answer]

@[simp] theorem State.answer_near_sent (s : State) (g : Agent) (t : NearTag) (a : Answer) : (s.answer g t a).near.sent = s.near.sent := by
  simp [State.answer]

/-! ## `State.answerIf` -/

/-- `State.answerIf` changes only near, ctr. -/
theorem State.answerIf_frame (s : State) (g : Agent) (t : NearTag) (a : Option Answer) :
    s.answerIf g t a =
      { s with
        near := (s.answerIf g t a).near
        ctr := (s.answerIf g t a).ctr } := by
  cases a with
  | none => rfl
  | some x => exact State.answer_frame s g t x

@[simp] theorem State.answerIf_cache (s : State) (g : Agent) (t : NearTag) (a : Option Answer) : (s.answerIf g t a).cache = s.cache :=
  (congrArg State.cache (State.answerIf_frame s g t a) :)

@[simp] theorem State.answerIf_park (s : State) (g : Agent) (t : NearTag) (a : Option Answer) : (s.answerIf g t a).park = s.park :=
  (congrArg State.park (State.answerIf_frame s g t a) :)

@[simp] theorem State.answerIf_misses (s : State) (g : Agent) (t : NearTag) (a : Option Answer) : (s.answerIf g t a).misses = s.misses :=
  (congrArg State.misses (State.answerIf_frame s g t a) :)

@[simp] theorem State.answerIf_fences (s : State) (g : Agent) (t : NearTag) (a : Option Answer) : (s.answerIf g t a).fences = s.fences :=
  (congrArg State.fences (State.answerIf_frame s g t a) :)

@[simp] theorem State.answerIf_outs (s : State) (g : Agent) (t : NearTag) (a : Option Answer) : (s.answerIf g t a).outs = s.outs :=
  (congrArg State.outs (State.answerIf_frame s g t a) :)

@[simp] theorem State.answerIf_slots (s : State) (g : Agent) (t : NearTag) (a : Option Answer) : (s.answerIf g t a).slots = s.slots :=
  (congrArg State.slots (State.answerIf_frame s g t a) :)

@[simp] theorem State.answerIf_ctxs (s : State) (g : Agent) (t : NearTag) (a : Option Answer) : (s.answerIf g t a).ctxs = s.ctxs :=
  (congrArg State.ctxs (State.answerIf_frame s g t a) :)

@[simp] theorem State.answerIf_bridge (s : State) (g : Agent) (t : NearTag) (a : Option Answer) : (s.answerIf g t a).bridge = s.bridge :=
  (congrArg State.bridge (State.answerIf_frame s g t a) :)

@[simp] theorem State.answerIf_cause (s : State) (g : Agent) (t : NearTag) (a : Option Answer) : (s.answerIf g t a).cause = s.cause :=
  (congrArg State.cause (State.answerIf_frame s g t a) :)

@[simp] theorem State.answerIf_chan (s : State) (g : Agent) (t : NearTag) (a : Option Answer) : (s.answerIf g t a).chan = s.chan :=
  (congrArg State.chan (State.answerIf_frame s g t a) :)

@[simp] theorem State.answerIf_log (s : State) (g : Agent) (t : NearTag) (a : Option Answer) : (s.answerIf g t a).log = s.log :=
  (congrArg State.log (State.answerIf_frame s g t a) :)

@[simp] theorem State.answerIf_time (s : State) (g : Agent) (t : NearTag) (a : Option Answer) : (s.answerIf g t a).time = s.time :=
  (congrArg State.time (State.answerIf_frame s g t a) :)

@[simp] theorem State.answerIf_far (s : State) (g : Agent) (t : NearTag) (a : Option Answer) : (s.answerIf g t a).far = s.far :=
  (congrArg State.far (State.answerIf_frame s g t a) :)

@[simp] theorem State.answerIf_node (s : State) (g : Agent) (t : NearTag) (a : Option Answer) : (s.answerIf g t a).node = s.node :=
  (congrArg State.node (State.answerIf_frame s g t a) :)

@[simp] theorem State.answerIf_managerStrap (s : State) (g : Agent) (t : NearTag) (a : Option Answer) : (s.answerIf g t a).managerStrap = s.managerStrap :=
  (congrArg State.managerStrap (State.answerIf_frame s g t a) :)

@[simp] theorem State.answerIf_powered (s : State) (g : Agent) (t : NearTag) (a : Option Answer) : (s.answerIf g t a).powered = s.powered :=
  (congrArg State.powered (State.answerIf_frame s g t a) :)

@[simp] theorem State.answerIf_moment (s : State) (g : Agent) (t : NearTag) (a : Option Answer) : (s.answerIf g t a).moment = s.moment :=
  (congrArg State.moment (State.answerIf_frame s g t a) :)

@[simp] theorem State.answerIf_pending (s : State) (g : Agent) (t : NearTag) (a : Option Answer) : (s.answerIf g t a).pending = s.pending :=
  (congrArg State.pending (State.answerIf_frame s g t a) :)

@[simp] theorem State.answerIf_near_up (s : State) (g : Agent) (t : NearTag) (a : Option Answer) : (s.answerIf g t a).near.up = s.near.up := by
  cases a <;> simp [State.answerIf]

@[simp] theorem State.answerIf_near_sent (s : State) (g : Agent) (t : NearTag) (a : Option Answer) : (s.answerIf g t a).near.sent = s.near.sent := by
  cases a <;> simp [State.answerIf]

/-! ## `State.notice` -/

/-- `State.notice` changes only far, chan, ctr. -/
theorem State.notice_frame (s : State) (k : BitVec 6) (b : List Byte) :
    s.notice k b =
      { s with
        far := (s.notice k b).far
        chan := (s.notice k b).chan
        ctr := (s.notice k b).ctr } := by
  unfold State.notice; split <;> rfl

@[simp] theorem State.notice_cache (s : State) (k : BitVec 6) (b : List Byte) : (s.notice k b).cache = s.cache :=
  (congrArg State.cache (State.notice_frame s k b) :)

@[simp] theorem State.notice_park (s : State) (k : BitVec 6) (b : List Byte) : (s.notice k b).park = s.park :=
  (congrArg State.park (State.notice_frame s k b) :)

@[simp] theorem State.notice_misses (s : State) (k : BitVec 6) (b : List Byte) : (s.notice k b).misses = s.misses :=
  (congrArg State.misses (State.notice_frame s k b) :)

@[simp] theorem State.notice_fences (s : State) (k : BitVec 6) (b : List Byte) : (s.notice k b).fences = s.fences :=
  (congrArg State.fences (State.notice_frame s k b) :)

@[simp] theorem State.notice_outs (s : State) (k : BitVec 6) (b : List Byte) : (s.notice k b).outs = s.outs :=
  (congrArg State.outs (State.notice_frame s k b) :)

@[simp] theorem State.notice_slots (s : State) (k : BitVec 6) (b : List Byte) : (s.notice k b).slots = s.slots :=
  (congrArg State.slots (State.notice_frame s k b) :)

@[simp] theorem State.notice_ctxs (s : State) (k : BitVec 6) (b : List Byte) : (s.notice k b).ctxs = s.ctxs :=
  (congrArg State.ctxs (State.notice_frame s k b) :)

@[simp] theorem State.notice_bridge (s : State) (k : BitVec 6) (b : List Byte) : (s.notice k b).bridge = s.bridge :=
  (congrArg State.bridge (State.notice_frame s k b) :)

@[simp] theorem State.notice_cause (s : State) (k : BitVec 6) (b : List Byte) : (s.notice k b).cause = s.cause :=
  (congrArg State.cause (State.notice_frame s k b) :)

@[simp] theorem State.notice_log (s : State) (k : BitVec 6) (b : List Byte) : (s.notice k b).log = s.log :=
  (congrArg State.log (State.notice_frame s k b) :)

@[simp] theorem State.notice_time (s : State) (k : BitVec 6) (b : List Byte) : (s.notice k b).time = s.time :=
  (congrArg State.time (State.notice_frame s k b) :)

@[simp] theorem State.notice_near (s : State) (k : BitVec 6) (b : List Byte) : (s.notice k b).near = s.near :=
  (congrArg State.near (State.notice_frame s k b) :)

@[simp] theorem State.notice_node (s : State) (k : BitVec 6) (b : List Byte) : (s.notice k b).node = s.node :=
  (congrArg State.node (State.notice_frame s k b) :)

@[simp] theorem State.notice_managerStrap (s : State) (k : BitVec 6) (b : List Byte) : (s.notice k b).managerStrap = s.managerStrap :=
  (congrArg State.managerStrap (State.notice_frame s k b) :)

@[simp] theorem State.notice_powered (s : State) (k : BitVec 6) (b : List Byte) : (s.notice k b).powered = s.powered :=
  (congrArg State.powered (State.notice_frame s k b) :)

@[simp] theorem State.notice_moment (s : State) (k : BitVec 6) (b : List Byte) : (s.notice k b).moment = s.moment :=
  (congrArg State.moment (State.notice_frame s k b) :)

@[simp] theorem State.notice_pending (s : State) (k : BitVec 6) (b : List Byte) : (s.notice k b).pending = s.pending :=
  (congrArg State.pending (State.notice_frame s k b) :)

@[simp] theorem State.notice_far_up (s : State) (k : BitVec 6) (b : List Byte) : (s.notice k b).far.up = s.far.up := by
  unfold State.notice; split <;> rfl

@[simp] theorem State.notice_far_sent (s : State) (k : BitVec 6) (b : List Byte) : (s.notice k b).far.sent = s.far.sent := by
  unfold State.notice; split <;> rfl

@[simp] theorem State.notice_chan_manager (s : State) (k : BitVec 6) (b : List Byte) : (s.notice k b).chan.manager = s.chan.manager := by
  unfold State.notice; split <;> rfl

@[simp] theorem State.notice_chan_expected (s : State) (k : BitVec 6) (b : List Byte) : (s.notice k b).chan.expected = s.chan.expected := by
  unfold State.notice; split <;> rfl

@[simp] theorem State.notice_chan_stored (s : State) (k : BitVec 6) (b : List Byte) : (s.notice k b).chan.stored = s.chan.stored := by
  unfold State.notice; split <;> rfl

@[simp] theorem State.notice_chan_params (s : State) (k : BitVec 6) (b : List Byte) : (s.notice k b).chan.params = s.chan.params := by
  unfold State.notice; split <;> rfl

/-! ## `State.makeFault` -/

/-- `State.makeFault` changes only far, chan, log, ctr. -/
theorem State.makeFault_frame (s : State) (w : FaultBody) :
    s.makeFault w =
      { s with
        far := (s.makeFault w).far
        chan := (s.makeFault w).chan
        log := (s.makeFault w).log
        ctr := (s.makeFault w).ctr } := by
  unfold State.makeFault; dsimp only
  split
  · rw [State.notice_frame]
  · rfl

@[simp] theorem State.makeFault_cache (s : State) (w : FaultBody) : (s.makeFault w).cache = s.cache :=
  (congrArg State.cache (State.makeFault_frame s w) :)

@[simp] theorem State.makeFault_park (s : State) (w : FaultBody) : (s.makeFault w).park = s.park :=
  (congrArg State.park (State.makeFault_frame s w) :)

@[simp] theorem State.makeFault_misses (s : State) (w : FaultBody) : (s.makeFault w).misses = s.misses :=
  (congrArg State.misses (State.makeFault_frame s w) :)

@[simp] theorem State.makeFault_fences (s : State) (w : FaultBody) : (s.makeFault w).fences = s.fences :=
  (congrArg State.fences (State.makeFault_frame s w) :)

@[simp] theorem State.makeFault_outs (s : State) (w : FaultBody) : (s.makeFault w).outs = s.outs :=
  (congrArg State.outs (State.makeFault_frame s w) :)

@[simp] theorem State.makeFault_slots (s : State) (w : FaultBody) : (s.makeFault w).slots = s.slots :=
  (congrArg State.slots (State.makeFault_frame s w) :)

@[simp] theorem State.makeFault_ctxs (s : State) (w : FaultBody) : (s.makeFault w).ctxs = s.ctxs :=
  (congrArg State.ctxs (State.makeFault_frame s w) :)

@[simp] theorem State.makeFault_bridge (s : State) (w : FaultBody) : (s.makeFault w).bridge = s.bridge :=
  (congrArg State.bridge (State.makeFault_frame s w) :)

@[simp] theorem State.makeFault_cause (s : State) (w : FaultBody) : (s.makeFault w).cause = s.cause :=
  (congrArg State.cause (State.makeFault_frame s w) :)

@[simp] theorem State.makeFault_time (s : State) (w : FaultBody) : (s.makeFault w).time = s.time :=
  (congrArg State.time (State.makeFault_frame s w) :)

@[simp] theorem State.makeFault_near (s : State) (w : FaultBody) : (s.makeFault w).near = s.near :=
  (congrArg State.near (State.makeFault_frame s w) :)

@[simp] theorem State.makeFault_node (s : State) (w : FaultBody) : (s.makeFault w).node = s.node :=
  (congrArg State.node (State.makeFault_frame s w) :)

@[simp] theorem State.makeFault_managerStrap (s : State) (w : FaultBody) : (s.makeFault w).managerStrap = s.managerStrap :=
  (congrArg State.managerStrap (State.makeFault_frame s w) :)

@[simp] theorem State.makeFault_powered (s : State) (w : FaultBody) : (s.makeFault w).powered = s.powered :=
  (congrArg State.powered (State.makeFault_frame s w) :)

@[simp] theorem State.makeFault_moment (s : State) (w : FaultBody) : (s.makeFault w).moment = s.moment :=
  (congrArg State.moment (State.makeFault_frame s w) :)

@[simp] theorem State.makeFault_pending (s : State) (w : FaultBody) : (s.makeFault w).pending = s.pending :=
  (congrArg State.pending (State.makeFault_frame s w) :)

/-- The log after a fault record is made (R163). -/
@[simp] theorem State.makeFault_log (s : State) (w : FaultBody) : (s.makeFault w).log = s.log.append s.time w := by
  unfold State.makeFault; dsimp only
  split <;> simp

@[simp] theorem State.makeFault_far_up (s : State) (w : FaultBody) : (s.makeFault w).far.up = s.far.up := by
  unfold State.makeFault; dsimp only; split <;> simp

@[simp] theorem State.makeFault_far_sent (s : State) (w : FaultBody) : (s.makeFault w).far.sent = s.far.sent := by
  unfold State.makeFault; dsimp only; split <;> simp

@[simp] theorem State.makeFault_chan_manager (s : State) (w : FaultBody) : (s.makeFault w).chan.manager = s.chan.manager := by
  unfold State.makeFault; dsimp only; split <;> simp

@[simp] theorem State.makeFault_chan_expected (s : State) (w : FaultBody) : (s.makeFault w).chan.expected = s.chan.expected := by
  unfold State.makeFault; dsimp only; split <;> simp

@[simp] theorem State.makeFault_chan_stored (s : State) (w : FaultBody) : (s.makeFault w).chan.stored = s.chan.stored := by
  unfold State.makeFault; dsimp only; split <;> simp

@[simp] theorem State.makeFault_chan_params (s : State) (w : FaultBody) : (s.makeFault w).chan.params = s.chan.params := by
  unfold State.makeFault; dsimp only; split <;> simp

/-! ## `State.makeFaults` -/

@[simp] theorem State.makeFaults_cache (s : State) (ws : List FaultBody) : (s.makeFaults ws).cache = s.cache :=
  foldl_keeps State.cache _ (fun s x => State.makeFault_cache s x) _ s

@[simp] theorem State.makeFaults_park (s : State) (ws : List FaultBody) : (s.makeFaults ws).park = s.park :=
  foldl_keeps State.park _ (fun s x => State.makeFault_park s x) _ s

@[simp] theorem State.makeFaults_misses (s : State) (ws : List FaultBody) : (s.makeFaults ws).misses = s.misses :=
  foldl_keeps State.misses _ (fun s x => State.makeFault_misses s x) _ s

@[simp] theorem State.makeFaults_fences (s : State) (ws : List FaultBody) : (s.makeFaults ws).fences = s.fences :=
  foldl_keeps State.fences _ (fun s x => State.makeFault_fences s x) _ s

@[simp] theorem State.makeFaults_outs (s : State) (ws : List FaultBody) : (s.makeFaults ws).outs = s.outs :=
  foldl_keeps State.outs _ (fun s x => State.makeFault_outs s x) _ s

@[simp] theorem State.makeFaults_slots (s : State) (ws : List FaultBody) : (s.makeFaults ws).slots = s.slots :=
  foldl_keeps State.slots _ (fun s x => State.makeFault_slots s x) _ s

@[simp] theorem State.makeFaults_ctxs (s : State) (ws : List FaultBody) : (s.makeFaults ws).ctxs = s.ctxs :=
  foldl_keeps State.ctxs _ (fun s x => State.makeFault_ctxs s x) _ s

@[simp] theorem State.makeFaults_bridge (s : State) (ws : List FaultBody) : (s.makeFaults ws).bridge = s.bridge :=
  foldl_keeps State.bridge _ (fun s x => State.makeFault_bridge s x) _ s

@[simp] theorem State.makeFaults_cause (s : State) (ws : List FaultBody) : (s.makeFaults ws).cause = s.cause :=
  foldl_keeps State.cause _ (fun s x => State.makeFault_cause s x) _ s

@[simp] theorem State.makeFaults_time (s : State) (ws : List FaultBody) : (s.makeFaults ws).time = s.time :=
  foldl_keeps State.time _ (fun s x => State.makeFault_time s x) _ s

@[simp] theorem State.makeFaults_near (s : State) (ws : List FaultBody) : (s.makeFaults ws).near = s.near :=
  foldl_keeps State.near _ (fun s x => State.makeFault_near s x) _ s

@[simp] theorem State.makeFaults_node (s : State) (ws : List FaultBody) : (s.makeFaults ws).node = s.node :=
  foldl_keeps State.node _ (fun s x => State.makeFault_node s x) _ s

@[simp] theorem State.makeFaults_managerStrap (s : State) (ws : List FaultBody) : (s.makeFaults ws).managerStrap = s.managerStrap :=
  foldl_keeps State.managerStrap _ (fun s x => State.makeFault_managerStrap s x) _ s

@[simp] theorem State.makeFaults_powered (s : State) (ws : List FaultBody) : (s.makeFaults ws).powered = s.powered :=
  foldl_keeps State.powered _ (fun s x => State.makeFault_powered s x) _ s

@[simp] theorem State.makeFaults_moment (s : State) (ws : List FaultBody) : (s.makeFaults ws).moment = s.moment :=
  foldl_keeps State.moment _ (fun s x => State.makeFault_moment s x) _ s

@[simp] theorem State.makeFaults_pending (s : State) (ws : List FaultBody) : (s.makeFaults ws).pending = s.pending :=
  foldl_keeps State.pending _ (fun s x => State.makeFault_pending s x) _ s

@[simp] theorem State.makeFaults_far_up (s : State) (ws : List FaultBody) : (s.makeFaults ws).far.up = s.far.up := by
  unfold State.makeFaults; exact foldl_keeps (fun s : State => s.far.up) _ (fun s x => State.makeFault_far_up s x) _ s

@[simp] theorem State.makeFaults_far_sent (s : State) (ws : List FaultBody) : (s.makeFaults ws).far.sent = s.far.sent := by
  unfold State.makeFaults; exact foldl_keeps (fun s : State => s.far.sent) _ (fun s x => State.makeFault_far_sent s x) _ s

@[simp] theorem State.makeFaults_chan_manager (s : State) (ws : List FaultBody) : (s.makeFaults ws).chan.manager = s.chan.manager := by
  unfold State.makeFaults; exact foldl_keeps (fun s : State => s.chan.manager) _ (fun s x => State.makeFault_chan_manager s x) _ s

@[simp] theorem State.makeFaults_chan_expected (s : State) (ws : List FaultBody) : (s.makeFaults ws).chan.expected = s.chan.expected := by
  unfold State.makeFaults; exact foldl_keeps (fun s : State => s.chan.expected) _ (fun s x => State.makeFault_chan_expected s x) _ s

@[simp] theorem State.makeFaults_chan_stored (s : State) (ws : List FaultBody) : (s.makeFaults ws).chan.stored = s.chan.stored := by
  unfold State.makeFaults; exact foldl_keeps (fun s : State => s.chan.stored) _ (fun s x => State.makeFault_chan_stored s x) _ s

@[simp] theorem State.makeFaults_chan_params (s : State) (ws : List FaultBody) : (s.makeFaults ws).chan.params = s.chan.params := by
  unfold State.makeFaults; exact foldl_keeps (fun s : State => s.chan.params) _ (fun s x => State.makeFault_chan_params s x) _ s

/-! ## `State.makeFaultIf` -/

/-- `State.makeFaultIf` changes only far, chan, log, ctr. -/
theorem State.makeFaultIf_frame (s : State) (w : Option FaultBody) :
    s.makeFaultIf w =
      { s with
        far := (s.makeFaultIf w).far
        chan := (s.makeFaultIf w).chan
        log := (s.makeFaultIf w).log
        ctr := (s.makeFaultIf w).ctr } := by
  cases w with
  | none => rfl
  | some x => exact State.makeFault_frame s x

@[simp] theorem State.makeFaultIf_cache (s : State) (w : Option FaultBody) : (s.makeFaultIf w).cache = s.cache :=
  (congrArg State.cache (State.makeFaultIf_frame s w) :)

@[simp] theorem State.makeFaultIf_park (s : State) (w : Option FaultBody) : (s.makeFaultIf w).park = s.park :=
  (congrArg State.park (State.makeFaultIf_frame s w) :)

@[simp] theorem State.makeFaultIf_misses (s : State) (w : Option FaultBody) : (s.makeFaultIf w).misses = s.misses :=
  (congrArg State.misses (State.makeFaultIf_frame s w) :)

@[simp] theorem State.makeFaultIf_fences (s : State) (w : Option FaultBody) : (s.makeFaultIf w).fences = s.fences :=
  (congrArg State.fences (State.makeFaultIf_frame s w) :)

@[simp] theorem State.makeFaultIf_outs (s : State) (w : Option FaultBody) : (s.makeFaultIf w).outs = s.outs :=
  (congrArg State.outs (State.makeFaultIf_frame s w) :)

@[simp] theorem State.makeFaultIf_slots (s : State) (w : Option FaultBody) : (s.makeFaultIf w).slots = s.slots :=
  (congrArg State.slots (State.makeFaultIf_frame s w) :)

@[simp] theorem State.makeFaultIf_ctxs (s : State) (w : Option FaultBody) : (s.makeFaultIf w).ctxs = s.ctxs :=
  (congrArg State.ctxs (State.makeFaultIf_frame s w) :)

@[simp] theorem State.makeFaultIf_bridge (s : State) (w : Option FaultBody) : (s.makeFaultIf w).bridge = s.bridge :=
  (congrArg State.bridge (State.makeFaultIf_frame s w) :)

@[simp] theorem State.makeFaultIf_cause (s : State) (w : Option FaultBody) : (s.makeFaultIf w).cause = s.cause :=
  (congrArg State.cause (State.makeFaultIf_frame s w) :)

@[simp] theorem State.makeFaultIf_time (s : State) (w : Option FaultBody) : (s.makeFaultIf w).time = s.time :=
  (congrArg State.time (State.makeFaultIf_frame s w) :)

@[simp] theorem State.makeFaultIf_near (s : State) (w : Option FaultBody) : (s.makeFaultIf w).near = s.near :=
  (congrArg State.near (State.makeFaultIf_frame s w) :)

@[simp] theorem State.makeFaultIf_node (s : State) (w : Option FaultBody) : (s.makeFaultIf w).node = s.node :=
  (congrArg State.node (State.makeFaultIf_frame s w) :)

@[simp] theorem State.makeFaultIf_managerStrap (s : State) (w : Option FaultBody) : (s.makeFaultIf w).managerStrap = s.managerStrap :=
  (congrArg State.managerStrap (State.makeFaultIf_frame s w) :)

@[simp] theorem State.makeFaultIf_powered (s : State) (w : Option FaultBody) : (s.makeFaultIf w).powered = s.powered :=
  (congrArg State.powered (State.makeFaultIf_frame s w) :)

@[simp] theorem State.makeFaultIf_moment (s : State) (w : Option FaultBody) : (s.makeFaultIf w).moment = s.moment :=
  (congrArg State.moment (State.makeFaultIf_frame s w) :)

@[simp] theorem State.makeFaultIf_pending (s : State) (w : Option FaultBody) : (s.makeFaultIf w).pending = s.pending :=
  (congrArg State.pending (State.makeFaultIf_frame s w) :)

@[simp] theorem State.makeFaultIf_far_up (s : State) (w : Option FaultBody) : (s.makeFaultIf w).far.up = s.far.up := by
  cases w <;> simp [State.makeFaultIf]

@[simp] theorem State.makeFaultIf_far_sent (s : State) (w : Option FaultBody) : (s.makeFaultIf w).far.sent = s.far.sent := by
  cases w <;> simp [State.makeFaultIf]

@[simp] theorem State.makeFaultIf_chan_manager (s : State) (w : Option FaultBody) : (s.makeFaultIf w).chan.manager = s.chan.manager := by
  cases w <;> simp [State.makeFaultIf]

@[simp] theorem State.makeFaultIf_chan_expected (s : State) (w : Option FaultBody) : (s.makeFaultIf w).chan.expected = s.chan.expected := by
  cases w <;> simp [State.makeFaultIf]

@[simp] theorem State.makeFaultIf_chan_stored (s : State) (w : Option FaultBody) : (s.makeFaultIf w).chan.stored = s.chan.stored := by
  cases w <;> simp [State.makeFaultIf]

@[simp] theorem State.makeFaultIf_chan_params (s : State) (w : Option FaultBody) : (s.makeFaultIf w).chan.params = s.chan.params := by
  cases w <;> simp [State.makeFaultIf]

/-! ## `State.judgeFence` -/

/-- `State.judgeFence` changes only near, fences. -/
theorem State.judgeFence_frame (s : State) (a : Agent) :
    s.judgeFence a =
      { s with
        near := (s.judgeFence a).near
        fences := (s.judgeFence a).fences } := by
  unfold State.judgeFence
  split
  · split
    · rfl
    · unfold State.answer State.countAnswer; dsimp only; rw [State.sendNear_frame]
  · rfl

@[simp] theorem State.judgeFence_cache (s : State) (a : Agent) : (s.judgeFence a).cache = s.cache :=
  (congrArg State.cache (State.judgeFence_frame s a) :)

@[simp] theorem State.judgeFence_park (s : State) (a : Agent) : (s.judgeFence a).park = s.park :=
  (congrArg State.park (State.judgeFence_frame s a) :)

@[simp] theorem State.judgeFence_misses (s : State) (a : Agent) : (s.judgeFence a).misses = s.misses :=
  (congrArg State.misses (State.judgeFence_frame s a) :)

@[simp] theorem State.judgeFence_outs (s : State) (a : Agent) : (s.judgeFence a).outs = s.outs :=
  (congrArg State.outs (State.judgeFence_frame s a) :)

@[simp] theorem State.judgeFence_slots (s : State) (a : Agent) : (s.judgeFence a).slots = s.slots :=
  (congrArg State.slots (State.judgeFence_frame s a) :)

@[simp] theorem State.judgeFence_ctxs (s : State) (a : Agent) : (s.judgeFence a).ctxs = s.ctxs :=
  (congrArg State.ctxs (State.judgeFence_frame s a) :)

@[simp] theorem State.judgeFence_bridge (s : State) (a : Agent) : (s.judgeFence a).bridge = s.bridge :=
  (congrArg State.bridge (State.judgeFence_frame s a) :)

@[simp] theorem State.judgeFence_cause (s : State) (a : Agent) : (s.judgeFence a).cause = s.cause :=
  (congrArg State.cause (State.judgeFence_frame s a) :)

@[simp] theorem State.judgeFence_chan (s : State) (a : Agent) : (s.judgeFence a).chan = s.chan :=
  (congrArg State.chan (State.judgeFence_frame s a) :)

@[simp] theorem State.judgeFence_log (s : State) (a : Agent) : (s.judgeFence a).log = s.log :=
  (congrArg State.log (State.judgeFence_frame s a) :)

@[simp] theorem State.judgeFence_ctr (s : State) (a : Agent) : (s.judgeFence a).ctr = s.ctr :=
  (congrArg State.ctr (State.judgeFence_frame s a) :)

@[simp] theorem State.judgeFence_time (s : State) (a : Agent) : (s.judgeFence a).time = s.time :=
  (congrArg State.time (State.judgeFence_frame s a) :)

@[simp] theorem State.judgeFence_far (s : State) (a : Agent) : (s.judgeFence a).far = s.far :=
  (congrArg State.far (State.judgeFence_frame s a) :)

@[simp] theorem State.judgeFence_node (s : State) (a : Agent) : (s.judgeFence a).node = s.node :=
  (congrArg State.node (State.judgeFence_frame s a) :)

@[simp] theorem State.judgeFence_managerStrap (s : State) (a : Agent) : (s.judgeFence a).managerStrap = s.managerStrap :=
  (congrArg State.managerStrap (State.judgeFence_frame s a) :)

@[simp] theorem State.judgeFence_powered (s : State) (a : Agent) : (s.judgeFence a).powered = s.powered :=
  (congrArg State.powered (State.judgeFence_frame s a) :)

@[simp] theorem State.judgeFence_moment (s : State) (a : Agent) : (s.judgeFence a).moment = s.moment :=
  (congrArg State.moment (State.judgeFence_frame s a) :)

@[simp] theorem State.judgeFence_pending (s : State) (a : Agent) : (s.judgeFence a).pending = s.pending :=
  (congrArg State.pending (State.judgeFence_frame s a) :)

@[simp] theorem State.judgeFence_near_up (s : State) (a : Agent) : (s.judgeFence a).near.up = s.near.up := by
  unfold State.judgeFence; split
  · split <;> simp
  · rfl

@[simp] theorem State.judgeFence_near_sent (s : State) (a : Agent) : (s.judgeFence a).near.sent = s.near.sent := by
  unfold State.judgeFence; split
  · split <;> simp
  · rfl

/-! ## `State.endHold` -/

/-- `State.endHold` changes only near, fences. -/
theorem State.endHold_frame (s : State) (held : Bool) (a : Agent) :
    s.endHold held a =
      { s with
        near := (s.endHold held a).near
        fences := (s.endHold held a).fences } := by
  cases held with
  | false => rfl
  | true => exact State.judgeFence_frame s a

@[simp] theorem State.endHold_cache (s : State) (held : Bool) (a : Agent) : (s.endHold held a).cache = s.cache :=
  (congrArg State.cache (State.endHold_frame s held a) :)

@[simp] theorem State.endHold_park (s : State) (held : Bool) (a : Agent) : (s.endHold held a).park = s.park :=
  (congrArg State.park (State.endHold_frame s held a) :)

@[simp] theorem State.endHold_misses (s : State) (held : Bool) (a : Agent) : (s.endHold held a).misses = s.misses :=
  (congrArg State.misses (State.endHold_frame s held a) :)

@[simp] theorem State.endHold_outs (s : State) (held : Bool) (a : Agent) : (s.endHold held a).outs = s.outs :=
  (congrArg State.outs (State.endHold_frame s held a) :)

@[simp] theorem State.endHold_slots (s : State) (held : Bool) (a : Agent) : (s.endHold held a).slots = s.slots :=
  (congrArg State.slots (State.endHold_frame s held a) :)

@[simp] theorem State.endHold_ctxs (s : State) (held : Bool) (a : Agent) : (s.endHold held a).ctxs = s.ctxs :=
  (congrArg State.ctxs (State.endHold_frame s held a) :)

@[simp] theorem State.endHold_bridge (s : State) (held : Bool) (a : Agent) : (s.endHold held a).bridge = s.bridge :=
  (congrArg State.bridge (State.endHold_frame s held a) :)

@[simp] theorem State.endHold_cause (s : State) (held : Bool) (a : Agent) : (s.endHold held a).cause = s.cause :=
  (congrArg State.cause (State.endHold_frame s held a) :)

@[simp] theorem State.endHold_chan (s : State) (held : Bool) (a : Agent) : (s.endHold held a).chan = s.chan :=
  (congrArg State.chan (State.endHold_frame s held a) :)

@[simp] theorem State.endHold_log (s : State) (held : Bool) (a : Agent) : (s.endHold held a).log = s.log :=
  (congrArg State.log (State.endHold_frame s held a) :)

@[simp] theorem State.endHold_ctr (s : State) (held : Bool) (a : Agent) : (s.endHold held a).ctr = s.ctr :=
  (congrArg State.ctr (State.endHold_frame s held a) :)

@[simp] theorem State.endHold_time (s : State) (held : Bool) (a : Agent) : (s.endHold held a).time = s.time :=
  (congrArg State.time (State.endHold_frame s held a) :)

@[simp] theorem State.endHold_far (s : State) (held : Bool) (a : Agent) : (s.endHold held a).far = s.far :=
  (congrArg State.far (State.endHold_frame s held a) :)

@[simp] theorem State.endHold_node (s : State) (held : Bool) (a : Agent) : (s.endHold held a).node = s.node :=
  (congrArg State.node (State.endHold_frame s held a) :)

@[simp] theorem State.endHold_managerStrap (s : State) (held : Bool) (a : Agent) : (s.endHold held a).managerStrap = s.managerStrap :=
  (congrArg State.managerStrap (State.endHold_frame s held a) :)

@[simp] theorem State.endHold_powered (s : State) (held : Bool) (a : Agent) : (s.endHold held a).powered = s.powered :=
  (congrArg State.powered (State.endHold_frame s held a) :)

@[simp] theorem State.endHold_moment (s : State) (held : Bool) (a : Agent) : (s.endHold held a).moment = s.moment :=
  (congrArg State.moment (State.endHold_frame s held a) :)

@[simp] theorem State.endHold_pending (s : State) (held : Bool) (a : Agent) : (s.endHold held a).pending = s.pending :=
  (congrArg State.pending (State.endHold_frame s held a) :)

@[simp] theorem State.endHold_near_up (s : State) (held : Bool) (a : Agent) : (s.endHold held a).near.up = s.near.up := by
  cases held <;> simp [State.endHold]

@[simp] theorem State.endHold_near_sent (s : State) (held : Bool) (a : Agent) : (s.endHold held a).near.sent = s.near.sent := by
  cases held <;> simp [State.endHold]

/-! ## `State.sweep` -/

/-- A sweep changes only the park buffer, the near port, the counters and the fences; and whatever a record's answer and its
fence's judgment keep, it keeps. -/
theorem sweepFrom_keeps {β : Type} (g : State → β) (hp : ∀ (s : State) (l : List ParkRecord), g { s with park := l } = g s)
    (ha : ∀ (s : State) (a : Agent) (t : NearTag) (x : Option Answer), g (s.answerIf a t x) = g s)
    (hh : ∀ (s : State) (b : Bool) (a : Agent), g (s.endHold b a) = g s)
    (fate : ParkRecord → Fate) (kept l : List ParkRecord) (s : State) : g (sweepFrom fate kept l s) = g s := by
  induction l generalizing kept s with
  | nil => exact hp s kept
  | cons r l ih =>
    unfold sweepFrom
    split
    · exact ih _ s
    · exact (ih _ _).trans ((hh _ _ _).trans ((ha _ _ _ _).trans (hp s _)))

@[simp] theorem State.sweep_cache (s : State) (fate : ParkRecord → Fate) : (s.sweep fate).cache = s.cache :=
  sweepFrom_keeps State.cache (fun _ _ => rfl) State.answerIf_cache State.endHold_cache fate [] s.park s

@[simp] theorem State.sweep_misses (s : State) (fate : ParkRecord → Fate) : (s.sweep fate).misses = s.misses :=
  sweepFrom_keeps State.misses (fun _ _ => rfl) State.answerIf_misses State.endHold_misses fate [] s.park s

@[simp] theorem State.sweep_outs (s : State) (fate : ParkRecord → Fate) : (s.sweep fate).outs = s.outs :=
  sweepFrom_keeps State.outs (fun _ _ => rfl) State.answerIf_outs State.endHold_outs fate [] s.park s

@[simp] theorem State.sweep_slots (s : State) (fate : ParkRecord → Fate) : (s.sweep fate).slots = s.slots :=
  sweepFrom_keeps State.slots (fun _ _ => rfl) State.answerIf_slots State.endHold_slots fate [] s.park s

@[simp] theorem State.sweep_ctxs (s : State) (fate : ParkRecord → Fate) : (s.sweep fate).ctxs = s.ctxs :=
  sweepFrom_keeps State.ctxs (fun _ _ => rfl) State.answerIf_ctxs State.endHold_ctxs fate [] s.park s

@[simp] theorem State.sweep_bridge (s : State) (fate : ParkRecord → Fate) : (s.sweep fate).bridge = s.bridge :=
  sweepFrom_keeps State.bridge (fun _ _ => rfl) State.answerIf_bridge State.endHold_bridge fate [] s.park s

@[simp] theorem State.sweep_cause (s : State) (fate : ParkRecord → Fate) : (s.sweep fate).cause = s.cause :=
  sweepFrom_keeps State.cause (fun _ _ => rfl) State.answerIf_cause State.endHold_cause fate [] s.park s

@[simp] theorem State.sweep_chan (s : State) (fate : ParkRecord → Fate) : (s.sweep fate).chan = s.chan :=
  sweepFrom_keeps State.chan (fun _ _ => rfl) State.answerIf_chan State.endHold_chan fate [] s.park s

@[simp] theorem State.sweep_log (s : State) (fate : ParkRecord → Fate) : (s.sweep fate).log = s.log :=
  sweepFrom_keeps State.log (fun _ _ => rfl) State.answerIf_log State.endHold_log fate [] s.park s

@[simp] theorem State.sweep_time (s : State) (fate : ParkRecord → Fate) : (s.sweep fate).time = s.time :=
  sweepFrom_keeps State.time (fun _ _ => rfl) State.answerIf_time State.endHold_time fate [] s.park s

@[simp] theorem State.sweep_far (s : State) (fate : ParkRecord → Fate) : (s.sweep fate).far = s.far :=
  sweepFrom_keeps State.far (fun _ _ => rfl) State.answerIf_far State.endHold_far fate [] s.park s

@[simp] theorem State.sweep_node (s : State) (fate : ParkRecord → Fate) : (s.sweep fate).node = s.node :=
  sweepFrom_keeps State.node (fun _ _ => rfl) State.answerIf_node State.endHold_node fate [] s.park s

@[simp] theorem State.sweep_managerStrap (s : State) (fate : ParkRecord → Fate) : (s.sweep fate).managerStrap = s.managerStrap :=
  sweepFrom_keeps State.managerStrap (fun _ _ => rfl) State.answerIf_managerStrap State.endHold_managerStrap fate [] s.park s

@[simp] theorem State.sweep_powered (s : State) (fate : ParkRecord → Fate) : (s.sweep fate).powered = s.powered :=
  sweepFrom_keeps State.powered (fun _ _ => rfl) State.answerIf_powered State.endHold_powered fate [] s.park s

@[simp] theorem State.sweep_moment (s : State) (fate : ParkRecord → Fate) : (s.sweep fate).moment = s.moment :=
  sweepFrom_keeps State.moment (fun _ _ => rfl) State.answerIf_moment State.endHold_moment fate [] s.park s

@[simp] theorem State.sweep_pending (s : State) (fate : ParkRecord → Fate) : (s.sweep fate).pending = s.pending :=
  sweepFrom_keeps State.pending (fun _ _ => rfl) State.answerIf_pending State.endHold_pending fate [] s.park s

@[simp] theorem State.sweep_near_up (s : State) (fate : ParkRecord → Fate) : (s.sweep fate).near.up = s.near.up :=
  sweepFrom_keeps (fun s => s.near.up) (fun _ _ => rfl) State.answerIf_near_up State.endHold_near_up fate [] s.park s

@[simp] theorem State.sweep_near_sent (s : State) (fate : ParkRecord → Fate) : (s.sweep fate).near.sent = s.near.sent :=
  sweepFrom_keeps (fun s => s.near.sent) (fun _ _ => rfl) State.answerIf_near_sent State.endHold_near_sent fate [] s.park s

/-- The record a fate keeps, if it keeps one. -/
def Fate.kept : Fate → Option ParkRecord
  | .keep r => some r
  | .leave _ => none

theorem sweepFrom_park (fate : ParkRecord → Fate) (kept l : List ParkRecord) (s : State) :
    (sweepFrom fate kept l s).park = kept ++ l.filterMap fun r => (fate r).kept := by
  induction l generalizing kept s with
  | nil => simp [sweepFrom]
  | cons r l ih =>
    unfold sweepFrom
    cases h : fate r with
    | keep r' => simp [ih, h, Fate.kept]
    | leave a => simp [ih, h, Fate.kept]

/-- The park buffer after a sweep: the kept records, in park order (R30). -/
theorem State.sweep_park (s : State) (fate : ParkRecord → Fate) :
    (s.sweep fate).park = s.park.filterMap fun r => (fate r).kept := by
  simp [State.sweep, sweepFrom_park]

/-- A sweep that refuses the records of a test leaves the others, in park order (R30). -/
@[simp] theorem State.sweep_refuse_park (s : State) (p : ParkRecord → Bool) (reason : Reason) (d : Byte) :
    (s.sweep (refuseFate p reason d)).park = s.park.filter fun r => !p r := by
  rw [State.sweep_park, ← List.filterMap_eq_filter]
  congr 1; funext r
  unfold refuseFate; cases h : p r <;> simp [Fate.kept, h, Option.guard]

/-! ## `State.completeSlot` -/

/-- `State.completeSlot` changes only slots, far, chan, ctr. -/
theorem State.completeSlot_frame (s : State) (k : SlotId) :
    s.completeSlot k =
      { s with
        slots := (s.completeSlot k).slots
        far := (s.completeSlot k).far
        chan := (s.completeSlot k).chan
        ctr := (s.completeSlot k).ctr } := by
  unfold State.completeSlot
  split
  · split
    · rw [State.notice_frame]
    · rfl
  · rfl

@[simp] theorem State.completeSlot_cache (s : State) (k : SlotId) : (s.completeSlot k).cache = s.cache :=
  (congrArg State.cache (State.completeSlot_frame s k) :)

@[simp] theorem State.completeSlot_park (s : State) (k : SlotId) : (s.completeSlot k).park = s.park :=
  (congrArg State.park (State.completeSlot_frame s k) :)

@[simp] theorem State.completeSlot_misses (s : State) (k : SlotId) : (s.completeSlot k).misses = s.misses :=
  (congrArg State.misses (State.completeSlot_frame s k) :)

@[simp] theorem State.completeSlot_fences (s : State) (k : SlotId) : (s.completeSlot k).fences = s.fences :=
  (congrArg State.fences (State.completeSlot_frame s k) :)

@[simp] theorem State.completeSlot_outs (s : State) (k : SlotId) : (s.completeSlot k).outs = s.outs :=
  (congrArg State.outs (State.completeSlot_frame s k) :)

@[simp] theorem State.completeSlot_ctxs (s : State) (k : SlotId) : (s.completeSlot k).ctxs = s.ctxs :=
  (congrArg State.ctxs (State.completeSlot_frame s k) :)

@[simp] theorem State.completeSlot_bridge (s : State) (k : SlotId) : (s.completeSlot k).bridge = s.bridge :=
  (congrArg State.bridge (State.completeSlot_frame s k) :)

@[simp] theorem State.completeSlot_cause (s : State) (k : SlotId) : (s.completeSlot k).cause = s.cause :=
  (congrArg State.cause (State.completeSlot_frame s k) :)

@[simp] theorem State.completeSlot_log (s : State) (k : SlotId) : (s.completeSlot k).log = s.log :=
  (congrArg State.log (State.completeSlot_frame s k) :)

@[simp] theorem State.completeSlot_time (s : State) (k : SlotId) : (s.completeSlot k).time = s.time :=
  (congrArg State.time (State.completeSlot_frame s k) :)

@[simp] theorem State.completeSlot_near (s : State) (k : SlotId) : (s.completeSlot k).near = s.near :=
  (congrArg State.near (State.completeSlot_frame s k) :)

@[simp] theorem State.completeSlot_node (s : State) (k : SlotId) : (s.completeSlot k).node = s.node :=
  (congrArg State.node (State.completeSlot_frame s k) :)

@[simp] theorem State.completeSlot_managerStrap (s : State) (k : SlotId) : (s.completeSlot k).managerStrap = s.managerStrap :=
  (congrArg State.managerStrap (State.completeSlot_frame s k) :)

@[simp] theorem State.completeSlot_powered (s : State) (k : SlotId) : (s.completeSlot k).powered = s.powered :=
  (congrArg State.powered (State.completeSlot_frame s k) :)

@[simp] theorem State.completeSlot_moment (s : State) (k : SlotId) : (s.completeSlot k).moment = s.moment :=
  (congrArg State.moment (State.completeSlot_frame s k) :)

@[simp] theorem State.completeSlot_pending (s : State) (k : SlotId) : (s.completeSlot k).pending = s.pending :=
  (congrArg State.pending (State.completeSlot_frame s k) :)

@[simp] theorem State.completeSlot_far_up (s : State) (k : SlotId) : (s.completeSlot k).far.up = s.far.up := by
  unfold State.completeSlot; split
  · split <;> simp
  · rfl

@[simp] theorem State.completeSlot_far_sent (s : State) (k : SlotId) : (s.completeSlot k).far.sent = s.far.sent := by
  unfold State.completeSlot; split
  · split <;> simp
  · rfl

@[simp] theorem State.completeSlot_chan_manager (s : State) (k : SlotId) : (s.completeSlot k).chan.manager = s.chan.manager := by
  unfold State.completeSlot; split
  · split <;> simp
  · rfl

@[simp] theorem State.completeSlot_chan_expected (s : State) (k : SlotId) : (s.completeSlot k).chan.expected = s.chan.expected := by
  unfold State.completeSlot; split
  · split <;> simp
  · rfl

@[simp] theorem State.completeSlot_chan_stored (s : State) (k : SlotId) : (s.completeSlot k).chan.stored = s.chan.stored := by
  unfold State.completeSlot; split
  · split <;> simp
  · rfl

@[simp] theorem State.completeSlot_chan_params (s : State) (k : SlotId) : (s.completeSlot k).chan.params = s.chan.params := by
  unfold State.completeSlot; split
  · split <;> simp
  · rfl

/-! ## `State.completeSlots` -/

@[simp] theorem State.completeSlots_cache (s : State) : (s.completeSlots).cache = s.cache :=
  foldl_keeps State.cache _ (fun s x => State.completeSlot_cache s x) _ s

@[simp] theorem State.completeSlots_park (s : State) : (s.completeSlots).park = s.park :=
  foldl_keeps State.park _ (fun s x => State.completeSlot_park s x) _ s

@[simp] theorem State.completeSlots_misses (s : State) : (s.completeSlots).misses = s.misses :=
  foldl_keeps State.misses _ (fun s x => State.completeSlot_misses s x) _ s

@[simp] theorem State.completeSlots_fences (s : State) : (s.completeSlots).fences = s.fences :=
  foldl_keeps State.fences _ (fun s x => State.completeSlot_fences s x) _ s

@[simp] theorem State.completeSlots_outs (s : State) : (s.completeSlots).outs = s.outs :=
  foldl_keeps State.outs _ (fun s x => State.completeSlot_outs s x) _ s

@[simp] theorem State.completeSlots_ctxs (s : State) : (s.completeSlots).ctxs = s.ctxs :=
  foldl_keeps State.ctxs _ (fun s x => State.completeSlot_ctxs s x) _ s

@[simp] theorem State.completeSlots_bridge (s : State) : (s.completeSlots).bridge = s.bridge :=
  foldl_keeps State.bridge _ (fun s x => State.completeSlot_bridge s x) _ s

@[simp] theorem State.completeSlots_cause (s : State) : (s.completeSlots).cause = s.cause :=
  foldl_keeps State.cause _ (fun s x => State.completeSlot_cause s x) _ s

@[simp] theorem State.completeSlots_log (s : State) : (s.completeSlots).log = s.log :=
  foldl_keeps State.log _ (fun s x => State.completeSlot_log s x) _ s

@[simp] theorem State.completeSlots_time (s : State) : (s.completeSlots).time = s.time :=
  foldl_keeps State.time _ (fun s x => State.completeSlot_time s x) _ s

@[simp] theorem State.completeSlots_near (s : State) : (s.completeSlots).near = s.near :=
  foldl_keeps State.near _ (fun s x => State.completeSlot_near s x) _ s

@[simp] theorem State.completeSlots_node (s : State) : (s.completeSlots).node = s.node :=
  foldl_keeps State.node _ (fun s x => State.completeSlot_node s x) _ s

@[simp] theorem State.completeSlots_managerStrap (s : State) : (s.completeSlots).managerStrap = s.managerStrap :=
  foldl_keeps State.managerStrap _ (fun s x => State.completeSlot_managerStrap s x) _ s

@[simp] theorem State.completeSlots_powered (s : State) : (s.completeSlots).powered = s.powered :=
  foldl_keeps State.powered _ (fun s x => State.completeSlot_powered s x) _ s

@[simp] theorem State.completeSlots_moment (s : State) : (s.completeSlots).moment = s.moment :=
  foldl_keeps State.moment _ (fun s x => State.completeSlot_moment s x) _ s

@[simp] theorem State.completeSlots_pending (s : State) : (s.completeSlots).pending = s.pending :=
  foldl_keeps State.pending _ (fun s x => State.completeSlot_pending s x) _ s

@[simp] theorem State.completeSlots_far_up (s : State) : (s.completeSlots).far.up = s.far.up := by
  unfold State.completeSlots; exact foldl_keeps (fun s : State => s.far.up) _ (fun s x => State.completeSlot_far_up s x) _ s

@[simp] theorem State.completeSlots_far_sent (s : State) : (s.completeSlots).far.sent = s.far.sent := by
  unfold State.completeSlots; exact foldl_keeps (fun s : State => s.far.sent) _ (fun s x => State.completeSlot_far_sent s x) _ s

@[simp] theorem State.completeSlots_chan_manager (s : State) : (s.completeSlots).chan.manager = s.chan.manager := by
  unfold State.completeSlots; exact foldl_keeps (fun s : State => s.chan.manager) _ (fun s x => State.completeSlot_chan_manager s x) _ s

@[simp] theorem State.completeSlots_chan_expected (s : State) : (s.completeSlots).chan.expected = s.chan.expected := by
  unfold State.completeSlots; exact foldl_keeps (fun s : State => s.chan.expected) _ (fun s x => State.completeSlot_chan_expected s x) _ s

@[simp] theorem State.completeSlots_chan_stored (s : State) : (s.completeSlots).chan.stored = s.chan.stored := by
  unfold State.completeSlots; exact foldl_keeps (fun s : State => s.chan.stored) _ (fun s x => State.completeSlot_chan_stored s x) _ s

@[simp] theorem State.completeSlots_chan_params (s : State) : (s.completeSlots).chan.params = s.chan.params := by
  unfold State.completeSlots; exact foldl_keeps (fun s : State => s.chan.params) _ (fun s x => State.completeSlot_chan_params s x) _ s

/-! ## `State.completeClose` -/

/-- `State.completeClose` changes only ctxs, far, chan, ctr. -/
theorem State.completeClose_frame (s : State) (c : Ctx) :
    s.completeClose c =
      { s with
        ctxs := (s.completeClose c).ctxs
        far := (s.completeClose c).far
        chan := (s.completeClose c).chan
        ctr := (s.completeClose c).ctr } := by
  unfold State.completeClose
  split
  · split
    · rfl
    · rw [State.notice_frame]
  · rfl

@[simp] theorem State.completeClose_cache (s : State) (c : Ctx) : (s.completeClose c).cache = s.cache :=
  (congrArg State.cache (State.completeClose_frame s c) :)

@[simp] theorem State.completeClose_park (s : State) (c : Ctx) : (s.completeClose c).park = s.park :=
  (congrArg State.park (State.completeClose_frame s c) :)

@[simp] theorem State.completeClose_misses (s : State) (c : Ctx) : (s.completeClose c).misses = s.misses :=
  (congrArg State.misses (State.completeClose_frame s c) :)

@[simp] theorem State.completeClose_fences (s : State) (c : Ctx) : (s.completeClose c).fences = s.fences :=
  (congrArg State.fences (State.completeClose_frame s c) :)

@[simp] theorem State.completeClose_outs (s : State) (c : Ctx) : (s.completeClose c).outs = s.outs :=
  (congrArg State.outs (State.completeClose_frame s c) :)

@[simp] theorem State.completeClose_slots (s : State) (c : Ctx) : (s.completeClose c).slots = s.slots :=
  (congrArg State.slots (State.completeClose_frame s c) :)

@[simp] theorem State.completeClose_bridge (s : State) (c : Ctx) : (s.completeClose c).bridge = s.bridge :=
  (congrArg State.bridge (State.completeClose_frame s c) :)

@[simp] theorem State.completeClose_cause (s : State) (c : Ctx) : (s.completeClose c).cause = s.cause :=
  (congrArg State.cause (State.completeClose_frame s c) :)

@[simp] theorem State.completeClose_log (s : State) (c : Ctx) : (s.completeClose c).log = s.log :=
  (congrArg State.log (State.completeClose_frame s c) :)

@[simp] theorem State.completeClose_time (s : State) (c : Ctx) : (s.completeClose c).time = s.time :=
  (congrArg State.time (State.completeClose_frame s c) :)

@[simp] theorem State.completeClose_near (s : State) (c : Ctx) : (s.completeClose c).near = s.near :=
  (congrArg State.near (State.completeClose_frame s c) :)

@[simp] theorem State.completeClose_node (s : State) (c : Ctx) : (s.completeClose c).node = s.node :=
  (congrArg State.node (State.completeClose_frame s c) :)

@[simp] theorem State.completeClose_managerStrap (s : State) (c : Ctx) : (s.completeClose c).managerStrap = s.managerStrap :=
  (congrArg State.managerStrap (State.completeClose_frame s c) :)

@[simp] theorem State.completeClose_powered (s : State) (c : Ctx) : (s.completeClose c).powered = s.powered :=
  (congrArg State.powered (State.completeClose_frame s c) :)

@[simp] theorem State.completeClose_moment (s : State) (c : Ctx) : (s.completeClose c).moment = s.moment :=
  (congrArg State.moment (State.completeClose_frame s c) :)

@[simp] theorem State.completeClose_pending (s : State) (c : Ctx) : (s.completeClose c).pending = s.pending :=
  (congrArg State.pending (State.completeClose_frame s c) :)

@[simp] theorem State.completeClose_far_up (s : State) (c : Ctx) : (s.completeClose c).far.up = s.far.up := by
  unfold State.completeClose; split
  · split <;> simp
  · rfl

@[simp] theorem State.completeClose_far_sent (s : State) (c : Ctx) : (s.completeClose c).far.sent = s.far.sent := by
  unfold State.completeClose; split
  · split <;> simp
  · rfl

@[simp] theorem State.completeClose_chan_manager (s : State) (c : Ctx) : (s.completeClose c).chan.manager = s.chan.manager := by
  unfold State.completeClose; split
  · split <;> simp
  · rfl

@[simp] theorem State.completeClose_chan_expected (s : State) (c : Ctx) : (s.completeClose c).chan.expected = s.chan.expected := by
  unfold State.completeClose; split
  · split <;> simp
  · rfl

@[simp] theorem State.completeClose_chan_stored (s : State) (c : Ctx) : (s.completeClose c).chan.stored = s.chan.stored := by
  unfold State.completeClose; split
  · split <;> simp
  · rfl

@[simp] theorem State.completeClose_chan_params (s : State) (c : Ctx) : (s.completeClose c).chan.params = s.chan.params := by
  unfold State.completeClose; split
  · split <;> simp
  · rfl

/-! ## `State.completeCloses` -/

@[simp] theorem State.completeCloses_cache (s : State) : (s.completeCloses).cache = s.cache :=
  foldl_keeps State.cache _ (fun s x => State.completeClose_cache s x) _ s

@[simp] theorem State.completeCloses_park (s : State) : (s.completeCloses).park = s.park :=
  foldl_keeps State.park _ (fun s x => State.completeClose_park s x) _ s

@[simp] theorem State.completeCloses_misses (s : State) : (s.completeCloses).misses = s.misses :=
  foldl_keeps State.misses _ (fun s x => State.completeClose_misses s x) _ s

@[simp] theorem State.completeCloses_fences (s : State) : (s.completeCloses).fences = s.fences :=
  foldl_keeps State.fences _ (fun s x => State.completeClose_fences s x) _ s

@[simp] theorem State.completeCloses_outs (s : State) : (s.completeCloses).outs = s.outs :=
  foldl_keeps State.outs _ (fun s x => State.completeClose_outs s x) _ s

@[simp] theorem State.completeCloses_slots (s : State) : (s.completeCloses).slots = s.slots :=
  foldl_keeps State.slots _ (fun s x => State.completeClose_slots s x) _ s

@[simp] theorem State.completeCloses_bridge (s : State) : (s.completeCloses).bridge = s.bridge :=
  foldl_keeps State.bridge _ (fun s x => State.completeClose_bridge s x) _ s

@[simp] theorem State.completeCloses_cause (s : State) : (s.completeCloses).cause = s.cause :=
  foldl_keeps State.cause _ (fun s x => State.completeClose_cause s x) _ s

@[simp] theorem State.completeCloses_log (s : State) : (s.completeCloses).log = s.log :=
  foldl_keeps State.log _ (fun s x => State.completeClose_log s x) _ s

@[simp] theorem State.completeCloses_time (s : State) : (s.completeCloses).time = s.time :=
  foldl_keeps State.time _ (fun s x => State.completeClose_time s x) _ s

@[simp] theorem State.completeCloses_near (s : State) : (s.completeCloses).near = s.near :=
  foldl_keeps State.near _ (fun s x => State.completeClose_near s x) _ s

@[simp] theorem State.completeCloses_node (s : State) : (s.completeCloses).node = s.node :=
  foldl_keeps State.node _ (fun s x => State.completeClose_node s x) _ s

@[simp] theorem State.completeCloses_managerStrap (s : State) : (s.completeCloses).managerStrap = s.managerStrap :=
  foldl_keeps State.managerStrap _ (fun s x => State.completeClose_managerStrap s x) _ s

@[simp] theorem State.completeCloses_powered (s : State) : (s.completeCloses).powered = s.powered :=
  foldl_keeps State.powered _ (fun s x => State.completeClose_powered s x) _ s

@[simp] theorem State.completeCloses_moment (s : State) : (s.completeCloses).moment = s.moment :=
  foldl_keeps State.moment _ (fun s x => State.completeClose_moment s x) _ s

@[simp] theorem State.completeCloses_pending (s : State) : (s.completeCloses).pending = s.pending :=
  foldl_keeps State.pending _ (fun s x => State.completeClose_pending s x) _ s

@[simp] theorem State.completeCloses_far_up (s : State) : (s.completeCloses).far.up = s.far.up := by
  unfold State.completeCloses; exact foldl_keeps (fun s : State => s.far.up) _ (fun s x => State.completeClose_far_up s x) _ s

@[simp] theorem State.completeCloses_far_sent (s : State) : (s.completeCloses).far.sent = s.far.sent := by
  unfold State.completeCloses; exact foldl_keeps (fun s : State => s.far.sent) _ (fun s x => State.completeClose_far_sent s x) _ s

@[simp] theorem State.completeCloses_chan_manager (s : State) : (s.completeCloses).chan.manager = s.chan.manager := by
  unfold State.completeCloses; exact foldl_keeps (fun s : State => s.chan.manager) _ (fun s x => State.completeClose_chan_manager s x) _ s

@[simp] theorem State.completeCloses_chan_expected (s : State) : (s.completeCloses).chan.expected = s.chan.expected := by
  unfold State.completeCloses; exact foldl_keeps (fun s : State => s.chan.expected) _ (fun s x => State.completeClose_chan_expected s x) _ s

@[simp] theorem State.completeCloses_chan_stored (s : State) : (s.completeCloses).chan.stored = s.chan.stored := by
  unfold State.completeCloses; exact foldl_keeps (fun s : State => s.chan.stored) _ (fun s x => State.completeClose_chan_stored s x) _ s

@[simp] theorem State.completeCloses_chan_params (s : State) : (s.completeCloses).chan.params = s.chan.params := by
  unfold State.completeCloses; exact foldl_keeps (fun s : State => s.chan.params) _ (fun s x => State.completeClose_chan_params s x) _ s

/-! ## `State.judgeDrain` -/

/-- `State.judgeDrain` changes only bridge, far, chan, ctr. -/
theorem State.judgeDrain_frame (s : State) :
    s.judgeDrain =
      { s with
        bridge := (s.judgeDrain).bridge
        far := (s.judgeDrain).far
        chan := (s.judgeDrain).chan
        ctr := (s.judgeDrain).ctr } := by
  unfold State.judgeDrain
  split
  · split
    · rw [State.notice_frame]
    · rfl
  · rfl

@[simp] theorem State.judgeDrain_cache (s : State) : (s.judgeDrain).cache = s.cache :=
  (congrArg State.cache (State.judgeDrain_frame s) :)

@[simp] theorem State.judgeDrain_park (s : State) : (s.judgeDrain).park = s.park :=
  (congrArg State.park (State.judgeDrain_frame s) :)

@[simp] theorem State.judgeDrain_misses (s : State) : (s.judgeDrain).misses = s.misses :=
  (congrArg State.misses (State.judgeDrain_frame s) :)

@[simp] theorem State.judgeDrain_fences (s : State) : (s.judgeDrain).fences = s.fences :=
  (congrArg State.fences (State.judgeDrain_frame s) :)

@[simp] theorem State.judgeDrain_outs (s : State) : (s.judgeDrain).outs = s.outs :=
  (congrArg State.outs (State.judgeDrain_frame s) :)

@[simp] theorem State.judgeDrain_slots (s : State) : (s.judgeDrain).slots = s.slots :=
  (congrArg State.slots (State.judgeDrain_frame s) :)

@[simp] theorem State.judgeDrain_ctxs (s : State) : (s.judgeDrain).ctxs = s.ctxs :=
  (congrArg State.ctxs (State.judgeDrain_frame s) :)

@[simp] theorem State.judgeDrain_cause (s : State) : (s.judgeDrain).cause = s.cause :=
  (congrArg State.cause (State.judgeDrain_frame s) :)

@[simp] theorem State.judgeDrain_log (s : State) : (s.judgeDrain).log = s.log :=
  (congrArg State.log (State.judgeDrain_frame s) :)

@[simp] theorem State.judgeDrain_time (s : State) : (s.judgeDrain).time = s.time :=
  (congrArg State.time (State.judgeDrain_frame s) :)

@[simp] theorem State.judgeDrain_near (s : State) : (s.judgeDrain).near = s.near :=
  (congrArg State.near (State.judgeDrain_frame s) :)

@[simp] theorem State.judgeDrain_node (s : State) : (s.judgeDrain).node = s.node :=
  (congrArg State.node (State.judgeDrain_frame s) :)

@[simp] theorem State.judgeDrain_managerStrap (s : State) : (s.judgeDrain).managerStrap = s.managerStrap :=
  (congrArg State.managerStrap (State.judgeDrain_frame s) :)

@[simp] theorem State.judgeDrain_powered (s : State) : (s.judgeDrain).powered = s.powered :=
  (congrArg State.powered (State.judgeDrain_frame s) :)

@[simp] theorem State.judgeDrain_moment (s : State) : (s.judgeDrain).moment = s.moment :=
  (congrArg State.moment (State.judgeDrain_frame s) :)

@[simp] theorem State.judgeDrain_pending (s : State) : (s.judgeDrain).pending = s.pending :=
  (congrArg State.pending (State.judgeDrain_frame s) :)

@[simp] theorem State.judgeDrain_far_up (s : State) : (s.judgeDrain).far.up = s.far.up := by
  unfold State.judgeDrain; split
  · split <;> simp
  · rfl

@[simp] theorem State.judgeDrain_far_sent (s : State) : (s.judgeDrain).far.sent = s.far.sent := by
  unfold State.judgeDrain; split
  · split <;> simp
  · rfl

@[simp] theorem State.judgeDrain_chan_manager (s : State) : (s.judgeDrain).chan.manager = s.chan.manager := by
  unfold State.judgeDrain; split
  · split <;> simp
  · rfl

@[simp] theorem State.judgeDrain_chan_expected (s : State) : (s.judgeDrain).chan.expected = s.chan.expected := by
  unfold State.judgeDrain; split
  · split <;> simp
  · rfl

@[simp] theorem State.judgeDrain_chan_stored (s : State) : (s.judgeDrain).chan.stored = s.chan.stored := by
  unfold State.judgeDrain; split
  · split <;> simp
  · rfl

@[simp] theorem State.judgeDrain_chan_params (s : State) : (s.judgeDrain).chan.params = s.chan.params := by
  unfold State.judgeDrain; split
  · split <;> simp
  · rfl

/-! ## The arbiter -/

/-- The head of the ready list, and what stands before it and behind it (R72). -/
theorem splitReady_some {l before behind : List ParkRecord} {r : ParkRecord} {x : Translation} {m : List SlotId}
    (h : splitReady l = some (before, r, x, m, behind)) :
    l = before ++ r :: behind ∧ r.state = .ready x m ∧ ∀ q ∈ before, q.isReady = false := by
  induction l generalizing before with
  | nil => simp [splitReady] at h
  | cons q l ih =>
    unfold splitReady at h
    split at h
    · next hq => cases h; simp [hq]
    · next hq =>
      split at h
      · next hs =>
        cases h
        obtain ⟨h1, h2, h3⟩ := ih hs
        refine ⟨by simp [h1], h2, ?_⟩
        intro q' hq'
        rcases List.mem_cons.mp hq' with rfl | hq'
        · cases hst : q'.state with
          | ready x m => exact absurd hst (hq x m)
          | waiting i => simp [ParkRecord.isReady, hst]
          | unnoticed => simp [ParkRecord.isReady, hst]
        · exact h3 q' hq'
      · cases h

/-- No head exactly when nothing is READY (R72). -/
theorem splitReady_none {l : List ParkRecord} : splitReady l = none ↔ l.any ParkRecord.isReady = false := by
  induction l with
  | nil => simp [splitReady]
  | cons q l ih =>
    unfold splitReady
    cases hst : q.state with
    | ready x m => simp [ParkRecord.isReady, hst]
    | waiting i =>
      have hq : q.isReady = false := by simp [ParkRecord.isReady, hst]
      cases hs : splitReady l with
      | none => simp [hq, ih.mp hs]
      | some p => simp only [List.any_cons, hq, Bool.false_or]; rw [← ih]; simp [hs]
    | unnoticed =>
      have hq : q.isReady = false := by simp [ParkRecord.isReady, hst]
      cases hs : splitReady l with
      | none => simp [hq, ih.mp hs]
      | some p => simp only [List.any_cons, hq, Bool.false_or]; rw [← ih]; simp [hs]

/-- What a forward of the head can be (R72, R75, R76). -/
theorem State.forwardHead_cases {s s' : State} (h : s.forwardHead = some s') :
    ∃ before r x m behind, s.park = before ++ r :: behind ∧ r.state = .ready x m ∧
      (∀ q ∈ before, q.isReady = false) ∧ s.far.up = true ∧
      ((r.kind = .post ∧
          s' = (({ s with park := before ++ behind }.sendFar
            (requestFrame s.node r.kind r.mode r.len r.payload x 0)).completeSlots).endHold r.held r.agent) ∨
        ∃ t, r.kind ≠ .post ∧ s.freeTag = some t ∧
          s' = { s with
            park := before ++ behind
            outs := s.outs.set t
              (some (newOutEntry s r.agent r.tag r.kind r.len r.ctx r.page x m r.held)) }.sendFar
            (requestFrame s.node r.kind r.mode r.len r.payload x (byteOf t.val))) := by
  unfold State.forwardHead at h
  split at h
  · cases h
  · next before r x m behind hs =>
    obtain ⟨h1, h2, h3⟩ := splitReady_some hs
    refine ⟨before, r, x, m, behind, h1, h2, h3, ?_⟩
    split at h
    · cases h
    · next hu =>
      refine ⟨by simpa using hu, ?_⟩
      split at h
      · next hk => cases h; exact .inl ⟨hk, rfl⟩
      · next hk =>
        split at h
        · cases h
        · next t ht => cases h; exact .inr ⟨t, hk, ht, rfl⟩

/-- A forward takes one record out of the park buffer. -/
theorem State.forwardHead_length {s s' : State} (h : s.forwardHead = some s') :
    s'.park.length + 1 = s.park.length := by
  obtain ⟨b, r, x, m, a, h1, -, -, -, ⟨-, rfl⟩ | ⟨t, -, -, rfl⟩⟩ := State.forwardHead_cases h <;>
    simp [h1] <;> omega

/-- What a forward keeps, whatever of the state it is. -/
theorem State.forwardHead_keeps {β : Type} (g : State → β)
    (hb : ∀ (s : State) (p : List ParkRecord) (o : Vector (Option OutEntry) 128), g { s with park := p, outs := o } = g s)
    (hf : ∀ (s : State) (f : Frame), g (s.sendFar f) = g s) (hc : ∀ s : State, g s.completeSlots = g s)
    (hh : ∀ (s : State) (b : Bool) (a : Agent), g (s.endHold b a) = g s)
    {s s' : State} (h : s.forwardHead = some s') : g s' = g s := by
  obtain ⟨b, r, x, m, a, h1, -, -, -, ⟨-, rfl⟩ | ⟨t, -, -, rfl⟩⟩ := State.forwardHead_cases h
  · rw [hh, hc, hf]; exact hb s _ s.outs
  · rw [hf]; exact hb s _ _

/-- What a forward keeps, the arbiter's run keeps. -/
theorem forwardUpTo_keeps {β : Type} (g : State → β) (hf : ∀ {s s' : State}, s.forwardHead = some s' → g s' = g s)
    (n : Nat) (s : State) : g (forwardUpTo n s) = g s := by
  induction n generalizing s with
  | zero => rfl
  | succ n ih =>
    unfold forwardUpTo
    split
    · next s' h => exact (ih s').trans (hf h)
    · rfl

theorem forwardUpTo_settles (n : Nat) (s : State) (h : s.park.length ≤ n) : (forwardUpTo n s).forwardHead = none := by
  induction n generalizing s with
  | zero =>
    have : s.park = [] := List.eq_nil_of_length_eq_zero (by omega)
    simp [forwardUpTo, State.forwardHead, splitReady, this]
  | succ n ih =>
    unfold forwardUpTo
    split
    · next s' hs => exact ih s' (by have := State.forwardHead_length hs; omega)
    · assumption

/-- A property that every forward carries over holds after the arbiter's run. -/
theorem State.runArbiter_induct (P : State → Prop) (hf : ∀ {s s' : State}, s.forwardHead = some s' → P s → P s')
    (s : State) (hs : P s) : P s.runArbiter := by
  unfold State.runArbiter
  generalize s.park.length = n
  induction n generalizing s with
  | zero => exact hs
  | succ n ih =>
    unfold forwardUpTo
    split
    · next s' h => exact ih s' (hf h hs)
    · exact hs

@[simp] theorem State.runArbiter_cache (s : State) : s.runArbiter.cache = s.cache :=
  forwardUpTo_keeps State.cache (State.forwardHead_keeps _ (fun _ _ _ => rfl) State.sendFar_cache State.completeSlots_cache State.endHold_cache) _ s

@[simp] theorem State.runArbiter_misses (s : State) : s.runArbiter.misses = s.misses :=
  forwardUpTo_keeps State.misses (State.forwardHead_keeps _ (fun _ _ _ => rfl) State.sendFar_misses State.completeSlots_misses State.endHold_misses) _ s

@[simp] theorem State.runArbiter_ctxs (s : State) : s.runArbiter.ctxs = s.ctxs :=
  forwardUpTo_keeps State.ctxs (State.forwardHead_keeps _ (fun _ _ _ => rfl) State.sendFar_ctxs State.completeSlots_ctxs State.endHold_ctxs) _ s

@[simp] theorem State.runArbiter_bridge (s : State) : s.runArbiter.bridge = s.bridge :=
  forwardUpTo_keeps State.bridge (State.forwardHead_keeps _ (fun _ _ _ => rfl) State.sendFar_bridge State.completeSlots_bridge State.endHold_bridge) _ s

@[simp] theorem State.runArbiter_cause (s : State) : s.runArbiter.cause = s.cause :=
  forwardUpTo_keeps State.cause (State.forwardHead_keeps _ (fun _ _ _ => rfl) State.sendFar_cause State.completeSlots_cause State.endHold_cause) _ s

@[simp] theorem State.runArbiter_log (s : State) : s.runArbiter.log = s.log :=
  forwardUpTo_keeps State.log (State.forwardHead_keeps _ (fun _ _ _ => rfl) State.sendFar_log State.completeSlots_log State.endHold_log) _ s

@[simp] theorem State.runArbiter_time (s : State) : s.runArbiter.time = s.time :=
  forwardUpTo_keeps State.time (State.forwardHead_keeps _ (fun _ _ _ => rfl) State.sendFar_time State.completeSlots_time State.endHold_time) _ s

@[simp] theorem State.runArbiter_node (s : State) : s.runArbiter.node = s.node :=
  forwardUpTo_keeps State.node (State.forwardHead_keeps _ (fun _ _ _ => rfl) State.sendFar_node State.completeSlots_node State.endHold_node) _ s

@[simp] theorem State.runArbiter_managerStrap (s : State) : s.runArbiter.managerStrap = s.managerStrap :=
  forwardUpTo_keeps State.managerStrap (State.forwardHead_keeps _ (fun _ _ _ => rfl) State.sendFar_managerStrap State.completeSlots_managerStrap State.endHold_managerStrap) _ s

@[simp] theorem State.runArbiter_powered (s : State) : s.runArbiter.powered = s.powered :=
  forwardUpTo_keeps State.powered (State.forwardHead_keeps _ (fun _ _ _ => rfl) State.sendFar_powered State.completeSlots_powered State.endHold_powered) _ s

@[simp] theorem State.runArbiter_moment (s : State) : s.runArbiter.moment = s.moment :=
  forwardUpTo_keeps State.moment (State.forwardHead_keeps _ (fun _ _ _ => rfl) State.sendFar_moment State.completeSlots_moment State.endHold_moment) _ s

@[simp] theorem State.runArbiter_pending (s : State) : s.runArbiter.pending = s.pending :=
  forwardUpTo_keeps State.pending (State.forwardHead_keeps _ (fun _ _ _ => rfl) State.sendFar_pending State.completeSlots_pending State.endHold_pending) _ s

@[simp] theorem State.runArbiter_near_up (s : State) : s.runArbiter.near.up = s.near.up :=
  forwardUpTo_keeps (fun s => s.near.up) (State.forwardHead_keeps (fun s : State => s.near.up) (fun _ _ _ => rfl) (by intros; simp) (by intros; simp)
    (by intros; simp)) _ s

@[simp] theorem State.runArbiter_near_sent (s : State) : s.runArbiter.near.sent = s.near.sent :=
  forwardUpTo_keeps (fun s => s.near.sent) (State.forwardHead_keeps (fun s : State => s.near.sent) (fun _ _ _ => rfl) (by intros; simp) (by intros; simp)
    (by intros; simp)) _ s

@[simp] theorem State.runArbiter_far_up (s : State) : s.runArbiter.far.up = s.far.up :=
  forwardUpTo_keeps (fun s => s.far.up) (State.forwardHead_keeps (fun s : State => s.far.up) (fun _ _ _ => rfl) (by intros; simp) (by intros; simp)
    (by intros; simp)) _ s

@[simp] theorem State.runArbiter_far_sent (s : State) : s.runArbiter.far.sent = s.far.sent :=
  forwardUpTo_keeps (fun s => s.far.sent) (State.forwardHead_keeps (fun s : State => s.far.sent) (fun _ _ _ => rfl) (by intros; simp) (by intros; simp)
    (by intros; simp)) _ s

@[simp] theorem State.runArbiter_chan_manager (s : State) : s.runArbiter.chan.manager = s.chan.manager :=
  forwardUpTo_keeps (fun s => s.chan.manager) (State.forwardHead_keeps (fun s : State => s.chan.manager) (fun _ _ _ => rfl) (by intros; simp) (by intros; simp)
    (by intros; simp)) _ s

@[simp] theorem State.runArbiter_chan_expected (s : State) : s.runArbiter.chan.expected = s.chan.expected :=
  forwardUpTo_keeps (fun s => s.chan.expected) (State.forwardHead_keeps (fun s : State => s.chan.expected) (fun _ _ _ => rfl) (by intros; simp) (by intros; simp)
    (by intros; simp)) _ s

@[simp] theorem State.runArbiter_chan_stored (s : State) : s.runArbiter.chan.stored = s.chan.stored :=
  forwardUpTo_keeps (fun s => s.chan.stored) (State.forwardHead_keeps (fun s : State => s.chan.stored) (fun _ _ _ => rfl) (by intros; simp) (by intros; simp)
    (by intros; simp)) _ s

@[simp] theorem State.runArbiter_chan_params (s : State) : s.runArbiter.chan.params = s.chan.params :=
  forwardUpTo_keeps (fun s => s.chan.params) (State.forwardHead_keeps (fun s : State => s.chan.params) (fun _ _ _ => rfl) (by intros; simp) (by intros; simp)
    (by intros; simp)) _ s

/-! ## `State.sendMissCopy` -/

/-- `State.sendMissCopy` changes only far, chan, ctr. -/
theorem State.sendMissCopy_frame (s : State) (id : MissId) (n : Nat) :
    s.sendMissCopy id n =
      { s with
        far := (s.sendMissCopy id n).far
        chan := (s.sendMissCopy id n).chan
        ctr := (s.sendMissCopy id n).ctr } := by
  unfold State.sendMissCopy
  split
  · exact State.notice_frame s _ _
  · rfl

@[simp] theorem State.sendMissCopy_cache (s : State) (id : MissId) (n : Nat) : (s.sendMissCopy id n).cache = s.cache :=
  (congrArg State.cache (State.sendMissCopy_frame s id n) :)

@[simp] theorem State.sendMissCopy_park (s : State) (id : MissId) (n : Nat) : (s.sendMissCopy id n).park = s.park :=
  (congrArg State.park (State.sendMissCopy_frame s id n) :)

@[simp] theorem State.sendMissCopy_misses (s : State) (id : MissId) (n : Nat) : (s.sendMissCopy id n).misses = s.misses :=
  (congrArg State.misses (State.sendMissCopy_frame s id n) :)

@[simp] theorem State.sendMissCopy_fences (s : State) (id : MissId) (n : Nat) : (s.sendMissCopy id n).fences = s.fences :=
  (congrArg State.fences (State.sendMissCopy_frame s id n) :)

@[simp] theorem State.sendMissCopy_outs (s : State) (id : MissId) (n : Nat) : (s.sendMissCopy id n).outs = s.outs :=
  (congrArg State.outs (State.sendMissCopy_frame s id n) :)

@[simp] theorem State.sendMissCopy_slots (s : State) (id : MissId) (n : Nat) : (s.sendMissCopy id n).slots = s.slots :=
  (congrArg State.slots (State.sendMissCopy_frame s id n) :)

@[simp] theorem State.sendMissCopy_ctxs (s : State) (id : MissId) (n : Nat) : (s.sendMissCopy id n).ctxs = s.ctxs :=
  (congrArg State.ctxs (State.sendMissCopy_frame s id n) :)

@[simp] theorem State.sendMissCopy_bridge (s : State) (id : MissId) (n : Nat) : (s.sendMissCopy id n).bridge = s.bridge :=
  (congrArg State.bridge (State.sendMissCopy_frame s id n) :)

@[simp] theorem State.sendMissCopy_cause (s : State) (id : MissId) (n : Nat) : (s.sendMissCopy id n).cause = s.cause :=
  (congrArg State.cause (State.sendMissCopy_frame s id n) :)

@[simp] theorem State.sendMissCopy_log (s : State) (id : MissId) (n : Nat) : (s.sendMissCopy id n).log = s.log :=
  (congrArg State.log (State.sendMissCopy_frame s id n) :)

@[simp] theorem State.sendMissCopy_time (s : State) (id : MissId) (n : Nat) : (s.sendMissCopy id n).time = s.time :=
  (congrArg State.time (State.sendMissCopy_frame s id n) :)

@[simp] theorem State.sendMissCopy_near (s : State) (id : MissId) (n : Nat) : (s.sendMissCopy id n).near = s.near :=
  (congrArg State.near (State.sendMissCopy_frame s id n) :)

@[simp] theorem State.sendMissCopy_node (s : State) (id : MissId) (n : Nat) : (s.sendMissCopy id n).node = s.node :=
  (congrArg State.node (State.sendMissCopy_frame s id n) :)

@[simp] theorem State.sendMissCopy_managerStrap (s : State) (id : MissId) (n : Nat) : (s.sendMissCopy id n).managerStrap = s.managerStrap :=
  (congrArg State.managerStrap (State.sendMissCopy_frame s id n) :)

@[simp] theorem State.sendMissCopy_powered (s : State) (id : MissId) (n : Nat) : (s.sendMissCopy id n).powered = s.powered :=
  (congrArg State.powered (State.sendMissCopy_frame s id n) :)

@[simp] theorem State.sendMissCopy_moment (s : State) (id : MissId) (n : Nat) : (s.sendMissCopy id n).moment = s.moment :=
  (congrArg State.moment (State.sendMissCopy_frame s id n) :)

@[simp] theorem State.sendMissCopy_pending (s : State) (id : MissId) (n : Nat) : (s.sendMissCopy id n).pending = s.pending :=
  (congrArg State.pending (State.sendMissCopy_frame s id n) :)

@[simp] theorem State.sendMissCopy_far_up (s : State) (id : MissId) (n : Nat) : (s.sendMissCopy id n).far.up = s.far.up := by
  unfold State.sendMissCopy; split <;> simp

@[simp] theorem State.sendMissCopy_far_sent (s : State) (id : MissId) (n : Nat) : (s.sendMissCopy id n).far.sent = s.far.sent := by
  unfold State.sendMissCopy; split <;> simp

@[simp] theorem State.sendMissCopy_chan_manager (s : State) (id : MissId) (n : Nat) : (s.sendMissCopy id n).chan.manager = s.chan.manager := by
  unfold State.sendMissCopy; split <;> simp

@[simp] theorem State.sendMissCopy_chan_expected (s : State) (id : MissId) (n : Nat) : (s.sendMissCopy id n).chan.expected = s.chan.expected := by
  unfold State.sendMissCopy; split <;> simp

@[simp] theorem State.sendMissCopy_chan_stored (s : State) (id : MissId) (n : Nat) : (s.sendMissCopy id n).chan.stored = s.chan.stored := by
  unfold State.sendMissCopy; split <;> simp

@[simp] theorem State.sendMissCopy_chan_params (s : State) (id : MissId) (n : Nat) : (s.sendMissCopy id n).chan.params = s.chan.params := by
  unfold State.sendMissCopy; split <;> simp

/-! ## `State.offer` -/

/-- `State.offer` changes only park, misses, far, chan, ctr. -/
theorem State.offer_frame (s : State) (id : MissId) :
    s.offer id =
      { s with
        park := (s.offer id).park
        misses := (s.offer id).misses
        far := (s.offer id).far
        chan := (s.offer id).chan
        ctr := (s.offer id).ctr } := by
  unfold State.offer
  split
  · rw [State.sendMissCopy_frame]; rfl
  · rfl

@[simp] theorem State.offer_cache (s : State) (id : MissId) : (s.offer id).cache = s.cache :=
  (congrArg State.cache (State.offer_frame s id) :)

@[simp] theorem State.offer_fences (s : State) (id : MissId) : (s.offer id).fences = s.fences :=
  (congrArg State.fences (State.offer_frame s id) :)

@[simp] theorem State.offer_outs (s : State) (id : MissId) : (s.offer id).outs = s.outs :=
  (congrArg State.outs (State.offer_frame s id) :)

@[simp] theorem State.offer_slots (s : State) (id : MissId) : (s.offer id).slots = s.slots :=
  (congrArg State.slots (State.offer_frame s id) :)

@[simp] theorem State.offer_ctxs (s : State) (id : MissId) : (s.offer id).ctxs = s.ctxs :=
  (congrArg State.ctxs (State.offer_frame s id) :)

@[simp] theorem State.offer_bridge (s : State) (id : MissId) : (s.offer id).bridge = s.bridge :=
  (congrArg State.bridge (State.offer_frame s id) :)

@[simp] theorem State.offer_cause (s : State) (id : MissId) : (s.offer id).cause = s.cause :=
  (congrArg State.cause (State.offer_frame s id) :)

@[simp] theorem State.offer_log (s : State) (id : MissId) : (s.offer id).log = s.log :=
  (congrArg State.log (State.offer_frame s id) :)

@[simp] theorem State.offer_time (s : State) (id : MissId) : (s.offer id).time = s.time :=
  (congrArg State.time (State.offer_frame s id) :)

@[simp] theorem State.offer_near (s : State) (id : MissId) : (s.offer id).near = s.near :=
  (congrArg State.near (State.offer_frame s id) :)

@[simp] theorem State.offer_node (s : State) (id : MissId) : (s.offer id).node = s.node :=
  (congrArg State.node (State.offer_frame s id) :)

@[simp] theorem State.offer_managerStrap (s : State) (id : MissId) : (s.offer id).managerStrap = s.managerStrap :=
  (congrArg State.managerStrap (State.offer_frame s id) :)

@[simp] theorem State.offer_powered (s : State) (id : MissId) : (s.offer id).powered = s.powered :=
  (congrArg State.powered (State.offer_frame s id) :)

@[simp] theorem State.offer_moment (s : State) (id : MissId) : (s.offer id).moment = s.moment :=
  (congrArg State.moment (State.offer_frame s id) :)

@[simp] theorem State.offer_pending (s : State) (id : MissId) : (s.offer id).pending = s.pending :=
  (congrArg State.pending (State.offer_frame s id) :)

@[simp] theorem State.offer_far_up (s : State) (id : MissId) : (s.offer id).far.up = s.far.up := by
  unfold State.offer; split <;> simp

@[simp] theorem State.offer_far_sent (s : State) (id : MissId) : (s.offer id).far.sent = s.far.sent := by
  unfold State.offer; split <;> simp

@[simp] theorem State.offer_chan_manager (s : State) (id : MissId) : (s.offer id).chan.manager = s.chan.manager := by
  unfold State.offer; split <;> simp

@[simp] theorem State.offer_chan_expected (s : State) (id : MissId) : (s.offer id).chan.expected = s.chan.expected := by
  unfold State.offer; split <;> simp

@[simp] theorem State.offer_chan_stored (s : State) (id : MissId) : (s.offer id).chan.stored = s.chan.stored := by
  unfold State.offer; split <;> simp

@[simp] theorem State.offer_chan_params (s : State) (id : MissId) : (s.offer id).chan.params = s.chan.params := by
  unfold State.offer; split <;> simp

/-! ## `State.offerAll` -/

@[simp] theorem State.offerAll_cache (s : State) (ids : List MissId) : (s.offerAll ids).cache = s.cache :=
  foldl_keeps State.cache _ (fun s x => State.offer_cache s x) _ s

@[simp] theorem State.offerAll_fences (s : State) (ids : List MissId) : (s.offerAll ids).fences = s.fences :=
  foldl_keeps State.fences _ (fun s x => State.offer_fences s x) _ s

@[simp] theorem State.offerAll_outs (s : State) (ids : List MissId) : (s.offerAll ids).outs = s.outs :=
  foldl_keeps State.outs _ (fun s x => State.offer_outs s x) _ s

@[simp] theorem State.offerAll_slots (s : State) (ids : List MissId) : (s.offerAll ids).slots = s.slots :=
  foldl_keeps State.slots _ (fun s x => State.offer_slots s x) _ s

@[simp] theorem State.offerAll_ctxs (s : State) (ids : List MissId) : (s.offerAll ids).ctxs = s.ctxs :=
  foldl_keeps State.ctxs _ (fun s x => State.offer_ctxs s x) _ s

@[simp] theorem State.offerAll_bridge (s : State) (ids : List MissId) : (s.offerAll ids).bridge = s.bridge :=
  foldl_keeps State.bridge _ (fun s x => State.offer_bridge s x) _ s

@[simp] theorem State.offerAll_cause (s : State) (ids : List MissId) : (s.offerAll ids).cause = s.cause :=
  foldl_keeps State.cause _ (fun s x => State.offer_cause s x) _ s

@[simp] theorem State.offerAll_log (s : State) (ids : List MissId) : (s.offerAll ids).log = s.log :=
  foldl_keeps State.log _ (fun s x => State.offer_log s x) _ s

@[simp] theorem State.offerAll_time (s : State) (ids : List MissId) : (s.offerAll ids).time = s.time :=
  foldl_keeps State.time _ (fun s x => State.offer_time s x) _ s

@[simp] theorem State.offerAll_near (s : State) (ids : List MissId) : (s.offerAll ids).near = s.near :=
  foldl_keeps State.near _ (fun s x => State.offer_near s x) _ s

@[simp] theorem State.offerAll_node (s : State) (ids : List MissId) : (s.offerAll ids).node = s.node :=
  foldl_keeps State.node _ (fun s x => State.offer_node s x) _ s

@[simp] theorem State.offerAll_managerStrap (s : State) (ids : List MissId) : (s.offerAll ids).managerStrap = s.managerStrap :=
  foldl_keeps State.managerStrap _ (fun s x => State.offer_managerStrap s x) _ s

@[simp] theorem State.offerAll_powered (s : State) (ids : List MissId) : (s.offerAll ids).powered = s.powered :=
  foldl_keeps State.powered _ (fun s x => State.offer_powered s x) _ s

@[simp] theorem State.offerAll_moment (s : State) (ids : List MissId) : (s.offerAll ids).moment = s.moment :=
  foldl_keeps State.moment _ (fun s x => State.offer_moment s x) _ s

@[simp] theorem State.offerAll_pending (s : State) (ids : List MissId) : (s.offerAll ids).pending = s.pending :=
  foldl_keeps State.pending _ (fun s x => State.offer_pending s x) _ s

@[simp] theorem State.offerAll_far_up (s : State) (ids : List MissId) : (s.offerAll ids).far.up = s.far.up := by
  unfold State.offerAll; exact foldl_keeps (fun s : State => s.far.up) _ (fun s x => State.offer_far_up s x) _ s

@[simp] theorem State.offerAll_far_sent (s : State) (ids : List MissId) : (s.offerAll ids).far.sent = s.far.sent := by
  unfold State.offerAll; exact foldl_keeps (fun s : State => s.far.sent) _ (fun s x => State.offer_far_sent s x) _ s

@[simp] theorem State.offerAll_chan_manager (s : State) (ids : List MissId) : (s.offerAll ids).chan.manager = s.chan.manager := by
  unfold State.offerAll; exact foldl_keeps (fun s : State => s.chan.manager) _ (fun s x => State.offer_chan_manager s x) _ s

@[simp] theorem State.offerAll_chan_expected (s : State) (ids : List MissId) : (s.offerAll ids).chan.expected = s.chan.expected := by
  unfold State.offerAll; exact foldl_keeps (fun s : State => s.chan.expected) _ (fun s x => State.offer_chan_expected s x) _ s

@[simp] theorem State.offerAll_chan_stored (s : State) (ids : List MissId) : (s.offerAll ids).chan.stored = s.chan.stored := by
  unfold State.offerAll; exact foldl_keeps (fun s : State => s.chan.stored) _ (fun s x => State.offer_chan_stored s x) _ s

@[simp] theorem State.offerAll_chan_params (s : State) (ids : List MissId) : (s.offerAll ids).chan.params = s.chan.params := by
  unfold State.offerAll; exact foldl_keeps (fun s : State => s.chan.params) _ (fun s x => State.offer_chan_params s x) _ s

/-! ## `State.freeMisses` -/

@[simp] theorem State.freeMisses_cache (s : State) (ids : List MissId) : (s.freeMisses ids).cache = s.cache :=
  foldl_keeps State.cache _ (fun s x => State.freeMiss_cache s x) _ s

@[simp] theorem State.freeMisses_park (s : State) (ids : List MissId) : (s.freeMisses ids).park = s.park :=
  foldl_keeps State.park _ (fun s x => State.freeMiss_park s x) _ s

@[simp] theorem State.freeMisses_fences (s : State) (ids : List MissId) : (s.freeMisses ids).fences = s.fences :=
  foldl_keeps State.fences _ (fun s x => State.freeMiss_fences s x) _ s

@[simp] theorem State.freeMisses_outs (s : State) (ids : List MissId) : (s.freeMisses ids).outs = s.outs :=
  foldl_keeps State.outs _ (fun s x => State.freeMiss_outs s x) _ s

@[simp] theorem State.freeMisses_slots (s : State) (ids : List MissId) : (s.freeMisses ids).slots = s.slots :=
  foldl_keeps State.slots _ (fun s x => State.freeMiss_slots s x) _ s

@[simp] theorem State.freeMisses_ctxs (s : State) (ids : List MissId) : (s.freeMisses ids).ctxs = s.ctxs :=
  foldl_keeps State.ctxs _ (fun s x => State.freeMiss_ctxs s x) _ s

@[simp] theorem State.freeMisses_bridge (s : State) (ids : List MissId) : (s.freeMisses ids).bridge = s.bridge :=
  foldl_keeps State.bridge _ (fun s x => State.freeMiss_bridge s x) _ s

@[simp] theorem State.freeMisses_cause (s : State) (ids : List MissId) : (s.freeMisses ids).cause = s.cause :=
  foldl_keeps State.cause _ (fun s x => State.freeMiss_cause s x) _ s

@[simp] theorem State.freeMisses_chan (s : State) (ids : List MissId) : (s.freeMisses ids).chan = s.chan :=
  foldl_keeps State.chan _ (fun s x => State.freeMiss_chan s x) _ s

@[simp] theorem State.freeMisses_log (s : State) (ids : List MissId) : (s.freeMisses ids).log = s.log :=
  foldl_keeps State.log _ (fun s x => State.freeMiss_log s x) _ s

@[simp] theorem State.freeMisses_ctr (s : State) (ids : List MissId) : (s.freeMisses ids).ctr = s.ctr :=
  foldl_keeps State.ctr _ (fun s x => State.freeMiss_ctr s x) _ s

@[simp] theorem State.freeMisses_time (s : State) (ids : List MissId) : (s.freeMisses ids).time = s.time :=
  foldl_keeps State.time _ (fun s x => State.freeMiss_time s x) _ s

@[simp] theorem State.freeMisses_near (s : State) (ids : List MissId) : (s.freeMisses ids).near = s.near :=
  foldl_keeps State.near _ (fun s x => State.freeMiss_near s x) _ s

@[simp] theorem State.freeMisses_far (s : State) (ids : List MissId) : (s.freeMisses ids).far = s.far :=
  foldl_keeps State.far _ (fun s x => State.freeMiss_far s x) _ s

@[simp] theorem State.freeMisses_node (s : State) (ids : List MissId) : (s.freeMisses ids).node = s.node :=
  foldl_keeps State.node _ (fun s x => State.freeMiss_node s x) _ s

@[simp] theorem State.freeMisses_managerStrap (s : State) (ids : List MissId) : (s.freeMisses ids).managerStrap = s.managerStrap :=
  foldl_keeps State.managerStrap _ (fun s x => State.freeMiss_managerStrap s x) _ s

@[simp] theorem State.freeMisses_powered (s : State) (ids : List MissId) : (s.freeMisses ids).powered = s.powered :=
  foldl_keeps State.powered _ (fun s x => State.freeMiss_powered s x) _ s

@[simp] theorem State.freeMisses_moment (s : State) (ids : List MissId) : (s.freeMisses ids).moment = s.moment :=
  foldl_keeps State.moment _ (fun s x => State.freeMiss_moment s x) _ s

@[simp] theorem State.freeMisses_pending (s : State) (ids : List MissId) : (s.freeMisses ids).pending = s.pending :=
  foldl_keeps State.pending _ (fun s x => State.freeMiss_pending s x) _ s

/-! ## `State.reply` -/

/-- `State.reply` changes only far, chan. -/
theorem State.reply_frame (s : State) (f : Frame) (k : BitVec 6) (b : List Byte) :
    s.reply f k b =
      { s with
        far := (s.reply f k b).far
        chan := (s.reply f k b).chan } := by
  unfold State.reply; dsimp only; rw [State.sendFar_frame]

@[simp] theorem State.reply_cache (s : State) (f : Frame) (k : BitVec 6) (b : List Byte) : (s.reply f k b).cache = s.cache :=
  (congrArg State.cache (State.reply_frame s f k b) :)

@[simp] theorem State.reply_park (s : State) (f : Frame) (k : BitVec 6) (b : List Byte) : (s.reply f k b).park = s.park :=
  (congrArg State.park (State.reply_frame s f k b) :)

@[simp] theorem State.reply_misses (s : State) (f : Frame) (k : BitVec 6) (b : List Byte) : (s.reply f k b).misses = s.misses :=
  (congrArg State.misses (State.reply_frame s f k b) :)

@[simp] theorem State.reply_fences (s : State) (f : Frame) (k : BitVec 6) (b : List Byte) : (s.reply f k b).fences = s.fences :=
  (congrArg State.fences (State.reply_frame s f k b) :)

@[simp] theorem State.reply_outs (s : State) (f : Frame) (k : BitVec 6) (b : List Byte) : (s.reply f k b).outs = s.outs :=
  (congrArg State.outs (State.reply_frame s f k b) :)

@[simp] theorem State.reply_slots (s : State) (f : Frame) (k : BitVec 6) (b : List Byte) : (s.reply f k b).slots = s.slots :=
  (congrArg State.slots (State.reply_frame s f k b) :)

@[simp] theorem State.reply_ctxs (s : State) (f : Frame) (k : BitVec 6) (b : List Byte) : (s.reply f k b).ctxs = s.ctxs :=
  (congrArg State.ctxs (State.reply_frame s f k b) :)

@[simp] theorem State.reply_bridge (s : State) (f : Frame) (k : BitVec 6) (b : List Byte) : (s.reply f k b).bridge = s.bridge :=
  (congrArg State.bridge (State.reply_frame s f k b) :)

@[simp] theorem State.reply_cause (s : State) (f : Frame) (k : BitVec 6) (b : List Byte) : (s.reply f k b).cause = s.cause :=
  (congrArg State.cause (State.reply_frame s f k b) :)

@[simp] theorem State.reply_log (s : State) (f : Frame) (k : BitVec 6) (b : List Byte) : (s.reply f k b).log = s.log :=
  (congrArg State.log (State.reply_frame s f k b) :)

@[simp] theorem State.reply_ctr (s : State) (f : Frame) (k : BitVec 6) (b : List Byte) : (s.reply f k b).ctr = s.ctr :=
  (congrArg State.ctr (State.reply_frame s f k b) :)

@[simp] theorem State.reply_time (s : State) (f : Frame) (k : BitVec 6) (b : List Byte) : (s.reply f k b).time = s.time :=
  (congrArg State.time (State.reply_frame s f k b) :)

@[simp] theorem State.reply_near (s : State) (f : Frame) (k : BitVec 6) (b : List Byte) : (s.reply f k b).near = s.near :=
  (congrArg State.near (State.reply_frame s f k b) :)

@[simp] theorem State.reply_node (s : State) (f : Frame) (k : BitVec 6) (b : List Byte) : (s.reply f k b).node = s.node :=
  (congrArg State.node (State.reply_frame s f k b) :)

@[simp] theorem State.reply_managerStrap (s : State) (f : Frame) (k : BitVec 6) (b : List Byte) : (s.reply f k b).managerStrap = s.managerStrap :=
  (congrArg State.managerStrap (State.reply_frame s f k b) :)

@[simp] theorem State.reply_powered (s : State) (f : Frame) (k : BitVec 6) (b : List Byte) : (s.reply f k b).powered = s.powered :=
  (congrArg State.powered (State.reply_frame s f k b) :)

@[simp] theorem State.reply_moment (s : State) (f : Frame) (k : BitVec 6) (b : List Byte) : (s.reply f k b).moment = s.moment :=
  (congrArg State.moment (State.reply_frame s f k b) :)

@[simp] theorem State.reply_pending (s : State) (f : Frame) (k : BitVec 6) (b : List Byte) : (s.reply f k b).pending = s.pending :=
  (congrArg State.pending (State.reply_frame s f k b) :)

@[simp] theorem State.reply_far_up (s : State) (f : Frame) (k : BitVec 6) (b : List Byte) : (s.reply f k b).far.up = s.far.up := by
  simp [State.reply]

@[simp] theorem State.reply_far_sent (s : State) (f : Frame) (k : BitVec 6) (b : List Byte) : (s.reply f k b).far.sent = s.far.sent := by
  simp [State.reply]

@[simp] theorem State.reply_chan_manager (s : State) (f : Frame) (k : BitVec 6) (b : List Byte) : (s.reply f k b).chan.manager = s.chan.manager := by
  simp [State.reply]

@[simp] theorem State.reply_chan_noticeSeq (s : State) (f : Frame) (k : BitVec 6) (b : List Byte) : (s.reply f k b).chan.noticeSeq = s.chan.noticeSeq := by
  simp [State.reply]

@[simp] theorem State.reply_chan_params (s : State) (f : Frame) (k : BitVec 6) (b : List Byte) : (s.reply f k b).chan.params = s.chan.params := by
  simp [State.reply]

/-! ## `State.ack` -/

/-- `State.ack` changes only far, chan. -/
theorem State.ack_frame (s : State) (f : Frame) (b : List Byte) :
    s.ack f b =
      { s with
        far := (s.ack f b).far
        chan := (s.ack f b).chan } := by
  exact State.reply_frame s f _ _

@[simp] theorem State.ack_cache (s : State) (f : Frame) (b : List Byte) : (s.ack f b).cache = s.cache :=
  (congrArg State.cache (State.ack_frame s f b) :)

@[simp] theorem State.ack_park (s : State) (f : Frame) (b : List Byte) : (s.ack f b).park = s.park :=
  (congrArg State.park (State.ack_frame s f b) :)

@[simp] theorem State.ack_misses (s : State) (f : Frame) (b : List Byte) : (s.ack f b).misses = s.misses :=
  (congrArg State.misses (State.ack_frame s f b) :)

@[simp] theorem State.ack_fences (s : State) (f : Frame) (b : List Byte) : (s.ack f b).fences = s.fences :=
  (congrArg State.fences (State.ack_frame s f b) :)

@[simp] theorem State.ack_outs (s : State) (f : Frame) (b : List Byte) : (s.ack f b).outs = s.outs :=
  (congrArg State.outs (State.ack_frame s f b) :)

@[simp] theorem State.ack_slots (s : State) (f : Frame) (b : List Byte) : (s.ack f b).slots = s.slots :=
  (congrArg State.slots (State.ack_frame s f b) :)

@[simp] theorem State.ack_ctxs (s : State) (f : Frame) (b : List Byte) : (s.ack f b).ctxs = s.ctxs :=
  (congrArg State.ctxs (State.ack_frame s f b) :)

@[simp] theorem State.ack_bridge (s : State) (f : Frame) (b : List Byte) : (s.ack f b).bridge = s.bridge :=
  (congrArg State.bridge (State.ack_frame s f b) :)

@[simp] theorem State.ack_cause (s : State) (f : Frame) (b : List Byte) : (s.ack f b).cause = s.cause :=
  (congrArg State.cause (State.ack_frame s f b) :)

@[simp] theorem State.ack_log (s : State) (f : Frame) (b : List Byte) : (s.ack f b).log = s.log :=
  (congrArg State.log (State.ack_frame s f b) :)

@[simp] theorem State.ack_ctr (s : State) (f : Frame) (b : List Byte) : (s.ack f b).ctr = s.ctr :=
  (congrArg State.ctr (State.ack_frame s f b) :)

@[simp] theorem State.ack_time (s : State) (f : Frame) (b : List Byte) : (s.ack f b).time = s.time :=
  (congrArg State.time (State.ack_frame s f b) :)

@[simp] theorem State.ack_near (s : State) (f : Frame) (b : List Byte) : (s.ack f b).near = s.near :=
  (congrArg State.near (State.ack_frame s f b) :)

@[simp] theorem State.ack_node (s : State) (f : Frame) (b : List Byte) : (s.ack f b).node = s.node :=
  (congrArg State.node (State.ack_frame s f b) :)

@[simp] theorem State.ack_managerStrap (s : State) (f : Frame) (b : List Byte) : (s.ack f b).managerStrap = s.managerStrap :=
  (congrArg State.managerStrap (State.ack_frame s f b) :)

@[simp] theorem State.ack_powered (s : State) (f : Frame) (b : List Byte) : (s.ack f b).powered = s.powered :=
  (congrArg State.powered (State.ack_frame s f b) :)

@[simp] theorem State.ack_moment (s : State) (f : Frame) (b : List Byte) : (s.ack f b).moment = s.moment :=
  (congrArg State.moment (State.ack_frame s f b) :)

@[simp] theorem State.ack_pending (s : State) (f : Frame) (b : List Byte) : (s.ack f b).pending = s.pending :=
  (congrArg State.pending (State.ack_frame s f b) :)

@[simp] theorem State.ack_far_up (s : State) (f : Frame) (b : List Byte) : (s.ack f b).far.up = s.far.up := by
  simp [State.ack]

@[simp] theorem State.ack_far_sent (s : State) (f : Frame) (b : List Byte) : (s.ack f b).far.sent = s.far.sent := by
  simp [State.ack]

@[simp] theorem State.ack_chan_manager (s : State) (f : Frame) (b : List Byte) : (s.ack f b).chan.manager = s.chan.manager := by
  simp [State.ack]

@[simp] theorem State.ack_chan_noticeSeq (s : State) (f : Frame) (b : List Byte) : (s.ack f b).chan.noticeSeq = s.chan.noticeSeq := by
  simp [State.ack]

@[simp] theorem State.ack_chan_params (s : State) (f : Frame) (b : List Byte) : (s.ack f b).chan.params = s.chan.params := by
  simp [State.ack]

/-! ## `State.nak` -/

/-- `State.nak` changes only far, chan. -/
theorem State.nak_frame (s : State) (f : Frame) (c : NakCode) :
    s.nak f c =
      { s with
        far := (s.nak f c).far
        chan := (s.nak f c).chan } := by
  exact State.reply_frame s f _ _

@[simp] theorem State.nak_cache (s : State) (f : Frame) (c : NakCode) : (s.nak f c).cache = s.cache :=
  (congrArg State.cache (State.nak_frame s f c) :)

@[simp] theorem State.nak_park (s : State) (f : Frame) (c : NakCode) : (s.nak f c).park = s.park :=
  (congrArg State.park (State.nak_frame s f c) :)

@[simp] theorem State.nak_misses (s : State) (f : Frame) (c : NakCode) : (s.nak f c).misses = s.misses :=
  (congrArg State.misses (State.nak_frame s f c) :)

@[simp] theorem State.nak_fences (s : State) (f : Frame) (c : NakCode) : (s.nak f c).fences = s.fences :=
  (congrArg State.fences (State.nak_frame s f c) :)

@[simp] theorem State.nak_outs (s : State) (f : Frame) (c : NakCode) : (s.nak f c).outs = s.outs :=
  (congrArg State.outs (State.nak_frame s f c) :)

@[simp] theorem State.nak_slots (s : State) (f : Frame) (c : NakCode) : (s.nak f c).slots = s.slots :=
  (congrArg State.slots (State.nak_frame s f c) :)

@[simp] theorem State.nak_ctxs (s : State) (f : Frame) (c : NakCode) : (s.nak f c).ctxs = s.ctxs :=
  (congrArg State.ctxs (State.nak_frame s f c) :)

@[simp] theorem State.nak_bridge (s : State) (f : Frame) (c : NakCode) : (s.nak f c).bridge = s.bridge :=
  (congrArg State.bridge (State.nak_frame s f c) :)

@[simp] theorem State.nak_cause (s : State) (f : Frame) (c : NakCode) : (s.nak f c).cause = s.cause :=
  (congrArg State.cause (State.nak_frame s f c) :)

@[simp] theorem State.nak_log (s : State) (f : Frame) (c : NakCode) : (s.nak f c).log = s.log :=
  (congrArg State.log (State.nak_frame s f c) :)

@[simp] theorem State.nak_ctr (s : State) (f : Frame) (c : NakCode) : (s.nak f c).ctr = s.ctr :=
  (congrArg State.ctr (State.nak_frame s f c) :)

@[simp] theorem State.nak_time (s : State) (f : Frame) (c : NakCode) : (s.nak f c).time = s.time :=
  (congrArg State.time (State.nak_frame s f c) :)

@[simp] theorem State.nak_near (s : State) (f : Frame) (c : NakCode) : (s.nak f c).near = s.near :=
  (congrArg State.near (State.nak_frame s f c) :)

@[simp] theorem State.nak_node (s : State) (f : Frame) (c : NakCode) : (s.nak f c).node = s.node :=
  (congrArg State.node (State.nak_frame s f c) :)

@[simp] theorem State.nak_managerStrap (s : State) (f : Frame) (c : NakCode) : (s.nak f c).managerStrap = s.managerStrap :=
  (congrArg State.managerStrap (State.nak_frame s f c) :)

@[simp] theorem State.nak_powered (s : State) (f : Frame) (c : NakCode) : (s.nak f c).powered = s.powered :=
  (congrArg State.powered (State.nak_frame s f c) :)

@[simp] theorem State.nak_moment (s : State) (f : Frame) (c : NakCode) : (s.nak f c).moment = s.moment :=
  (congrArg State.moment (State.nak_frame s f c) :)

@[simp] theorem State.nak_pending (s : State) (f : Frame) (c : NakCode) : (s.nak f c).pending = s.pending :=
  (congrArg State.pending (State.nak_frame s f c) :)

@[simp] theorem State.nak_far_up (s : State) (f : Frame) (c : NakCode) : (s.nak f c).far.up = s.far.up := by
  simp [State.nak]

@[simp] theorem State.nak_far_sent (s : State) (f : Frame) (c : NakCode) : (s.nak f c).far.sent = s.far.sent := by
  simp [State.nak]

@[simp] theorem State.nak_chan_manager (s : State) (f : Frame) (c : NakCode) : (s.nak f c).chan.manager = s.chan.manager := by
  simp [State.nak]

@[simp] theorem State.nak_chan_noticeSeq (s : State) (f : Frame) (c : NakCode) : (s.nak f c).chan.noticeSeq = s.chan.noticeSeq := by
  simp [State.nak]

@[simp] theorem State.nak_chan_params (s : State) (f : Frame) (c : NakCode) : (s.nak f c).chan.params = s.chan.params := by
  simp [State.nak]

/-! ## `State.nakSequence` -/

/-- `State.nakSequence` changes only far. -/
theorem State.nakSequence_frame (s : State) (f : Frame) :
    s.nakSequence f =
      { s with
        far := (s.nakSequence f).far } := by
  exact State.sendFar_frame s _

@[simp] theorem State.nakSequence_cache (s : State) (f : Frame) : (s.nakSequence f).cache = s.cache :=
  (congrArg State.cache (State.nakSequence_frame s f) :)

@[simp] theorem State.nakSequence_park (s : State) (f : Frame) : (s.nakSequence f).park = s.park :=
  (congrArg State.park (State.nakSequence_frame s f) :)

@[simp] theorem State.nakSequence_misses (s : State) (f : Frame) : (s.nakSequence f).misses = s.misses :=
  (congrArg State.misses (State.nakSequence_frame s f) :)

@[simp] theorem State.nakSequence_fences (s : State) (f : Frame) : (s.nakSequence f).fences = s.fences :=
  (congrArg State.fences (State.nakSequence_frame s f) :)

@[simp] theorem State.nakSequence_outs (s : State) (f : Frame) : (s.nakSequence f).outs = s.outs :=
  (congrArg State.outs (State.nakSequence_frame s f) :)

@[simp] theorem State.nakSequence_slots (s : State) (f : Frame) : (s.nakSequence f).slots = s.slots :=
  (congrArg State.slots (State.nakSequence_frame s f) :)

@[simp] theorem State.nakSequence_ctxs (s : State) (f : Frame) : (s.nakSequence f).ctxs = s.ctxs :=
  (congrArg State.ctxs (State.nakSequence_frame s f) :)

@[simp] theorem State.nakSequence_bridge (s : State) (f : Frame) : (s.nakSequence f).bridge = s.bridge :=
  (congrArg State.bridge (State.nakSequence_frame s f) :)

@[simp] theorem State.nakSequence_cause (s : State) (f : Frame) : (s.nakSequence f).cause = s.cause :=
  (congrArg State.cause (State.nakSequence_frame s f) :)

@[simp] theorem State.nakSequence_chan (s : State) (f : Frame) : (s.nakSequence f).chan = s.chan :=
  (congrArg State.chan (State.nakSequence_frame s f) :)

@[simp] theorem State.nakSequence_log (s : State) (f : Frame) : (s.nakSequence f).log = s.log :=
  (congrArg State.log (State.nakSequence_frame s f) :)

@[simp] theorem State.nakSequence_ctr (s : State) (f : Frame) : (s.nakSequence f).ctr = s.ctr :=
  (congrArg State.ctr (State.nakSequence_frame s f) :)

@[simp] theorem State.nakSequence_time (s : State) (f : Frame) : (s.nakSequence f).time = s.time :=
  (congrArg State.time (State.nakSequence_frame s f) :)

@[simp] theorem State.nakSequence_near (s : State) (f : Frame) : (s.nakSequence f).near = s.near :=
  (congrArg State.near (State.nakSequence_frame s f) :)

@[simp] theorem State.nakSequence_node (s : State) (f : Frame) : (s.nakSequence f).node = s.node :=
  (congrArg State.node (State.nakSequence_frame s f) :)

@[simp] theorem State.nakSequence_managerStrap (s : State) (f : Frame) : (s.nakSequence f).managerStrap = s.managerStrap :=
  (congrArg State.managerStrap (State.nakSequence_frame s f) :)

@[simp] theorem State.nakSequence_powered (s : State) (f : Frame) : (s.nakSequence f).powered = s.powered :=
  (congrArg State.powered (State.nakSequence_frame s f) :)

@[simp] theorem State.nakSequence_moment (s : State) (f : Frame) : (s.nakSequence f).moment = s.moment :=
  (congrArg State.moment (State.nakSequence_frame s f) :)

@[simp] theorem State.nakSequence_pending (s : State) (f : Frame) : (s.nakSequence f).pending = s.pending :=
  (congrArg State.pending (State.nakSequence_frame s f) :)

/-! ## `State.offSequence` -/

/-- `State.offSequence` changes only far. -/
theorem State.offSequence_frame (s : State) (f : Frame) :
    s.offSequence f =
      { s with
        far := (s.offSequence f).far } := by
  unfold State.offSequence
  split
  · split
    · exact State.sendFar_frame s _
    · exact State.nakSequence_frame s f
  · exact State.nakSequence_frame s f

@[simp] theorem State.offSequence_cache (s : State) (f : Frame) : (s.offSequence f).cache = s.cache :=
  (congrArg State.cache (State.offSequence_frame s f) :)

@[simp] theorem State.offSequence_park (s : State) (f : Frame) : (s.offSequence f).park = s.park :=
  (congrArg State.park (State.offSequence_frame s f) :)

@[simp] theorem State.offSequence_misses (s : State) (f : Frame) : (s.offSequence f).misses = s.misses :=
  (congrArg State.misses (State.offSequence_frame s f) :)

@[simp] theorem State.offSequence_fences (s : State) (f : Frame) : (s.offSequence f).fences = s.fences :=
  (congrArg State.fences (State.offSequence_frame s f) :)

@[simp] theorem State.offSequence_outs (s : State) (f : Frame) : (s.offSequence f).outs = s.outs :=
  (congrArg State.outs (State.offSequence_frame s f) :)

@[simp] theorem State.offSequence_slots (s : State) (f : Frame) : (s.offSequence f).slots = s.slots :=
  (congrArg State.slots (State.offSequence_frame s f) :)

@[simp] theorem State.offSequence_ctxs (s : State) (f : Frame) : (s.offSequence f).ctxs = s.ctxs :=
  (congrArg State.ctxs (State.offSequence_frame s f) :)

@[simp] theorem State.offSequence_bridge (s : State) (f : Frame) : (s.offSequence f).bridge = s.bridge :=
  (congrArg State.bridge (State.offSequence_frame s f) :)

@[simp] theorem State.offSequence_cause (s : State) (f : Frame) : (s.offSequence f).cause = s.cause :=
  (congrArg State.cause (State.offSequence_frame s f) :)

@[simp] theorem State.offSequence_chan (s : State) (f : Frame) : (s.offSequence f).chan = s.chan :=
  (congrArg State.chan (State.offSequence_frame s f) :)

@[simp] theorem State.offSequence_log (s : State) (f : Frame) : (s.offSequence f).log = s.log :=
  (congrArg State.log (State.offSequence_frame s f) :)

@[simp] theorem State.offSequence_ctr (s : State) (f : Frame) : (s.offSequence f).ctr = s.ctr :=
  (congrArg State.ctr (State.offSequence_frame s f) :)

@[simp] theorem State.offSequence_time (s : State) (f : Frame) : (s.offSequence f).time = s.time :=
  (congrArg State.time (State.offSequence_frame s f) :)

@[simp] theorem State.offSequence_near (s : State) (f : Frame) : (s.offSequence f).near = s.near :=
  (congrArg State.near (State.offSequence_frame s f) :)

@[simp] theorem State.offSequence_node (s : State) (f : Frame) : (s.offSequence f).node = s.node :=
  (congrArg State.node (State.offSequence_frame s f) :)

@[simp] theorem State.offSequence_managerStrap (s : State) (f : Frame) : (s.offSequence f).managerStrap = s.managerStrap :=
  (congrArg State.managerStrap (State.offSequence_frame s f) :)

@[simp] theorem State.offSequence_powered (s : State) (f : Frame) : (s.offSequence f).powered = s.powered :=
  (congrArg State.powered (State.offSequence_frame s f) :)

@[simp] theorem State.offSequence_moment (s : State) (f : Frame) : (s.offSequence f).moment = s.moment :=
  (congrArg State.moment (State.offSequence_frame s f) :)

@[simp] theorem State.offSequence_pending (s : State) (f : Frame) : (s.offSequence f).pending = s.pending :=
  (congrArg State.pending (State.offSequence_frame s f) :)

/-! ## `State.answerEntry` -/

/-- `State.answerEntry` changes only near, ctr. -/
theorem State.answerEntry_frame (s : State) (o : OutEntry) (a : Answer) :
    s.answerEntry o a =
      { s with
        near := (s.answerEntry o a).near
        ctr := (s.answerEntry o a).ctr } := by
  unfold State.answerEntry
  split
  · rfl
  · exact State.answer_frame s _ _ _

@[simp] theorem State.answerEntry_cache (s : State) (o : OutEntry) (a : Answer) : (s.answerEntry o a).cache = s.cache :=
  (congrArg State.cache (State.answerEntry_frame s o a) :)

@[simp] theorem State.answerEntry_park (s : State) (o : OutEntry) (a : Answer) : (s.answerEntry o a).park = s.park :=
  (congrArg State.park (State.answerEntry_frame s o a) :)

@[simp] theorem State.answerEntry_misses (s : State) (o : OutEntry) (a : Answer) : (s.answerEntry o a).misses = s.misses :=
  (congrArg State.misses (State.answerEntry_frame s o a) :)

@[simp] theorem State.answerEntry_fences (s : State) (o : OutEntry) (a : Answer) : (s.answerEntry o a).fences = s.fences :=
  (congrArg State.fences (State.answerEntry_frame s o a) :)

@[simp] theorem State.answerEntry_outs (s : State) (o : OutEntry) (a : Answer) : (s.answerEntry o a).outs = s.outs :=
  (congrArg State.outs (State.answerEntry_frame s o a) :)

@[simp] theorem State.answerEntry_slots (s : State) (o : OutEntry) (a : Answer) : (s.answerEntry o a).slots = s.slots :=
  (congrArg State.slots (State.answerEntry_frame s o a) :)

@[simp] theorem State.answerEntry_ctxs (s : State) (o : OutEntry) (a : Answer) : (s.answerEntry o a).ctxs = s.ctxs :=
  (congrArg State.ctxs (State.answerEntry_frame s o a) :)

@[simp] theorem State.answerEntry_bridge (s : State) (o : OutEntry) (a : Answer) : (s.answerEntry o a).bridge = s.bridge :=
  (congrArg State.bridge (State.answerEntry_frame s o a) :)

@[simp] theorem State.answerEntry_cause (s : State) (o : OutEntry) (a : Answer) : (s.answerEntry o a).cause = s.cause :=
  (congrArg State.cause (State.answerEntry_frame s o a) :)

@[simp] theorem State.answerEntry_chan (s : State) (o : OutEntry) (a : Answer) : (s.answerEntry o a).chan = s.chan :=
  (congrArg State.chan (State.answerEntry_frame s o a) :)

@[simp] theorem State.answerEntry_log (s : State) (o : OutEntry) (a : Answer) : (s.answerEntry o a).log = s.log :=
  (congrArg State.log (State.answerEntry_frame s o a) :)

@[simp] theorem State.answerEntry_time (s : State) (o : OutEntry) (a : Answer) : (s.answerEntry o a).time = s.time :=
  (congrArg State.time (State.answerEntry_frame s o a) :)

@[simp] theorem State.answerEntry_far (s : State) (o : OutEntry) (a : Answer) : (s.answerEntry o a).far = s.far :=
  (congrArg State.far (State.answerEntry_frame s o a) :)

@[simp] theorem State.answerEntry_node (s : State) (o : OutEntry) (a : Answer) : (s.answerEntry o a).node = s.node :=
  (congrArg State.node (State.answerEntry_frame s o a) :)

@[simp] theorem State.answerEntry_managerStrap (s : State) (o : OutEntry) (a : Answer) : (s.answerEntry o a).managerStrap = s.managerStrap :=
  (congrArg State.managerStrap (State.answerEntry_frame s o a) :)

@[simp] theorem State.answerEntry_powered (s : State) (o : OutEntry) (a : Answer) : (s.answerEntry o a).powered = s.powered :=
  (congrArg State.powered (State.answerEntry_frame s o a) :)

@[simp] theorem State.answerEntry_moment (s : State) (o : OutEntry) (a : Answer) : (s.answerEntry o a).moment = s.moment :=
  (congrArg State.moment (State.answerEntry_frame s o a) :)

@[simp] theorem State.answerEntry_pending (s : State) (o : OutEntry) (a : Answer) : (s.answerEntry o a).pending = s.pending :=
  (congrArg State.pending (State.answerEntry_frame s o a) :)

@[simp] theorem State.answerEntry_near_up (s : State) (o : OutEntry) (a : Answer) : (s.answerEntry o a).near.up = s.near.up := by
  unfold State.answerEntry; split <;> simp

@[simp] theorem State.answerEntry_near_sent (s : State) (o : OutEntry) (a : Answer) : (s.answerEntry o a).near.sent = s.near.sent := by
  unfold State.answerEntry; split <;> simp

/-! ## `State.turnAway` -/

/-- `State.turnAway` changes only near, far, chan, log, ctr. -/
theorem State.turnAway_frame (s : State) (r : Request) (x : Reason) (d : Byte) :
    s.turnAway r x d =
      { s with
        near := (s.turnAway r x d).near
        far := (s.turnAway r x d).far
        chan := (s.turnAway r x d).chan
        log := (s.turnAway r x d).log
        ctr := (s.turnAway r x d).ctr } := by
  unfold State.turnAway
  split
  · rw [State.answer_frame]
  · rw [State.answer_frame]
  · rw [State.makeFault_frame]

@[simp] theorem State.turnAway_cache (s : State) (r : Request) (x : Reason) (d : Byte) : (s.turnAway r x d).cache = s.cache :=
  (congrArg State.cache (State.turnAway_frame s r x d) :)

@[simp] theorem State.turnAway_park (s : State) (r : Request) (x : Reason) (d : Byte) : (s.turnAway r x d).park = s.park :=
  (congrArg State.park (State.turnAway_frame s r x d) :)

@[simp] theorem State.turnAway_misses (s : State) (r : Request) (x : Reason) (d : Byte) : (s.turnAway r x d).misses = s.misses :=
  (congrArg State.misses (State.turnAway_frame s r x d) :)

@[simp] theorem State.turnAway_fences (s : State) (r : Request) (x : Reason) (d : Byte) : (s.turnAway r x d).fences = s.fences :=
  (congrArg State.fences (State.turnAway_frame s r x d) :)

@[simp] theorem State.turnAway_outs (s : State) (r : Request) (x : Reason) (d : Byte) : (s.turnAway r x d).outs = s.outs :=
  (congrArg State.outs (State.turnAway_frame s r x d) :)

@[simp] theorem State.turnAway_slots (s : State) (r : Request) (x : Reason) (d : Byte) : (s.turnAway r x d).slots = s.slots :=
  (congrArg State.slots (State.turnAway_frame s r x d) :)

@[simp] theorem State.turnAway_ctxs (s : State) (r : Request) (x : Reason) (d : Byte) : (s.turnAway r x d).ctxs = s.ctxs :=
  (congrArg State.ctxs (State.turnAway_frame s r x d) :)

@[simp] theorem State.turnAway_bridge (s : State) (r : Request) (x : Reason) (d : Byte) : (s.turnAway r x d).bridge = s.bridge :=
  (congrArg State.bridge (State.turnAway_frame s r x d) :)

@[simp] theorem State.turnAway_cause (s : State) (r : Request) (x : Reason) (d : Byte) : (s.turnAway r x d).cause = s.cause :=
  (congrArg State.cause (State.turnAway_frame s r x d) :)

@[simp] theorem State.turnAway_time (s : State) (r : Request) (x : Reason) (d : Byte) : (s.turnAway r x d).time = s.time :=
  (congrArg State.time (State.turnAway_frame s r x d) :)

@[simp] theorem State.turnAway_node (s : State) (r : Request) (x : Reason) (d : Byte) : (s.turnAway r x d).node = s.node :=
  (congrArg State.node (State.turnAway_frame s r x d) :)

@[simp] theorem State.turnAway_managerStrap (s : State) (r : Request) (x : Reason) (d : Byte) : (s.turnAway r x d).managerStrap = s.managerStrap :=
  (congrArg State.managerStrap (State.turnAway_frame s r x d) :)

@[simp] theorem State.turnAway_powered (s : State) (r : Request) (x : Reason) (d : Byte) : (s.turnAway r x d).powered = s.powered :=
  (congrArg State.powered (State.turnAway_frame s r x d) :)

@[simp] theorem State.turnAway_moment (s : State) (r : Request) (x : Reason) (d : Byte) : (s.turnAway r x d).moment = s.moment :=
  (congrArg State.moment (State.turnAway_frame s r x d) :)

@[simp] theorem State.turnAway_pending (s : State) (r : Request) (x : Reason) (d : Byte) : (s.turnAway r x d).pending = s.pending :=
  (congrArg State.pending (State.turnAway_frame s r x d) :)

/-! ## `State.turnAwayWith` -/

/-- `State.turnAwayWith` changes only near, far, chan, log, ctr. -/
theorem State.turnAwayWith_frame (s : State) (r : Request) (x : Reason) (k : FaultKind) (d : Byte) :
    s.turnAwayWith r x k d =
      { s with
        near := (s.turnAwayWith r x k d).near
        far := (s.turnAwayWith r x k d).far
        chan := (s.turnAwayWith r x k d).chan
        log := (s.turnAwayWith r x k d).log
        ctr := (s.turnAwayWith r x k d).ctr } := by
  unfold State.turnAwayWith
  rw [State.makeFault_frame, State.answerIf_frame]

@[simp] theorem State.turnAwayWith_cache (s : State) (r : Request) (x : Reason) (k : FaultKind) (d : Byte) : (s.turnAwayWith r x k d).cache = s.cache :=
  (congrArg State.cache (State.turnAwayWith_frame s r x k d) :)

@[simp] theorem State.turnAwayWith_park (s : State) (r : Request) (x : Reason) (k : FaultKind) (d : Byte) : (s.turnAwayWith r x k d).park = s.park :=
  (congrArg State.park (State.turnAwayWith_frame s r x k d) :)

@[simp] theorem State.turnAwayWith_misses (s : State) (r : Request) (x : Reason) (k : FaultKind) (d : Byte) : (s.turnAwayWith r x k d).misses = s.misses :=
  (congrArg State.misses (State.turnAwayWith_frame s r x k d) :)

@[simp] theorem State.turnAwayWith_fences (s : State) (r : Request) (x : Reason) (k : FaultKind) (d : Byte) : (s.turnAwayWith r x k d).fences = s.fences :=
  (congrArg State.fences (State.turnAwayWith_frame s r x k d) :)

@[simp] theorem State.turnAwayWith_outs (s : State) (r : Request) (x : Reason) (k : FaultKind) (d : Byte) : (s.turnAwayWith r x k d).outs = s.outs :=
  (congrArg State.outs (State.turnAwayWith_frame s r x k d) :)

@[simp] theorem State.turnAwayWith_slots (s : State) (r : Request) (x : Reason) (k : FaultKind) (d : Byte) : (s.turnAwayWith r x k d).slots = s.slots :=
  (congrArg State.slots (State.turnAwayWith_frame s r x k d) :)

@[simp] theorem State.turnAwayWith_ctxs (s : State) (r : Request) (x : Reason) (k : FaultKind) (d : Byte) : (s.turnAwayWith r x k d).ctxs = s.ctxs :=
  (congrArg State.ctxs (State.turnAwayWith_frame s r x k d) :)

@[simp] theorem State.turnAwayWith_bridge (s : State) (r : Request) (x : Reason) (k : FaultKind) (d : Byte) : (s.turnAwayWith r x k d).bridge = s.bridge :=
  (congrArg State.bridge (State.turnAwayWith_frame s r x k d) :)

@[simp] theorem State.turnAwayWith_cause (s : State) (r : Request) (x : Reason) (k : FaultKind) (d : Byte) : (s.turnAwayWith r x k d).cause = s.cause :=
  (congrArg State.cause (State.turnAwayWith_frame s r x k d) :)

@[simp] theorem State.turnAwayWith_time (s : State) (r : Request) (x : Reason) (k : FaultKind) (d : Byte) : (s.turnAwayWith r x k d).time = s.time :=
  (congrArg State.time (State.turnAwayWith_frame s r x k d) :)

@[simp] theorem State.turnAwayWith_node (s : State) (r : Request) (x : Reason) (k : FaultKind) (d : Byte) : (s.turnAwayWith r x k d).node = s.node :=
  (congrArg State.node (State.turnAwayWith_frame s r x k d) :)

@[simp] theorem State.turnAwayWith_managerStrap (s : State) (r : Request) (x : Reason) (k : FaultKind) (d : Byte) : (s.turnAwayWith r x k d).managerStrap = s.managerStrap :=
  (congrArg State.managerStrap (State.turnAwayWith_frame s r x k d) :)

@[simp] theorem State.turnAwayWith_powered (s : State) (r : Request) (x : Reason) (k : FaultKind) (d : Byte) : (s.turnAwayWith r x k d).powered = s.powered :=
  (congrArg State.powered (State.turnAwayWith_frame s r x k d) :)

@[simp] theorem State.turnAwayWith_moment (s : State) (r : Request) (x : Reason) (k : FaultKind) (d : Byte) : (s.turnAwayWith r x k d).moment = s.moment :=
  (congrArg State.moment (State.turnAwayWith_frame s r x k d) :)

@[simp] theorem State.turnAwayWith_pending (s : State) (r : Request) (x : Reason) (k : FaultKind) (d : Byte) : (s.turnAwayWith r x k d).pending = s.pending :=
  (congrArg State.pending (State.turnAwayWith_frame s r x k d) :)

@[simp] theorem State.endMiss_cache (s : State) (id : MissId) (x : Reason) (d : Byte) : (s.endMiss id x d).cache = s.cache := by simp [State.endMiss]

@[simp] theorem State.endMiss_outs (s : State) (id : MissId) (x : Reason) (d : Byte) : (s.endMiss id x d).outs = s.outs := by simp [State.endMiss]

@[simp] theorem State.endMiss_slots (s : State) (id : MissId) (x : Reason) (d : Byte) : (s.endMiss id x d).slots = s.slots := by simp [State.endMiss]

@[simp] theorem State.endMiss_ctxs (s : State) (id : MissId) (x : Reason) (d : Byte) : (s.endMiss id x d).ctxs = s.ctxs := by simp [State.endMiss]

@[simp] theorem State.endMiss_bridge (s : State) (id : MissId) (x : Reason) (d : Byte) : (s.endMiss id x d).bridge = s.bridge := by simp [State.endMiss]

@[simp] theorem State.endMiss_cause (s : State) (id : MissId) (x : Reason) (d : Byte) : (s.endMiss id x d).cause = s.cause := by simp [State.endMiss]

@[simp] theorem State.endMiss_chan (s : State) (id : MissId) (x : Reason) (d : Byte) : (s.endMiss id x d).chan = s.chan := by simp [State.endMiss]

@[simp] theorem State.endMiss_log (s : State) (id : MissId) (x : Reason) (d : Byte) : (s.endMiss id x d).log = s.log := by simp [State.endMiss]

@[simp] theorem State.endMiss_time (s : State) (id : MissId) (x : Reason) (d : Byte) : (s.endMiss id x d).time = s.time := by simp [State.endMiss]

@[simp] theorem State.endMiss_far (s : State) (id : MissId) (x : Reason) (d : Byte) : (s.endMiss id x d).far = s.far := by simp [State.endMiss]

@[simp] theorem State.endMiss_node (s : State) (id : MissId) (x : Reason) (d : Byte) : (s.endMiss id x d).node = s.node := by simp [State.endMiss]

@[simp] theorem State.endMiss_managerStrap (s : State) (id : MissId) (x : Reason) (d : Byte) : (s.endMiss id x d).managerStrap = s.managerStrap := by simp [State.endMiss]

@[simp] theorem State.endMiss_powered (s : State) (id : MissId) (x : Reason) (d : Byte) : (s.endMiss id x d).powered = s.powered := by simp [State.endMiss]

@[simp] theorem State.endMiss_moment (s : State) (id : MissId) (x : Reason) (d : Byte) : (s.endMiss id x d).moment = s.moment := by simp [State.endMiss]

@[simp] theorem State.endMiss_pending (s : State) (id : MissId) (x : Reason) (d : Byte) : (s.endMiss id x d).pending = s.pending := by simp [State.endMiss]

end Sys2Proof.Machine
end

