-- ==== Sys2Proof/Laws/Channel.lean ====
section
/-! SUPPORT. What the ports and the management channel make of an arriving frame, case by case (R138 to
R146, R171, R177), in the terms of Safety.lean. -/

namespace Sys2Proof.Machine

open Sys2Proof.Safety

/-! ## The ports -/

theorem State.arriveNear_takes {s : State} {f : Frame} (h : NearTakes s f.body) (deal : State → State) :
    s.arriveNear f deal = deal (nearTaken s) := by
  unfold State.arriveNear
  rw [if_neg (by simp [h.1]), if_pos (by exact h.2)]
  rfl

theorem State.arriveFar_takes {s : State} {f : Frame} (h : FarTakes s f.body) (deal : State → State) :
    s.arriveFar f deal = deal (farTaken s) := by
  unfold State.arriveFar
  rw [if_neg (by simp [h.1]), if_pos (by exact h.2)]
  rfl

theorem State.arriveNear_down {s : State} (h : s.near.up = false) (f : Frame) (deal : State → State) :
    s.arriveNear f deal = s := by
  simp [State.arriveNear, h]

theorem State.arriveFar_down {s : State} (h : s.far.up = false) (f : Frame) (deal : State → State) :
    s.arriveFar f deal = s := by
  simp [State.arriveFar, h]

theorem State.sendNear_up {s : State} (h : s.near.up = true) (f : Frame) : s.sendNear f = onNear s [f] := by
  simp [State.sendNear, h, onNear]

theorem State.sendFar_up {s : State} (h : s.far.up = true) (f : Frame) : s.sendFar f = onFar s [f] := by
  simp [State.sendFar, h, onFar]

theorem State.sendNear_down {s : State} (h : s.near.up = false) (f : Frame) : s.sendNear f = s := by
  simp [State.sendNear, h]

theorem State.sendFar_down {s : State} (h : s.far.up = false) (f : Frame) : s.sendFar f = s := by
  simp [State.sendFar, h]

/-! ## The channel (Table 7-2) -/

theorem State.channel_taken {s : State} {f : Frame} (hd : nodeField f.hdr.dst = s.node)
    (hm : s.chan.manager = some (nodeField f.hdr.src)) (he : f.hdr.seq = s.chan.expected) (take : State → State) :
    s.channel f take = take s := by
  simp [State.channel, hd, hm, he]

theorem State.channel_misrouted {s : State} {f : Frame} (hd : nodeField f.hdr.dst ≠ s.node) (take : State → State) :
    s.channel f take = s := by
  simp [State.channel, hd]

theorem State.channel_foreign {s : State} {f : Frame} (hd : nodeField f.hdr.dst = s.node)
    (hm : s.chan.manager ≠ some (nodeField f.hdr.src)) (take : State → State) :
    s.channel f take = s.makeFault (foreignFault .far f) := by
  simp [State.channel, hd, hm]

theorem State.channel_replay {s : State} {f l : Frame} (hd : nodeField f.hdr.dst = s.node)
    (hm : s.chan.manager = some (nodeField f.hdr.src)) (hs : s.chan.stored = some l)
    (he : f.hdr.seq + 1 = s.chan.expected) (take : State → State) : s.channel f take = s.sendFar l := by
  have h1 : f.hdr.seq = s.chan.expected - 1 := by rw [← he]; simp
  have h2 : f.hdr.seq ≠ s.chan.expected := by rw [← he]; bv_omega
  simp only [State.channel, hd, hm, State.offSequence, hs]
  simp [h1]

theorem State.channel_nakSeq {s : State} {f : Frame} (hd : nodeField f.hdr.dst = s.node)
    (hm : s.chan.manager = some (nodeField f.hdr.src)) (hn : f.hdr.seq ≠ s.chan.expected)
    (he : s.chan.stored = none ∨ f.hdr.seq + 1 ≠ s.chan.expected) (take : State → State) :
    s.channel f take = s.nakSequence f := by
  have h1 : s.chan.stored = none ∨ f.hdr.seq ≠ s.chan.expected - 1 := by
    rcases he with h | h
    · exact .inl h
    · refine .inr fun e => h ?_
      rw [e]; simp
  simp only [State.channel, hd, hm, hn, ne_eq, not_true, if_false, State.offSequence]
  cases hs : s.chan.stored with
  | none => rfl
  | some l =>
    rcases h1 with h1 | h1
    · rw [hs] at h1; cases h1
    · exact if_neg h1

/-! ## Commands -/

theorem State.commandArrives_underE {s : State} {h : Header} {body : List Byte} (hu : UnderE s h body) (c : Command)
    (take : State → State) : s.commandArrives (commandFrame c h body) take = take (farTaken s) := by
  obtain ⟨hf, hd, hm, he⟩ := hu
  unfold State.commandArrives
  rw [State.arriveFar_takes (by exact hf)]
  exact State.channel_taken hd hm he take

/-- A reply to a command just counted and taken is `answered` (R141, R146, R171). -/
theorem State.reply_answered {s : State} (hu : s.far.up = true) (c : Command) (h : Header) (body : List Byte)
    (kind : BitVec 6) (fields : List Byte) :
    (farTaken s).reply (commandFrame c h body) kind fields = answered s h kind fields := by
  unfold State.reply
  rw [State.sendFar_up (by exact hu)]
  rfl

theorem State.ack_answered {s : State} (hu : s.far.up = true) (c : Command) (h : Header) (body fields : List Byte) :
    (farTaken s).ack (commandFrame c h body) fields
      = answered s h 32 (BitVec.ofNat 8 (commandCode c).toNat :: fields) :=
  State.reply_answered hu c h body _ _

theorem State.nak_answered {s : State} (hu : s.far.up = true) (c : Command) (h : Header) (body : List Byte)
    (code : NakCode) :
    (farTaken s).nak (commandFrame c h body) code
      = answered s h 33 [BitVec.ofNat 8 (commandCode c).toNat, nakByte code, 0] :=
  State.reply_answered hu c h body _ _

theorem State.withArgs_none {α : Type} (s : State) (f : Frame) {args : Option α} (h : args = none)
    (run : α → State → State) : s.withArgs f args run = s.nak f .range := by
  rw [h]; rfl

theorem State.withArgs_some {α : Type} (s : State) (f : Frame) {args : Option α} {a : α} (h : args = some a)
    (run : α → State → State) : s.withArgs f args run = run a s := by
  rw [h]; rfl

/-! ## Answers and refusals on the near port -/

theorem State.answer_refuse_up {s : State} (h : s.near.up = true) (a : Agent) (t : NearTag) (x : Reason) (d : Byte) :
    s.answer a t (.refuse x d) = refuseNear s .read a t (reasonCode x) d := by
  unfold State.answer
  rw [State.sendNear_up (by exact h)]
  rfl

theorem State.answer_data_up {s : State} (h : s.near.up = true) (a : Agent) (t : NearTag) (p : List Byte) :
    s.answer a t (.data p) = onNear s [nearResponse s.node a t 1 p] := by
  unfold State.answer
  rw [State.sendNear_up (by exact h)]
  rfl

theorem State.answer_done_up {s : State} (h : s.near.up = true) (a : Agent) (t : NearTag) :
    s.answer a t .done = onNear s [nearResponse s.node a t 2 []] := by
  unfold State.answer
  rw [State.sendNear_up (by exact h)]
  rfl

theorem State.answerIf_refusal_up {s : State} (h : s.near.up = true) (k : ReqKind) (a : Agent) (t : NearTag) (x : Reason)
    (d : Byte) : s.answerIf a t (refusalTo k x d) = refuseNear s k a t (reasonCode x) d := by
  cases k with
  | read => exact State.answer_refuse_up h a t x d
  | write => exact State.answer_refuse_up h a t x d
  | post => rfl

theorem State.turnAway_up {s : State} (h : s.near.up = true) (r : Request) (x : Reason) (d : Byte) :
    s.turnAway r x d = turnedAway s r (reasonCode x) d := by
  unfold State.turnAway turnedAway
  cases hk : r.kind with
  | read => exact State.answer_refuse_up h _ _ x d
  | write => exact State.answer_refuse_up h _ _ x d
  | post => rfl

theorem State.turnAwayWith_up {s : State} (h : s.near.up = true) (r : Request) (x : Reason) (k : FaultKind) (d : Byte) :
    s.turnAwayWith r x k d = (refuseNear s r.kind r.agent r.tag (reasonCode x) d).makeFault
      (requestFault k r.agent r.tag r.ctx r.page d) := by
  unfold State.turnAwayWith
  rw [State.answerIf_refusal_up h]

/-! ## Notices and fault records -/

/-- A notice that can be sent is sent, numbered and counted (R153, R154). -/
theorem State.notice_sent {s : State} {m : NodeId} (hu : s.far.up = true) (hm : s.chan.manager = some m)
    (kind : BitVec 6) (body : List Byte) :
    s.notice kind body = { s with
      far := { s.far with queue := s.far.queue ++ [noticeFrame s.node m s.chan.noticeSeq kind body] }
      chan := { s.chan with noticeSeq := s.chan.noticeSeq + 1 }
      ctr := { s.ctr with notices := s.ctr.notices + 1 } } := by
  simp [State.notice, hu, hm]

/-- A notice that cannot be sent changes nothing (R153, R154). -/
theorem State.notice_unsent {s : State} (h : s.far.up = false ∨ s.chan.manager = none) (kind : BitVec 6)
    (body : List Byte) : s.notice kind body = s := by
  unfold State.notice
  split
  · next hu hm => rcases h with h | h <;> simp_all
  · rfl

/-- With no fault notice to send, a fault record changes the log alone (R163, R165). -/
theorem State.makeFault_quiet {s : State} (h : s.chan.params.faultNotices = false ∨ s.far.up = false ∨ s.chan.manager = none)
    (w : FaultBody) : s.makeFault w = { s with log := s.log.append s.time w } := by
  unfold State.makeFault
  dsimp only
  split
  · next hf =>
    rcases h with h | h
    · simp [h] at hf
    · exact State.notice_unsent (s := { s with log := s.log.append s.time w }) h _ _
  · rfl

/-- With nothing waiting on a fence, no hold's end changes anything (R80). -/
theorem State.judgeFence_idle {s : State} {a : Agent} (h : s.fences[a] = none) : s.judgeFence a = s := by
  unfold State.judgeFence; rw [h]

theorem State.endHold_idle {s : State} {a : Agent} (h : s.fences[a] = none) (b : Bool) : s.endHold b a = s := by
  cases b
  · rfl
  · exact State.judgeFence_idle h

theorem State.completeSlot_free {s : State} {k : SlotId} (h : s.slots[k] = none) : s.completeSlot k = s := by
  unfold State.completeSlot; rw [h]

theorem State.completeClose_open {s : State} {c : Ctx} (h : s.ctxs[c].state = .closed ∨ s.ctxs[c].state = .opened) :
    s.completeClose c = s := by
  unfold State.completeClose
  rcases h with h | h <;> rw [h]

theorem foldl_idle {α : Type} (f : State → α → State) (s : State) (h : ∀ x, f s x = s) (l : List α) :
    l.foldl f s = s := by
  induction l with
  | nil => rfl
  | cons x l ih => rw [List.foldl_cons, h, ih]

/-- With every slot free, no completion changes anything (R110). -/
theorem State.completeSlots_free {s : State} (h : ∀ k : SlotId, s.slots[k] = none) : s.completeSlots = s := by
  unfold State.completeSlots
  exact foldl_idle _ s (fun k => State.completeSlot_free (h k)) _

/-- With no context CLOSING, no close completes (R126). -/
theorem State.completeCloses_open {s : State} (h : ∀ c : Ctx, s.ctxs[c].state = .closed ∨ s.ctxs[c].state = .opened) :
    s.completeCloses = s := by
  unfold State.completeCloses
  exact foldl_idle _ s (fun c => State.completeClose_open (h c)) _

/-- With nothing READY the arbiter has nothing to do (R72). -/
theorem State.runArbiter_idle {s : State} (h : s.readyExists = false) : s.runArbiter = s := by
  unfold State.runArbiter
  cases hl : s.park.length with
  | zero => rfl
  | succ n => simp [forwardUpTo, State.forwardHead, splitReady_none.mpr h]

/-- Only a QUIESCING bridge drains (R132). -/
theorem State.judgeDrain_idle {s : State} (h : ∀ q, s.bridge ≠ .quiescing q) : s.judgeDrain = s := by
  unfold State.judgeDrain
  split
  · next q hq => exact absurd hq (h q)
  · rfl

/-- With nothing waiting, the end of an entry's part changes nothing more (R98). -/
theorem State.afterEntry_idle {s : State} (h : NothingWaits s) (o : OutEntry) : s.afterEntry o = s := by
  obtain ⟨h1, h2, h3, h4, h5⟩ := h
  unfold State.afterEntry
  rw [State.completeSlots_free h2, State.endHold_idle (h3 _), State.completeCloses_open h4, State.runArbiter_idle h1,
    State.judgeDrain_idle (by simp [h5])]

end Sys2Proof.Machine
end

