-- ==== Sys2Proof/Laws/Reset.lean ====
section
/-! SUPPORT. The order in which a soft reset sends its refusals: each block's own order is kept, and nothing is lost
(R30, R97, R159). -/

namespace Sys2Proof.Machine

theorem risingRanks_length (floor : Nat) (ranks : List Nat) : (risingRanks floor ranks).length = ranks.length := by
  induction ranks generalizing floor with
  | nil => rfl
  | cons r rest ih => simp [risingRanks, ih]

theorem le_of_mem_risingRanks {floor x : Nat} {ranks : List Nat} (h : x ∈ risingRanks floor ranks) : floor ≤ x := by
  induction ranks generalizing floor with
  | nil => simp [risingRanks] at h
  | cons r rest ih =>
    rcases List.mem_cons.1 h with rfl | h
    · exact Nat.le_max_left ..
    · exact (Nat.le_max_left ..).trans (ih h)

theorem risingRanks_pairwise (floor : Nat) (ranks : List Nat) : (risingRanks floor ranks).Pairwise (· ≤ ·) := by
  induction ranks generalizing floor with
  | nil => exact .nil
  | cons r rest ih => exact .cons (fun _ => le_of_mem_risingRanks) (ih _)

/-- Ranking a block's refusals changes none of them and none of their order. -/
theorem rankedInOrder_snd (rank : Nat → Nat) (ids : List (Agent × NearTag)) :
    (rankedInOrder rank ids).map Prod.snd = ids := by
  simp [rankedInOrder, List.map_snd_zip, risingRanks_length]

theorem rankedInOrder_pairwise (rank : Nat → Nat) (ids : List (Agent × NearTag)) :
    (rankedInOrder rank ids).Pairwise fun x y => x.1 ≤ y.1 := by
  have h : ((rankedInOrder rank ids).map Prod.fst).Pairwise (· ≤ ·) := by
    rw [rankedInOrder, List.map_fst_zip (by simp [risingRanks_length])]
    exact risingRanks_pairwise ..
  exact List.pairwise_map.1 h

/-- Ranking the refusals loses none and adds none. -/
theorem resetRanked_snd (rank : Nat → Nat) (s : State) :
    (resetRanked rank s).map Prod.snd = parkRefusals s ++ entryRefusals s ++ fenceRefusals s := by
  simp only [resetRanked, List.map_append, List.map_map, rankedInOrder_snd]
  exact congrArg _ ((List.map_congr_left fun _ _ => rfl).trans (List.zipIdx_map_fst ..))

/-- The refusals sent are those of the park records, the live entries and the pending fences (R159). -/
theorem resetOrder_perm (s : State) : (resetOrder s).Perm (parkRefusals s ++ entryRefusals s ++ fenceRefusals s) := by
  rw [← resetRanked_snd (Config.resetRank s.moment)]
  exact (List.perm_insertionSort ..).map _

/-- What stands in rising rank among the ranked refusals is sent in that order. -/
theorem sublist_resetOrder {s : State} {l : List (Nat × Agent × NearTag)} (hl : l.Pairwise fun x y => x.1 ≤ y.1)
    (h : l.Sublist (resetRanked (Config.resetRank s.moment) s)) : (l.map Prod.snd).Sublist (resetOrder s) :=
  (List.sublist_insertionSort hl h).map _

/-- Park records are refused in park order (R30, R56). -/
theorem parkRefusals_sublist_resetOrder (s : State) : (parkRefusals s).Sublist (resetOrder s) := by
  rw [← rankedInOrder_snd (Config.resetRank s.moment) (parkRefusals s)]
  exact sublist_resetOrder (rankedInOrder_pairwise ..)
    ((List.sublist_append_left ..).trans (List.sublist_append_left ..))

/-- Outstanding entries are refused in ascending bridge tag (R97). -/
theorem entryRefusals_sublist_resetOrder (s : State) : (entryRefusals s).Sublist (resetOrder s) := by
  rw [← rankedInOrder_snd (fun i => Config.resetRank s.moment
    ((rankedInOrder (Config.resetRank s.moment) (parkRefusals s)).length + i)) (entryRefusals s)]
  exact sublist_resetOrder (rankedInOrder_pairwise ..)
    ((List.sublist_append_right ..).trans (List.sublist_append_left ..))

theorem le_foldl_max {x start : Nat} {l : List Nat} (h : x ≤ start ∨ x ∈ l) : x ≤ l.foldl max start := by
  induction l generalizing start with
  | nil => simpa using h
  | cons y rest ih =>
    refine ih ?_
    rcases h with h | h
    · exact .inl (h.trans (Nat.le_max_left ..))
    · rcases List.mem_cons.1 h with rfl | h
      · exact .inl (Nat.le_max_right ..)
      · exact .inr h

/-- A pending fence is refused behind every park record and live entry of its agent (R81). -/
theorem refusal_before_fence {s : State} {x f : Agent × NearTag} (hx : x ∈ parkRefusals s ++ entryRefusals s)
    (hf : f ∈ fenceRefusals s) (ha : x.1 = f.1) : [x, f].Sublist (resetOrder s) := by
  obtain ⟨others, fences, h, ho, hz⟩ : ∃ others fences,
      resetRanked (Config.resetRank s.moment) s = others ++ fences ∧
        others.map Prod.snd = parkRefusals s ++ entryRefusals s ∧
        ∃ rank, rankedFence others rank f ∈ fences := by
    refine ⟨_, _, rfl, by simp only [List.map_append, rankedInOrder_snd], ?_⟩
    obtain ⟨i, hi, rfl⟩ := List.getElem_of_mem hf
    exact ⟨_, List.mem_map.2 ⟨(_, i), List.mem_zipIdx_iff_getElem?.2 (List.getElem?_eq_getElem hi), rfl⟩⟩
  obtain ⟨y, hy, rfl⟩ := List.mem_map.1 (ho ▸ hx)
  obtain ⟨rank, hz⟩ := hz
  have hle : y.1 ≤ (rankedFence others rank f).1 :=
    le_foldl_max (.inr (List.mem_map.2 ⟨y, List.mem_filter.2 ⟨hy, by simpa using ha⟩, rfl⟩))
  exact sublist_resetOrder (l := [y, rankedFence others rank f]) (by simpa using hle)
    (h ▸ (List.singleton_sublist.2 hy).append (List.singleton_sublist.2 hz))

end Sys2Proof.Machine
end

