-- ==== Sys2Proof/WellFormed.lean ====
section
/-! DEFINITION. Which commands carry operands that fit their row: a body that a frame can have, a
class and kind that the row names, and (for a raw reception) no more than the row needs. What depends on
the state (addressed to the bridge, from the manager, under E) is judged by the machine. -/

namespace Sys2Proof

/-- A frame's body is 0 to 300 bytes (section 0.6.7, R177). -/
def bodyFits (body : List Byte) : Bool := body.length ≤ Config.maxBody

/-- The request kind codes 1 to 4 (Table 10-2). -/
def knownRequestKind (kind : BitVec 6) : Bool := 1 ≤ kind.toNat && kind.toNat ≤ 4

/-- The command kind codes 1 to 17 (Table 10-2). -/
def commandKind (kind : BitVec 6) : Bool := 1 ≤ kind.toNat && kind.toNat ≤ 17

/-- The operands fit the command's row. -/
def Instr.wellFormed : Instr → Bool
  | .nearRequest _ _ body => bodyFits body
  | .fence _ body => bodyFits body
  | .nearFrameDiscard cls _ _ body => (cls == .response || cls == .fourth) && bodyFits body
  | .nearMgmtDiscard _ _ body => bodyFits body
  | .crcDiscard _ _ => true
  | .farResponse _ _ body => bodyFits body
  | .notTarget _ _ body => bodyFits body
  | .farFrameDiscard cls _ _ body => !(cls == .mgmt) && bodyFits body
  | .misroutedMgmt _ _ body => bodyFits body
  | .foreignMgmt _ _ body => bodyFits body
  | .replay _ _ body => bodyFits body
  | .nakSeq _ _ body => bodyFits body
  | .nakUnknown kind _ body => !commandKind kind && bodyFits body
  | .fill _ body => bodyFits body
  | .deny _ body => bodyFits body
  | .pin _ body => bodyFits body
  | .readEntry _ body => bodyFits body
  | .purge _ body => bodyFits body
  | .openContext _ body => bodyFits body
  | .closeContext _ body => bodyFits body
  | .quiesce _ body => bodyFits body
  | .resume _ body => bodyFits body
  | .setParam _ body => bodyFits body
  | .getParam _ body => bodyFits body
  | .readStatus _ body => bodyFits body
  | .readCounters _ body => bodyFits body
  | .readFaults _ body => bodyFits body
  | .clearFaults _ body => bodyFits body
  | .handover _ body => bodyFits body
  | .resetBridge _ body => bodyFits body
  | .missTimeout _ => true
  | .missNotice _ => true
  | .responseTimeout _ => true
  | .secondDeadline _ => true
  | .nearLinkDown => true
  | .farLinkDown => true
  | .linkUp _ => true
  | .powerOnReset _ _ => true
  | .powerGoodFall => true
  | .arbiterForward => true
  | .missEntryOffer _ => true
  | .fenceDone _ => true
  | .purgeDone _ => true
  | .closeDone _ => true
  | .quiesced => true
  | .unknownKindRequest kind _ body => !knownRequestKind kind && bodyFits body
  | .frameLeavesPort _ => true

end Sys2Proof
end

