-- ==== Sys2Proof/Tests/Slice0.lean ====
section
/-! SUPPORT. Small tests, each of one step, with expected results taken from the spec's worked sequences; the
checks of well-formedness; and for every statement that has hypotheses a state that meets them. -/

namespace Sys2Proof.Tests

set_option Elab.async false

open Sys2Proof.Machine Sys2Proof.Safety

/-! ## Small states -/

/-- Both links UP, every context OPEN, node 2, manager 40 (the nodes of Table 7-7 and Table 11-1). -/
def live : State := { State.powerOn 2 40 with
  near := { up := true, queue := [], sent := [] }
  far := { up := true, queue := [], sent := [] }
  ctxs := Vector.replicate 16 { state := .opened, policy := .notice, supOnly := false } }

/-- The state a command leaves. -/
def after (c : Instr) (s : State) : State :=
  match exec c s with
  | .next t => t
  | .fault _ => s
  | .refused _ => s

/-- A near header: agent and tag. -/
def nh (agent tag : Byte) : Header := { dst := 0, src := agent, tag := tag, seq := 0, last := 0 }

/-- A far header from node 40 to node 2 under a sequence number. -/
def mh (seq : Byte) : Header := { dst := 2, src := 40, tag := 0, seq := seq, last := 0 }

/-- A far response header: source node and bridge tag. -/
def rh (src tag : Byte) : Header := { dst := 2, src := src, tag := tag, seq := 0, last := 0 }

/-- The body of a near request of one byte at offset 0 of a page. -/
def reqBody (ctx mode : Byte) (page : Nat) (payload : List Byte) : List Byte :=
  [ctx, mode] ++ beBytes 5 (page * 16384) ++ [0] ++ payload

/-- A valid FORWARD entry. -/
def ent (scope : Scope) (page : Page) (write pinned : Bool) : Entry :=
  { valid := true, scope := scope, page := page, node := 9, ppage := 3, action := .forward, read := true,
    write := write, user := true, pinned := pinned }

/-- A FILL body without a ticket. -/
def fillBody (e : Entry) (way : Byte) : List Byte := entryBytes e ++ [way, 255, 0]

/-- A parked READ of one byte. -/
def rec1 (agent : Agent) (tag : NearTag) (kind : ReqKind) (ctx : Ctx) (page : Nat) (st : ParkState) (held : Bool) :
    ParkRecord :=
  { agent := agent, tag := tag, kind := kind, ctx := ctx, mode := .user, address := BitVec.ofNat 40 (page * 16384)
    len := 1, payload := if kind = .read then [] else [7], state := st, held := held }

/-- A translation result. -/
def tr : Translation := { node := 9, address := 5, isGlobal := false }

/-- An active miss with copies left. -/
def miss1 (ctx : Ctx) (page : Page) (alloc : Time) : Miss :=
  { ctx := ctx, page := page, access := .read, mode := .user, alloc := alloc, deadline := alloc + 2000,
    interval := 500, repeats := 3, sent := 0, next := some (alloc + 500) }

/-- A WAITING entry for a READ of one byte from node 21, issued at `t`, deadline `t + 4000`. -/
def out1 (agent : Agent) (tag : NearTag) (ctx : Ctx) (t : Time) : OutEntry :=
  { phase := .waiting, agent := agent, tag := tag, kind := .read, len := 1, ctx := ctx, page := 5, isGlobal := false,
    node := 21, issue := t, deadline := t + 4000, marks := [], orphan := false, held := false }

/-- Every outstanding entry WAITING, with its own (agent, tag). -/
def fullOuts : Vector (Option OutEntry) 128 :=
  Vector.ofFn fun i => some (out1 ⟨i.val % 8, Nat.mod_lt _ (by decide)⟩ ⟨i.val / 8, by omega⟩ 0 0)

/-- Set 5 of Table 1-6. -/
def set5 (w0 w1 w2 w3 : Entry) (order : List WayId) : State :=
  live.setCache 5 { ways := #v[w0, w1, w2, w3], order := order }

/-! ## Well-formedness: an ill-formed command for each check -/

theorem test_wf_body_300 : (Instr.nearRequest .read (nh 0 0) (List.replicate 300 0)).wellFormed = true := by
  decide +kernel
theorem test_ill_body_301 : (Instr.nearRequest .read (nh 0 0) (List.replicate 301 0)).wellFormed = false := by
  decide +kernel
theorem test_ill_near_class_request : (Instr.nearFrameDiscard .request 1 (nh 0 0) []).wellFormed = false := by decide
theorem test_ill_near_class_mgmt : (Instr.nearFrameDiscard .mgmt 1 (nh 0 0) []).wellFormed = false := by decide
theorem test_ill_far_class_mgmt : (Instr.farFrameDiscard .mgmt 1 (mh 0) []).wellFormed = false := by decide
theorem test_ill_nak_unknown_17 : (Instr.nakUnknown 17 (mh 0) []).wellFormed = false := by decide
theorem test_wf_nak_unknown_18 : (Instr.nakUnknown 18 (mh 0) []).wellFormed = true := by decide
theorem test_ill_unknown_kind_4 : (Instr.unknownKindRequest 4 (nh 0 0) []).wellFormed = false := by decide
theorem test_wf_unknown_kind_5 : (Instr.unknownKindRequest 5 (nh 0 0) []).wellFormed = true := by decide

/-! ## Bytes (R194, Tables 10-1 and 10-5) -/

/-- The check value of R194: the nine characters 1 to 9 give 29B1h. -/
theorem test_crc_check_value : crc16 [0x31, 0x32, 0x33, 0x34, 0x35, 0x36, 0x37, 0x38, 0x39] = 0x29B1 := by
  decide +kernel
/-- Table 10-1: class MGMT (2) in bits 7 and 6, kind 33 in bits 5 to 0, and a two-byte length. -/
theorem test_frame_head : frameHead { cls := .mgmt, kind := 33, hdr := mh 17, body := [1, 2, 3] } =
    [0b10100001, 2, 40, 0, 0, 3, 17, 0, 1, 2, 3] := by decide +kernel
/-- Table 10-5: valid, pinned, action ZERO, read and user. -/
theorem test_entry_flags : entryFlags { ent (.context 4) 5 false true with action := .zero } = 0b10101101 := by decide

/-! ## The cache (Table 1-6) -/

def e69 : Entry := ent (.context 2) 69 true false
def e133 : Entry := { ent .allContexts 133 false true with write := false }
def e197 : Entry := ent (.context 2) 197 true false
def e5 : Entry := { ent (.context 4) 5 true false with action := .zero }

/-- Event 1: way 0 INSTALLED. -/
theorem test_fill_first : (after (.fill (mh 0) (fillBody e69 4)) live).cache[(5 : SetId)].order = [0, 3, 2, 1] ∧
    (after (.fill (mh 0) (fillBody e69 4)) live).chan.stored.map Frame.body = some [1, 5, 0, 0, 0, 0] := by
  decide +kernel
/-- Events 5 and 6: a hit moves its way to the front, and one refused RIGHTS, detail 2, moves it all the same. -/
theorem test_near_request_hit :
    (after (.nearRequest .read (nh 1 1) (reqBody 2 0 69 []))
      (set5 e69 e133 e197 e5 [3, 2, 1, 0])).cache[(5 : SetId)].order = [0, 3, 2, 1] ∧
    (after (.nearRequest .write (nh 1 1) (reqBody 2 0 133 [7]))
      (set5 e69 e133 e197 e5 [0, 3, 2, 1])).cache[(5 : SetId)].order = [1, 0, 3, 2] ∧
    (after (.nearRequest .write (nh 1 1) (reqBody 2 0 133 [7]))
      (set5 e69 e133 e197 e5 [0, 3, 2, 1])).near.queue.map Frame.body = [[6, 2]] := by decide +kernel
/-- Event 12: the third pin is taken and moves no way. -/
theorem test_pin_third : (after (.pin (mh 0) [5, 2, 1])
      (set5 { e69 with pinned := true } e133 e197 e5.invalidated [0, 2, 1, 3])).chan.stored.map Frame.body = some [3] ∧
    (after (.pin (mh 0) [5, 2, 1])
      (set5 { e69 with pinned := true } e133 e197 e5.invalidated [0, 2, 1, 3])).cache[(5 : SetId)].ways[(2 : WayId)].pinned
        = true := by decide +kernel
/-- A fourth pin is refused PINNED-FULL (R25). -/
theorem test_pin_fourth : (after (.pin (mh 0) [5, 3, 1]) (set5 { e69 with pinned := true } e133
    { e197 with pinned := true } e5 [0, 2, 1, 3])).chan.stored.map Frame.body = some [3, 5, 0] := by decide +kernel
/-- READ-ENTRY reports way 3's position, 3, behind its ten-byte record (R26). -/
theorem test_read_entry : (after (.readEntry (mh 0) [5, 3]) (set5 e69 e133 e197 e5 [0, 2, 1, 3])).chan.stored.map
    Frame.body = some (entryBytes e5 ++ [3]) := by decide +kernel

/-! ## Misses (Tables 2-7 to 2-9) -/

/-- Table 2-7 at 10,000: id 0 goes from generation 6 to 7, the deadline is 12,000, and copy 0 carries ticket (0, 7), set
44 and waiter count 1. -/
theorem test_near_request_miss :
    (after (.nearRequest .read (nh 2 5) (reqBody 1 1 300 [])) { live with
      time := 10000, misses := live.misses.set (0 : MissId) { gen := 6, active := none } }).misses[(0 : MissId)] =
        { gen := 7, active := some { miss1 1 300 10000 with mode := .supervisor } } ∧
    (after (.nearRequest .read (nh 2 5) (reqBody 1 1 300 [])) { live with
      time := 10000, misses := live.misses.set (0 : MissId) { gen := 6, active := none } }).far.queue.map Frame.body =
        [[0, 7, 0, 1, 0, 0, 1, 44, 44, 0, 1, 1]] := by decide +kernel
/-- Table 2-7 at 10,500: copy 1 counts the waiters of that moment. -/
theorem test_miss_notice_copy_one :
    (after (.missNotice 0) { live with
      time := 10500, misses := live.misses.set (0 : MissId) { gen := 7, active := some (miss1 1 300 10000) }
      park := [rec1 2 5 .read 1 300 (.waiting 0) false, rec1 4 9 .write 1 300 (.waiting 0) false] }).far.queue.map
        (fun f => f.body.drop 9) = [[0, 0, 2]] := by decide +kernel

/-- The park buffer of Table 2-7 before its FILL. -/
def coalesced : State := { live with
  time := 10750
  misses := (live.misses.set (0 : MissId) { gen := 7, active := some (miss1 1 300 10000) }).set (1 : MissId)
    { gen := 3, active := some (miss1 3 300 10200) }
  park := [{ rec1 2 5 .read 1 300 (.waiting 0) false with mode := .supervisor }, rec1 4 9 .write 1 300 (.waiting 0) false,
    rec1 2 6 .read 3 300 (.waiting 1) false, rec1 4 10 .post 1 300 (.waiting 0) false]
  outs := fullOuts }

/-- Table 2-7 at 10,750: P1 and P3 are READY, in that order, and both misses are free. -/
theorem test_global_fill_releases :
    (after (.fill (mh 0) (entryBytes (ent .allContexts 300 false false) ++ [4, 0, 7])) coalesced).park.map
        (fun r => (r.tag, r.isReady)) = [(5, true), (6, true)] ∧
    (after (.fill (mh 0) (entryBytes (ent .allContexts 300 false false) ++ [4, 0, 7])) coalesced).chan.stored.map
        Frame.body = some [1, 44, 0, 0, 3, 4] := by decide +kernel
/-- R46 and R80: a held WRITE released by an entry without write is refused RIGHTS, detail 2, and DONE follows. -/
theorem test_fill_refuses_held :
    (after (.fill (mh 0) (fillBody (ent (.context 1) 300 false false) 4)) { live with
      park := [rec1 4 9 .write 1 300 .unnoticed true], fences := live.fences.set (4 : Agent) (some 11) }).near.queue.map
        (fun f => (f.kind, f.hdr.tag, f.body)) = [(3, 9, [6, 2]), (2, 11, [])] := by decide +kernel
/-- Table 2-9 at 22,000: P7 is refused MISS-TIMEOUT and entry 5 goes to P9 with generation 41. -/
theorem test_miss_timeout : (after (.missTimeout 5) { live with
      time := 22000
      misses := Vector.ofFn fun i => { gen := 40, active := some (miss1 2 (BitVec.ofNat 26 (1000 + i.val - 5)) 20000) }
      park := [rec1 1 1 .read 2 1000 (.waiting 5) false, rec1 1 2 .write 2 2048 .unnoticed false] }).near.queue.map
        Frame.body = [[4, 0]] ∧
    (after (.missTimeout 5) { live with
      time := 22000
      misses := Vector.ofFn fun i => { gen := 40, active := some (miss1 2 (BitVec.ofNat 26 (1000 + i.val - 5)) 20000) }
      park := [rec1 1 1 .read 2 1000 (.waiting 5) false, rec1 1 2 .write 2 2048 .unnoticed false] }).misses[(5 : MissId)] =
        { gen := 41, active := some { miss1 2 2048 22000 with access := .write } } := by decide +kernel
/-- The end of section 2's first example: a DENY of a freed ticket is STALE, 0 released. -/
theorem test_deny_stale : (after (.deny (mh 0) [1, 3, 9]) { live with
    misses := live.misses.set (1 : MissId) { gen := 3, active := none } }).chan.stored.map Frame.body = some [2, 0] := by
  decide +kernel

/-! ## Forwarding and fences (Tables 3-4 and 3-5) -/

/-- Table 3-4, event 5: the freed entry 40 goes to B, and C, a POST, leaves in the same event. -/
theorem test_arbiter_chain : (after (.farResponse 1 (rh 21 40) [1]) { live with
      outs := fullOuts
      park := [rec1 1 62 .write 2 69 (.ready tr []) false, rec1 3 63 .post 2 69 (.ready tr []) false] }).far.queue.map
        (fun f => f.hdr.tag) = [40, 0] := by decide +kernel

/-- Table 3-5 before its event 3. -/
def fenced : State := { live with
  time := 5000
  fences := live.fences.set (5 : Agent) (some 9)
  misses := live.misses.set (3 : MissId) { gen := 1, active := some (miss1 2 700 3000) }
  park := [rec1 5 1 .read 2 700 (.waiting 3) true] }

/-- Table 3-5, event 3: a second FENCE is refused BUSY, detail 2. -/
theorem test_second_fence : (after (.fence (nh 5 10) []) fenced).near.queue.map Frame.body = [[1, 2]] := by
  decide +kernel
/-- Table 3-5, event 6: the refusal of tag 1, then DONE for tag 9. -/
theorem test_fence_done_after_refusal : (after (.missTimeout 3) fenced).near.queue.map
    (fun f => (f.kind, f.hdr.tag)) = [(3, 1), (2, 9)] := by decide +kernel

/-! ## Outstanding entries (Tables 4-5 and 4-6) -/

/-- Entry 7 of Table 4-5. -/
def entry7 : State := { live with outs := live.outs.set (7 : BridgeTag) (some (out1 3 12 2 50000)) }

/-- At 54,000: EXPIRED, second deadline 58,000. -/
theorem test_response_timeout :
    ((after (.responseTimeout 7) { entry7 with time := 54000 }).outs[(7 : BridgeTag)]).map
      (fun o => (o.phase, o.deadline)) = some (.expired, 58000) := by decide +kernel
/-- Table 11-2 at 203,500: FAULT-NOTICE and then CLOSE-DONE (4, 60). -/
theorem test_timeout_closes : (after (.responseTimeout 16) { live with
    time := 203500
    ctxs := live.ctxs.set (4 : Ctx) { state := .closing 60, policy := .notice, supOnly := false }
    outs := live.outs.set (16 : BridgeTag) (some (out1 1 7 4 199500)) }).far.queue.map
      (fun f => (f.kind, f.body.take 2)) = [(49, [0, 0]), (51, [4, 60])] := by decide +kernel
/-- Table 4-6 at 70,000: entry 3 is an orphan, EXPIRED, with second deadline 74,000 and no mark. -/
theorem test_soft_reset_entry : ((after (.resetBridge (mh 0) []) { live with
    time := 70000
    outs := live.outs.set (3 : BridgeTag) (some { out1 2 8 1 68500 with marks := [1], held := true }) }).outs[(3 : BridgeTag)]).map
      (fun o => (o.phase, o.orphan, o.deadline, o.marks, o.held)) = some (.expired, true, 74000, [], false) := by
  decide +kernel

/-! ## Purges, contexts, quiesce (Tables 5-5, 6-7, 6-8 and 11-2; chapter 5's example of ALL) -/

/-- Set 30 under ALL without pins: order 0, 1, 2, 3, three entries counted, and PURGE-DONE at once. -/
theorem test_purge_all_unpinned :
    (after (.purge (mh 0) [0, 0, 0, 0, 0, 0, 0, 0]) (set5 { e69 with pinned := true } e197 e5 e5
      [2, 0, 3, 1])).cache[(5 : SetId)].order = [0, 1, 2, 3] ∧
    (after (.purge (mh 0) [0, 0, 0, 0, 0, 0, 0, 0]) (set5 { e69 with pinned := true } e197 e5 e5
      [2, 0, 3, 1])).far.queue.map (fun f => (f.kind, f.body)) = [(32, [5, 0, 0, 3]), (50, [0, 0])] := by decide +kernel
/-- Table 5-5, event 7: one response completes slots 0 and 2, in that order, and not slot 1. -/
theorem test_purge_done_order : (after (.farResponse 1 (rh 21 10) [1]) { live with
    outs := (live.outs.set (10 : BridgeTag) (some { out1 1 1 1 0 with marks := [0, 2] })).set (11 : BridgeTag)
      (some { out1 2 1 1 0 with marks := [1] })
    slots := #v[some ⟨.context 1, 30⟩, some ⟨.allGlobal, 31⟩, some ⟨.page 1 400 false, 32⟩, none] }).far.queue.map
      Frame.body = [[0, 30], [2, 32]] := by decide +kernel
/-- Table 6-7, event 4: a second close is ALREADY-CLOSING. -/
theorem test_close_again : (after (.closeContext (mh 0) [3]) { live with
    ctxs := live.ctxs.set (3 : Ctx) { state := .closing 41, policy := .notice, supOnly := false } }).chan.stored.map
      Frame.body = some [7, 2, 0, 0, 0, 0] := by decide +kernel
/-- Table 11-2 at 201,000: OPEN-CONTEXT of a CLOSING context is answered NAK STATE. -/
theorem test_open_closing : (after (.openContext (mh 0) [4, 0, 0]) { live with
    ctxs := live.ctxs.set (4 : Ctx) { state := .closing 60, policy := .notice, supOnly := false } }).chan.stored.map
      Frame.body = some [6, 3, 0] := by decide +kernel
/-- Table 11-1, number 1: QUIESCE with nothing held is QUIESCED at once, its notice carrying N = 0. -/
theorem test_quiesce_empty : (after (.quiesce (mh 0) []) live).far.queue.map (fun f => (f.kind, f.body, f.hdr.seq)) =
    [(32, [8, 1], 0), (52, [0], 0)] := by decide +kernel
/-- Table 6-8's note on a DENY at 100,950: ACK, the FAULT-NOTICE of the DENIED record, and QUIESCED (7) last. -/
theorem test_quiesced_by_deny : (after (.deny (mh 0) [2, 1, 0]) { live with
    time := 100950, bridge := .quiescing 7
    misses := live.misses.set (2 : MissId) { gen := 1, active := some (miss1 2 9 99400) } }).far.queue.map
      (fun f => (f.kind, f.body.take 2)) = [(32, [2, 0]), (49, [0, 0]), (52, [7])] := by decide +kernel

/-! ## The channel, the log, the links (Tables 7-7, 7-8, 8-5, 9-9) -/

/-- Table 7-7, event 3: NAK SEQ with detail 18, and E stays. -/
theorem test_nak_seq : (after (.readStatus (mh 19) []) { live with
    chan := { live.chan with expected := 18 } }).far.queue.map Frame.body = [[12, 1, 18]] := by decide +kernel
/-- Table 7-8 at 500,100: HANDOVER to node 55. -/
theorem test_handover : (after (.handover (mh 200) [55]) { live with
    chan := { live.chan with expected := 200, noticeSeq := 91 } }).chan =
      { live.chan with manager := some 55, expected := 0, stored := none, noticeSeq := 0 } := by decide +kernel
/-- Table 11-1, number 2: MISS-TIMEOUT 3000. -/
theorem test_set_param : (after (.setParam (mh 0) [1, 0x0B, 0xB8]) live).chan.params =
    { Params.initial with missTimeout := 3000 } := by decide +kernel
/-- Table 8-5: the snapshot holds 9,001 far frames and 41 misses, and the clear leaves 0. -/
theorem test_read_counters_clear : (after (.readCounters (mh 0) [1]) { live with
      ctr := { Counters.zero with farFrames := 9000, misses := 41 } }).chan.stored.map
        (fun f => (f.body.extract 4 8, f.body.extract 20 24)) = some ([0, 0, 0x23, 0x29], [0, 0, 0, 41]) ∧
    (after (.readCounters (mh 0) [1]) { live with
      ctr := { Counters.zero with farFrames := 9000, misses := 41 } }).ctr = Counters.zero := by decide +kernel
/-- R163: a 33rd record overwrites the oldest, takes number 132 and counts the overwrite. -/
theorem test_full_ring : (after (.foreignMgmt 12 { mh 0 with src := 41 } []) { live with
    log := { ring := (List.range 32).map fun i => { number := BitVec.ofNat 16 (100 + i), time := 0, what := { kind := .reset } }
             nextNumber := 132, overwritten := 0 } }).log.overwritten = 1 := by decide +kernel
/-- Table 9-9 at 300,000, on its own work: the count is the records dropped plus the entries made orphan. -/
theorem test_near_link_down : ((after .nearLinkDown { live with
    park := [rec1 2 1 .read 0 6 (.ready tr []) true, rec1 3 1 .post 0 6 (.ready tr []) false]
    outs := (live.outs.set (3 : BridgeTag) (some (out1 1 1 0 0))).set (7 : BridgeTag)
      (some { out1 4 1 0 0 with orphan := true }) }).log.ring.map fun r => (r.what.count, r.what.detail)) =
      [(some 3, 1)] := by decide +kernel
/-- Section 9's "had the far link gone first": READY records and entries counted, the POST in the detail. -/
theorem test_far_link_down : ((after .farLinkDown { live with
    park := [rec1 2 1 .read 0 6 (.ready tr []) false, rec1 3 1 .post 0 6 (.ready tr []) false]
    outs := fullOuts }).log.ring.map fun r => (r.what.count, r.what.detail)) = [(some 130, 1)] := by decide +kernel

/-! ## Witnesses: for each statement with hypotheses, a state and operands that meet them, clause by clause -/

/-- A request of agent 7 under tag 63. -/
def rq (kind : ReqKind) (ctx : Ctx) (mode : Mode) (address len : Nat) : Request :=
  { agent := 7, tag := 63, kind := kind, ctx := ctx, mode := mode, address := BitVec.ofNat 40 address, len := len
    payload := if kind = .read then [] else List.replicate len 7 }

/-- Its body. -/
def rb (kind : ReqKind) (ctx mode : Byte) (address len : Nat) : List Byte :=
  [ctx, mode] ++ beBytes 5 address ++ [byteOf (len - 1)] ++ (if kind = .read then [] else List.replicate len 7)

/-- One frame held to send. -/
def fr : Frame := { cls := .response, kind := 2, hdr := nh 0 0, body := [] }

/-- The manager's last reply stored, E at 5. -/
def replied : State := { live with chan := { live.chan with expected := 5, stored := some fr } }

/-- `live` with one context record. -/
def withCtx (c : Ctx) (st : CtxState) (policy : MissPolicy) (supOnly : Bool) : State :=
  { live with ctxs := live.ctxs.set c { state := st, policy := policy, supOnly := supOnly } }

/-- `live` with one outstanding entry. -/
def withOut (g : BridgeTag) (o : OutEntry) : State := { live with outs := live.outs.set g (some o) }

/-- `live` with one active miss, of generation 6. -/
def withMiss (id : MissId) (m : Miss) : State := { live with misses := live.misses.set id { gen := 6, active := some m } }

/-- Every miss id active, each for its own page. -/
def fullMisses : Vector MissSlot 16 :=
  Vector.ofFn fun i => { gen := 1, active := some (miss1 0 (BitVec.ofNat 26 (500 + i.val)) 0) }

theorem witness_IdleStepIsOneMicrosecond : (live.pending = [] ∧ live.powered = true) ∧
    ({ live with powered := false } : State).pending = [] ∧ ({ live with powered := false } : State).powered = false := by
  decide +kernel

theorem witness_PowerLinksAndSending : live.powered = true ∧ ({ live with powered := false } : State).powered = false ∧
    ((onNear live [fr]).near.up = true ∧ (onNear live [fr]).near.queue = [fr]) ∧
    ((onFar live [fr]).far.up = true ∧ (onFar live [fr]).far.queue = [fr]) ∧ live.near.queue = [] ∧ live.far.queue = [] ∧
    State.reset.near.up = false ∧ State.reset.far.up = false := by decide +kernel

theorem witness_NearLinkDown : State.reset.near.up = false ∧ live.near.up = true := by decide +kernel

theorem witness_FarLinkDown : State.reset.far.up = false ∧ live.far.up = true ∧ live.near.up = true := by decide +kernel

theorem witness_SentFrameIsReceived : ({ fr with body := List.replicate 300 1 } : Frame).body.length ≤ 300 := by
  decide +kernel

theorem witness_CrcDiscard : (¬∃ f : Frame, f.body.length ≤ 300 ∧ frameBytes f = [1, 2, 3]) ∧ live.near.up = true ∧
    live.far.up = true ∧ State.reset.near.up = false ∧ State.reset.far.up = false := by
  refine ⟨fun ⟨f, _, h⟩ => ?_, by decide +kernel⟩
  have := congrArg List.length h
  simp [frameBytes, frameHead] at this

theorem witness_EntryRecordIsReadBack : (ent (.context 15) 67108863 true true).valid = true := rfl

theorem witness_NearFramesDiscarded : NearTakes live (List.replicate 300 0) ∧ (0 : BitVec 6).toNat = 0 ∧
    4 < (5 : BitVec 6).toNat ∧ agentOf (nh 8 0) = none ∧ agentOf (nh 7 64) = some 7 ∧ nearTagOf (nh 7 64) = none := by
  decide +kernel

theorem witness_NearMgmtDiscarded : NearTakes live (List.replicate 300 0) := by decide +kernel

theorem witness_MalformedAndDuplicates :
    (NearTakes live [0, 0, 0, 0, 0, 0, 0] ∧ agentOf (nh 7 63) = some 7 ∧ nearTagOf (nh 7 63) = some 63) ∧
    (rb .write 0 0 0 1).length ≠ 8 ∧ (rb .read 0 0 0 2).length ≠ 9 + ((rb .read 0 0 0 2).getD 7 0).toNat ∧
    (rb .read 16 0 0 1).length = 8 ∧ 15 < ((rb .read 16 0 0 1).getD 0 0).toNat ∧ ((rb .read 15 2 0 1).getD 0 0).toNat ≤ 15 ∧
    1 < ((rb .read 15 2 0 1).getD 1 0).toNat ∧ (8 < (rb .post 16 0 0 256).length ∧
      (rb .post 16 0 0 256).length = 9 + ((rb .post 16 0 0 256).getD 7 0).toNat) ∧
    (∃ r ∈ ({ live with park := [rec1 7 63 .read 0 0 .unnoticed false] } : State).park, r.agent = 7 ∧ r.tag = 63) ∧
    (∃ (i : BridgeTag) (o : OutEntry), (withOut 127 (out1 7 63 0 0)).outs[i] = some o ∧ o.phase = .waiting ∧
      o.orphan = false ∧ o.agent = 7 ∧ o.tag = 63) ∧
    ({ live with fences := live.fences.set (7 : Agent) (some 63) } : State).fences[(7 : Agent)] = some 63 ∧
    (rb .write 15 1 0 256).length ≤ 300 ∧
    judgeBody .write 7 63 (rb .write 15 1 0 256) = .good (rq .write 15 .supervisor 0 256) := by
  refine ⟨?_, ?_, ?_, ?_, ?_, ?_, ?_, ?_, ?_, ⟨127, out1 7 63 0 0, ?_⟩, ?_, ?_, ?_⟩ <;> decide +kernel

/-- RUNNING, the far link UP, and the request within its page: what steps 9 and 10 find (R63 to R65). -/
abbrev Inside (s : State) (r : Request) : Prop :=
  s.bridge = .running ∧ s.far.up = true ∧ (offsetOf r.address).toNat + r.len ≤ 16384

/-- The clauses at their edges: 256 bytes at offset 16,129 and at 16,128 (R65). -/
theorem witness_IntakeRefusals :
    (Arrives { live with bridge := .quiescing 0 } .read (nh 7 63) (rb .read 15 0 0 1) (rq .read 15 .user 0 1) ∧
      ({ live with bridge := .quiescing 0 } : State).bridge ≠ .running) ∧
    (Arrives { live with far := PortState.initial } .post (nh 7 63) (rb .post 0 0 0 1) (rq .post 0 .user 0 1) ∧
      ({ live with far := PortState.initial } : State).bridge = .running ∧
      ({ live with far := PortState.initial } : State).far.up = false) ∧
    (Arrives live .read (nh 7 63) (rb .read 0 0 16129 256) (rq .read 0 .user 16129 256) ∧ live.bridge = .running ∧
      live.far.up = true ∧ 16384 < (offsetOf (rq .read 0 .user 16129 256).address).toNat + 256) ∧
    (Arrives (withCtx 15 .closed .notice false) .write (nh 7 63) (rb .write 15 0 16128 256) (rq .write 15 .user 16128 256) ∧
      Inside (withCtx 15 .closed .notice false) (rq .write 15 .user 16128 256) ∧
      (withCtx 15 .closed .notice false).ctxs[(15 : Ctx)].state = .closed) ∧
    (Arrives (withCtx 15 (.closing 3) .notice false) .read (nh 7 63) (rb .read 15 0 0 1) (rq .read 15 .user 0 1) ∧
      Inside (withCtx 15 (.closing 3) .notice false) (rq .read 15 .user 0 1) ∧
      (withCtx 15 (.closing 3) .notice false).ctxs[(15 : Ctx)].state = .closing 3) ∧
    (Arrives (withCtx 15 .opened .notice true) .read (nh 7 63) (rb .read 15 0 0 1) (rq .read 15 .user 0 1) ∧
      Inside (withCtx 15 .opened .notice true) (rq .read 15 .user 0 1) ∧
      (withCtx 15 .opened .notice true).ctxs[(15 : Ctx)].state = .opened ∧
      (withCtx 15 .opened .notice true).ctxs[(15 : Ctx)].supOnly = true) := by
  refine ⟨?_, ?_, ?_, ?_, ?_, ?_⟩ <;> decide +kernel

/-- `live` with the park buffer holding `n` READY records of agent 1 and 2, and no more. -/
def parked (n : Nat) (st : ParkState) : State :=
  { live with park := (List.range n).map fun i => rec1 ⟨i % 2, by omega⟩ ⟨i / 2 % 64, by omega⟩ .read 0 700 st false }

/-- A READ of context 0 that is admitted and misses: the premises that the cases of a miss share. -/
abbrev Missing (s : State) (address : Nat) : Prop :=
  Arrives s .read (nh 7 63) (rb .read 0 0 address 1) (rq .read 0 .user address 1) ∧
    Admitted s (rq .read 0 .user address 1) ∧
    ∀ w : WayId, s.cache[setOf (pageOf (BitVec.ofNat 40 address))].ways[w].matchesPair 0
      (pageOf (BitVec.ofNat 40 address)) = false

/-- Page 300 is at 4,915,200 and page 700 at 11,468,800. -/
theorem witness_MissCases :
    (Missing (withCtx 0 .opened .refuse false) 4915200 ∧
      (withCtx 0 .opened .refuse false).ctxs[(0 : Ctx)].policy = .refuse) ∧
    (Missing (parked 64 .unnoticed) 4915200 ∧ (parked 64 .unnoticed).ctxs[(0 : Ctx)].policy = .notice ∧
      64 ≤ (parked 64 .unnoticed).park.length) ∧
    (Missing (withMiss 15 (miss1 0 300 0)) 4915200 ∧ (withMiss 15 (miss1 0 300 0)).park.length < 64 ∧
      (withMiss 15 (miss1 0 300 0)).missFor 0 (pageOf 4915200) = some 15) ∧
    (Missing (parked 63 .unnoticed) 11468800 ∧ (parked 63 .unnoticed).park.length < 64 ∧
      (parked 63 .unnoticed).missFor 0 (pageOf 11468800) = none ∧
      ∃ q ∈ (parked 63 .unnoticed).park, q.state = .unnoticed ∧ q.ctx = 0 ∧ pageOf q.address = pageOf 11468800) ∧
    (Missing live 4915200 ∧ live.ctxs[(0 : Ctx)].policy = .notice ∧ live.park.length < 64 ∧
      live.missFor 0 (pageOf 4915200) = none ∧ live.freeMissId = some 0 ∧
      ¬∃ q ∈ live.park, q.state = .unnoticed ∧ q.ctx = 0 ∧ pageOf q.address = pageOf 4915200) ∧
    (Missing { live with misses := fullMisses } 4915200 ∧ ({ live with misses := fullMisses } : State).park.length < 64 ∧
      ({ live with misses := fullMisses } : State).freeMissId = none ∧
      ({ live with misses := fullMisses } : State).missFor 0 (pageOf 4915200) = none) := by
  refine ⟨?_, ?_, ?_, ?_, ?_, ?_⟩ <;> decide +kernel

/-- `live` with one entry for (0, 5) in way 3 of set 5. -/
def hitting (e : Entry) : State := set5 Entry.initial Entry.initial Entry.initial e [3, 2, 1, 0]

theorem witness_HitsRefusedOrZero :
    ∀ e ∈ [{ ent (.context 0) 5 true false with user := false }, ent (.context 0) 5 false false,
        { ent (.context 0) 5 true false with action := .guard }, { ent (.context 0) 5 true false with action := .zero }],
      Arrives (hitting e) .write (nh 7 63) (rb .write 0 0 81920 1) (rq .write 0 .user 81920 1) ∧
      Admitted (hitting e) (rq .write 0 .user 81920 1) ∧
      (hitting e).cache[setOf (pageOf 81920)].lookup 0 (pageOf 81920) = some 3 ∧
      (hitting e).cache[setOf (pageOf 81920)].ways[(3 : WayId)] = e := by decide +kernel

/-- A USER request for page 5 of context 0 that hits a FORWARD entry in way 3: the premises that the cases share. -/
abbrev Forwards (s : State) (kind : ReqKind) : Prop :=
  Arrives s kind (nh 7 63) (rb kind 0 0 81920 1) (rq kind 0 .user 81920 1) ∧ Admitted s (rq kind 0 .user 81920 1) ∧
    s.cache[setOf (pageOf 81920)].lookup 0 (pageOf 81920) = some 3 ∧
    s.cache[setOf (pageOf 81920)].ways[(3 : WayId)] = ent .allContexts 5 true false

/-- The state of those cases with `n` READY records. -/
def queued (n : Nat) : State :=
  { parked n (.ready tr []) with cache := (hitting (ent .allContexts 5 true false)).cache }

theorem witness_ForwardHits :
    (∀ kind ∈ [ReqKind.read, .write, .post], Forwards (queued 0) kind ∧ (queued 0).readyExists = false ∧
      (queued 0).freeTag = some 0 ∧
      (if kind = ReqKind.read then (ent .allContexts 5 true false).read else (ent .allContexts 5 true false).write) = true) ∧
    (Forwards (queued 63) .post ∧ (queued 63).readyExists = true ∧ (queued 63).park.length < 64) ∧
    (Forwards (queued 64) .post ∧ (queued 64).readyExists = true ∧ 64 ≤ (queued 64).park.length) ∧
    (Forwards { queued 0 with outs := fullOuts } .write ∧ ({ queued 0 with outs := fullOuts } : State).freeTag = none ∧
      ({ queued 0 with outs := fullOuts } : State).readyExists = false) := by
  refine ⟨?_, ?_, ?_, ?_⟩ <;> decide +kernel

theorem witness_FenceTaken :
    (FenceArrives { live with bridge := .quiesced 0 } (nh 7 63) 7 63 ∧
      ({ live with bridge := .quiesced 0 } : State).bridge ≠ .running) ∧
    (FenceArrives fenced (nh 5 63) 5 63 ∧ fenced.bridge = .running ∧ fenced.fences[(5 : Agent)] ≠ none) ∧
    (FenceArrives live (nh 7 63) 7 63 ∧ live.bridge = .running ∧ live.fences[(7 : Agent)] = none ∧ live.park = [] ∧
      (∀ i : BridgeTag, live.outs[i] = none)) ∧
    (FenceArrives { fenced with fences := live.fences } (nh 5 63) 5 63 ∧ ∃ r ∈ fenced.park, r.agent = 5) := by
  decide +kernel

theorem witness_ResponseTable : (List.replicate 256 (1 : Byte)).length = 256 ∧ ([] : List Byte).length ≠ 1 ∧
    ([0] : List Byte) ≠ [] ∧ ([0, 1, 2] : List Byte).length ≠ 2 ∧ (0 : BitVec 6) ≠ 1 ∧ (4 : BitVec 6) ≠ 3 := by decide +kernel

/-- The premises of a response that a WAITING entry takes. -/
abbrev Taken (s : State) (o : OutEntry) : Prop :=
  FarTakes s [1] ∧ nodeField (rh 21 127).dst = s.node ∧ (rh 21 127).tag = byteOf (127 : BridgeTag).val ∧
    s.outs[(127 : BridgeTag)] = some o ∧ o.phase = .waiting ∧ nodeField (rh 21 127).src = o.node

/-- A held entry with a mark, on which a fence, a slot and a close wait while the bridge drains. -/
def awaited : State :=
  { withOut 127 { out1 7 63 15 0 with marks := [3], held := true } with
    fences := live.fences.set (7 : Agent) (some 1)
    slots := live.slots.set (3 : SlotId) (some ⟨.context 15, 9⟩)
    ctxs := live.ctxs.set (15 : Ctx) { state := .closing 3, policy := .notice, supOnly := false }
    bridge := .quiescing 7 }

/-- A good response, one to an orphan, one to an orphan while the near link is DOWN, and one on which much waits. -/
theorem witness_ResponseTaken :
    (Taken (withOut 127 (out1 7 63 0 0)) (out1 7 63 0 0) ∧ live.near.up = true ∧ NothingWaits (withOut 127 (out1 7 63 0 0)) ∧
      (judgeResponse .read 1 1 [1]).error = none ∧ (out1 7 63 0 0).orphan = false) ∧
    (Taken (withOut 127 { out1 7 63 0 0 with orphan := true }) { out1 7 63 0 0 with orphan := true } ∧
      NothingWaits (withOut 127 { out1 7 63 0 0 with orphan := true })) ∧
    Taken { withOut 127 { out1 7 63 0 0 with orphan := true } with near := PortState.initial }
      { out1 7 63 0 0 with orphan := true } ∧
    Taken awaited { out1 7 63 15 0 with marks := [3], held := true } ∧ awaited.fences[(7 : Agent)] = some 1 ∧
    ({ awaited with outs := live.outs } : State).heldBy 7 = false := by decide +kernel

/-- R98 on `awaited`: the answer and DONE on the near port; PURGE-DONE, CLOSE-DONE and QUIESCED on the far port. -/
theorem test_response_ends_all_waiting :
    (after (.farResponse 1 (rh 21 127) [1]) awaited).near.queue.map (fun f => (f.kind, f.hdr.tag)) = [(1, 63), (2, 1)] ∧
    (after (.farResponse 1 (rh 21 127) [1]) awaited).far.queue.map (fun f => (f.kind, f.body)) =
      [(50, [3, 9]), (51, [15, 3]), (52, [7])] := by decide +kernel

/-- A head READY behind a record that is not. -/
def headed (kind : ReqKind) : State :=
  { live with park := [rec1 1 1 .read 0 700 .unnoticed false, rec1 0 0 kind 0 700 (.ready tr []) false] }

/-- A READ waits READY, every outstanding entry is in use, and entry 127 is EXPIRED, while the bridge drains. -/
def lateFreed : State :=
  { headed .read with outs := fullOuts.set (127 : BridgeTag) (some (out1 7 63 0 0).timedOut), bridge := .quiescing 7 }

/-- R91 and R73: the late response frees entry 127, and the READ leaves under it. -/
theorem test_late_response_frees : (after (.farResponse 1 (rh 21 127) []) lateFreed).far.queue.map
    (fun f => (f.cls, f.kind, f.hdr.tag)) = [(.request, 1, 127)] := by decide +kernel

theorem witness_LateResponses_waiting : FarTakes lateFreed [] ∧ nodeField (rh 21 127).dst = lateFreed.node ∧
    lateFreed.outs[(127 : BridgeTag)] = some (out1 7 63 0 0).timedOut ∧
    nodeField (rh 21 127).src = (out1 7 63 0 0).timedOut.node ∧ (out1 7 63 0 0).timedOut.phase = .expired ∧
    lateFreed.readyExists = true ∧ lateFreed.bridge = .quiescing 7 := by decide +kernel

theorem witness_LateResponses : FarTakes live [] ∧ nodeField (rh 21 127).dst = live.node ∧
    (¬∃ (g : BridgeTag) (o : OutEntry), (rh 21 128).tag.toNat = g.val ∧ live.outs[g] = some o ∧ nodeField (rh 21 128).src = o.node) ∧
    ((rh 21 127).tag.toNat = (127 : BridgeTag).val ∧
      (withOut 127 (out1 7 63 0 0).timedOut).outs[(127 : BridgeTag)] = some (out1 7 63 0 0).timedOut ∧
      nodeField (rh 21 127).src = (out1 7 63 0 0).timedOut.node ∧ (out1 7 63 0 0).timedOut.phase = .expired ∧
      (withOut 127 (out1 7 63 0 0).timedOut).readyExists = false) ∧ (∀ q, live.bridge ≠ .quiescing q) := by
  refine ⟨by decide +kernel, by decide +kernel, fun ⟨g, _, h, _⟩ => ?_, by decide +kernel, nofun⟩
  have h' : (128 : Nat) = g.val := h
  have := g.isLt
  omega

theorem witness_EntryDeadlines :
    (({ withOut 127 (out1 7 63 0 0) with time := 3999 } : State).outs[(127 : BridgeTag)] = some (out1 7 63 0 0) ∧
      reached (out1 7 63 0 0).deadline ({ withOut 127 (out1 7 63 0 0) with time := 3999 } : State).time = false) ∧
    (({ withOut 127 (out1 7 63 0 0) with time := 4000 } : State).outs[(127 : BridgeTag)] = some (out1 7 63 0 0) ∧
      reached (out1 7 63 0 0).deadline ({ withOut 127 (out1 7 63 0 0) with time := 4000 } : State).time = true ∧
      (out1 7 63 0 0).phase = .waiting ∧ NothingWaits { withOut 127 (out1 7 63 0 0) with time := 4000 } ∧
      ({ withOut 127 (out1 7 63 0 0) with time := 4000 } : State).near.up = true) ∧
    (({ withOut 127 (out1 7 63 0 0).timedOut with time := 8000 } : State).outs[(127 : BridgeTag)] =
        some (out1 7 63 0 0).timedOut ∧
      reached (out1 7 63 0 0).timedOut.deadline ({ withOut 127 (out1 7 63 0 0) with time := 8000 } : State).time = true ∧
      (out1 7 63 0 0).timedOut.phase = .expired ∧
      ({ withOut 127 (out1 7 63 0 0).timedOut with time := 8000 } : State).readyExists = false) ∧
    ∀ q, ({ withOut 127 (out1 7 63 0 0).timedOut with time := 8000 } : State).bridge ≠ .quiescing q := by
  refine ⟨?_, ?_, ?_, nofun⟩ <;> decide +kernel

/-- The last POST in the bridge, held by a fence and marked, while the bridge drains. -/
def lastPost : State :=
  { live with
    park := [rec1 5 1 .post 0 700 (.ready tr [3]) true]
    fences := live.fences.set (5 : Agent) (some 9)
    slots := live.slots.set (3 : SlotId) (some ⟨.all, 1⟩)
    bridge := .quiescing 7 }

theorem witness_ArbiterForwards :
    (∀ kind ∈ [ReqKind.read, .write, .post],
      (headed kind).park = [rec1 1 1 .read 0 700 .unnoticed false] ++ rec1 0 0 kind 0 700 (.ready tr []) false :: [] ∧
      (∀ q ∈ [rec1 1 1 .read 0 700 .unnoticed false], q.isReady = false) ∧
      (rec1 0 0 kind 0 700 (.ready tr []) false).state = .ready tr [] ∧ (headed kind).far.up = true ∧
      (headed kind).freeTag = some 0 ∧ (rec1 0 0 kind 0 700 (.ready tr []) false).held = false ∧
      (∀ k : SlotId, (headed kind).slots[k] = none)) ∧
    ({ headed .read with outs := fullOuts } : State).freeTag = none ∧ live.readyExists = false ∧
    State.reset.far.up = false ∧
    (lastPost.park = [] ++ rec1 5 1 .post 0 700 (.ready tr [3]) true :: [] ∧ lastPost.far.up = true ∧
      ({ lastPost with park := [] } : State).heldBy 5 = false ∧ lastPost.fences[(5 : Agent)] = some 9) ∧
    ∀ kind q, (headed kind).bridge ≠ .quiescing q := by
  refine ⟨?_, ?_, ?_, ?_, ?_, nofun⟩ <;> decide +kernel

/-- R80, R110 and R132 on `lastPost`: the POST, PURGE-DONE and QUIESCED on the far port, DONE on the near port. -/
theorem test_last_post_leaves :
    (after .arbiterForward lastPost).far.queue.map (fun f => (f.cls, f.kind)) = [(.request, 3), (.mgmt, 50), (.mgmt, 52)] ∧
    (after .arbiterForward lastPost).near.queue.map (fun f => (f.kind, f.hdr.tag)) = [(2, 9)] := by decide +kernel

theorem witness_EndsOfWaiting :
    (({ live with fences := fenced.fences } : State).fences[(5 : Agent)] = some 9 ∧
      ({ live with fences := fenced.fences } : State).heldBy 5 = false) ∧ (live.fences[(0 : Agent)] = none ∧ fenced.heldBy 5 = true) ∧
    (∀ q, live.bridge ≠ .quiescing q) ∧
    (({ live with slots := live.slots.set (3 : SlotId) (some ⟨.all, 1⟩) } : State).slots[(3 : SlotId)] = some ⟨.all, 1⟩ ∧
      ({ live with slots := live.slots.set (3 : SlotId) (some ⟨.all, 1⟩) } : State).carriers 3 = 0) ∧
    (live.slots[(3 : SlotId)] = none ∧ (parked 1 (.ready tr [3])).carriers 3 ≠ 0) ∧
    (withCtx 15 (.closing 3) .notice false).ctxs[(15 : Ctx)].state = .closing 3 ∧
    (∀ g : BridgeTag, (withCtx 15 (.closing 3) .notice false).outs[g] = none) ∧
    (withOut 0 (out1 0 0 15 0)).outs[(0 : BridgeTag)] = some (out1 0 0 15 0) ∧ live.ctxs[(15 : Ctx)].state = .opened ∧
    (({ live with bridge := .quiescing 7 } : State).park = [] ∧
      (∀ id : MissId, ({ live with bridge := .quiescing 7 } : State).misses[id].active = none)) ∧
    ({ fenced with bridge := .quiescing 7 } : State).drained = false := by
  refine ⟨?_, ?_, nofun, ?_, ?_, ?_, ?_, ?_, ?_, ?_, ?_⟩ <;> decide +kernel

theorem witness_NotTarget : FarTakes live (List.replicate 300 0) ∧ nodeField (mh 0).dst = live.node ∧
    nodeField ({ mh 0 with dst := 3 } : Header).dst ≠ live.node := by decide +kernel

theorem witness_FarFramesNotTaken : FarTakes live (List.replicate 300 0) ∧
    nodeField ({ mh 0 with dst := 3 } : Header).dst ≠ live.node ∧ nodeField (rh 41 0).dst = live.node ∧
    live.chan.manager ≠ some (nodeField (rh 41 0).src) ∧ State.reset.chan.manager ≠ some (nodeField (mh 0).src) := by
  decide +kernel

/-- E-1, also across the wrap from 0 to 255. -/
theorem witness_Replay : FarTakes replied [] ∧ nodeField (mh 4).dst = replied.node ∧
    replied.chan.manager = some (nodeField (mh 4).src) ∧ replied.chan.stored = some fr ∧ (mh 4).seq + 1 = replied.chan.expected ∧
    (mh 255).seq + 1 = live.chan.expected := by decide +kernel

theorem witness_NakSequence : FarTakes replied [] ∧ nodeField (mh 6).dst = replied.node ∧
    replied.chan.manager = some (nodeField (mh 6).src) ∧ (mh 6).seq ≠ replied.chan.expected ∧
    (mh 6).seq + 1 ≠ replied.chan.expected ∧ live.chan.stored = none ∧ (mh 255).seq ≠ live.chan.expected := by decide +kernel

theorem witness_ChannelNaks : UnderE live (mh 0) (List.replicate 300 0) ∧ (0 : BitVec 6).toNat = 0 ∧
    17 < (18 : BitVec 6).toNat ∧ UnderE live (mh 0) [0] ∧ ([0] : List Byte).length ≠ commandLength .quiesce ∧
    (List.replicate 12 (0 : Byte)).length ≠ commandLength .fill := by decide +kernel

/-- Set 5 full, and set 5 with three pins beside way 3. -/
def filled : State := set5 e69 e133 e197 e5 [0, 2, 1, 3]
def pinned3 : State := set5 (ent .allContexts 69 true true) e133 { e197 with pinned := true } e5 [0, 2, 1, 3]

/-- One FILL for each NAK: RANGE, STATE, DUPLICATE, PINNED-FULL. -/
theorem witness_FillNaks :
    (UnderE live (mh 0) (List.replicate 13 0) ∧ fillArgs (List.replicate 13 0) = none) ∧
    (UnderE (withCtx 2 .closed .notice false) (mh 0) (fillBody e69 4) ∧
      fillArgs (fillBody e69 4) = some { entry := e69, way := .auto, ticket := none } ∧ e69.scope = .context 2 ∧
      (withCtx 2 .closed .notice false).ctxs[(2 : Ctx)].state ≠ .opened) ∧
    (UnderE filled (mh 0) (fillBody (ent (.context 7) 133 false false) 4) ∧
      fillArgs (fillBody (ent (.context 7) 133 false false) 4) =
        some { entry := ent (.context 7) 133 false false, way := .auto, ticket := none } ∧
      filled.ctxs[(7 : Ctx)].state = .opened ∧
      ∃ v : WayId, v ≠ filled.cache[(5 : SetId)].target (ent (.context 7) 133 false false) .auto ∧
        Clash filled.cache[(5 : SetId)].ways[v] (ent (.context 7) 133 false false)) ∧
    (UnderE pinned3 (mh 0) (fillBody (ent (.context 4) 5 true true) 3) ∧
      fillArgs (fillBody (ent (.context 4) 5 true true) 3) =
        some { entry := ent (.context 4) 5 true true, way := .explicit 3, ticket := none } ∧
      pinned3.ctxs[(4 : Ctx)].state = .opened ∧ (∀ v : WayId, v ≠ 3 → pinned3.cache[(5 : SetId)].ways[v].pinned = true) ∧
      ∀ v : WayId, v ≠ 3 → ¬Clash pinned3.cache[(5 : SetId)].ways[v] (ent (.context 4) 5 true true)) := by
  refine ⟨?_, ?_, ?_, ?_⟩ <;> decide +kernel

/-- R14 and R19, choice by choice: an explicit way; the identical key; the invalid way nearest the back; and with every way
valid the unpinned one nearest the back. -/
theorem witness_TargetWay :
    TargetWay filled.cache[(5 : SetId)] e5 (.explicit 2) 2 ∧ TargetWay filled.cache[(5 : SetId)] e197 .auto 2 ∧
    TargetWay live.cache[(5 : SetId)] e69 .auto 0 ∧ TargetWay pinned3.cache[(5 : SetId)] e69 .auto 3 ∧
    TargetWay filled.cache[(5 : SetId)] (ent (.context 7) 261 false false) .auto 3 := by
  refine ⟨rfl, .inl ?_, .inr ⟨?_, [3, 2, 1], [], ?_⟩, .inr ⟨?_, [0, 2, 1], [], ?_⟩, .inr ⟨?_, [0, 2, 1], [], ?_⟩⟩ <;>
    decide +kernel

theorem witness_FillInstalls : UnderE live (mh 0) (fillBody e69 4) ∧
    fillArgs (fillBody e69 4) = some { entry := e69, way := .auto, ticket := none } ∧ judgeFill live e69 .auto = .ok 0 ∧
    live.park = [] ∧ (∀ id : MissId, live.misses[id].active = none) ∧
    (e69.scope = .context 2 ∧ live.ctxs[(2 : Ctx)].state = .opened ∧ e69.pinned = false ∧
      ∀ v : WayId, v ≠ 0 → ¬Clash live.cache[(5 : SetId)].ways[v] e69) ∧ (∀ q, live.bridge ≠ .quiescing q) := by
  refine ⟨?_, ?_, by rfl, ?_, ?_, ?_, nofun⟩ <;> decide +kernel

/-- A state in which a FILL has records to release and misses to free. -/
theorem witness_FillReleases : UnderE coalesced (mh 0) (fillBody (ent .allContexts 300 false false) 4) ∧
    fillArgs (fillBody (ent .allContexts 300 false false) 4) =
      some { entry := ent .allContexts 300 false false, way := .auto, ticket := none } ∧
    judgeFill coalesced (ent .allContexts 300 false false) .auto = .ok 0 ∧
    coalesced.misses[(1 : MissId)].active = some (miss1 3 300 10200) ∧
    (ent .allContexts 300 false false).matchesPair 3 300 = true := by
  refine ⟨?_, ?_, by rfl, ?_, ?_⟩ <;> decide +kernel

theorem witness_PinAndReadEntry :
    (UnderE live (mh 0) [64, 0, 0] ∧ 63 < (64 : Byte).toNat) ∧ (UnderE live (mh 0) [63, 4, 0] ∧ 3 < (4 : Byte).toNat) ∧
    (UnderE live (mh 0) [63, 3, 2] ∧ 1 < (2 : Byte).toNat) ∧ UnderE live (mh 0) [63, 4] ∧
    (UnderE live (mh 0) [] ∧ live.cache[(63 : SetId)].ways[(3 : WayId)].valid = false) ∧
    (UnderE (hitting e5) (mh 0) [] ∧ (hitting e5).cache[(5 : SetId)].ways[(3 : WayId)].valid = true ∧
      ∃ v : WayId, v ≠ 3 ∧ (hitting e5).cache[(5 : SetId)].ways[v].pinned = false) ∧
    (UnderE pinned3 (mh 0) [] ∧ pinned3.cache[(5 : SetId)].ways[(3 : WayId)].valid = true ∧
      pinned3.cache[(5 : SetId)].ways[(3 : WayId)].pinned = false ∧
      ∀ v : WayId, v ≠ 3 → pinned3.cache[(5 : SetId)].ways[v].pinned = true) := by decide +kernel

/-- `live` with its first three purge slots in use. -/
def lastSlot : State := { live with slots := #v[some ⟨.all, 0⟩, some ⟨.all, 0⟩, some ⟨.all, 0⟩, none] }

/-- Each field at its edge, and each outcome: BUSY, slot 3 with nothing marked, slot 3 with a carrier. -/
theorem witness_Purge :
    (UnderE live (mh 0) [0, 0, 0, 0, 0, 0, 0, 0] ∧ 3 < (4 : Byte).toNat ∧ 1 < (2 : Byte).toNat ∧ 15 < (16 : Byte).toNat ∧
      67108863 < beNat [4, 0, 0, 0]) ∧
    (UnderE { live with slots := Vector.replicate 4 (some ⟨.all, 0⟩) } (mh 0) [0, 1, 0, 0, 0, 0, 0, 0] ∧
      purgeArgs [0, 1, 0, 0, 0, 0, 0, 0] = some (.all, true) ∧
      ∀ k : SlotId, ({ live with slots := Vector.replicate 4 (some ⟨.all, 0⟩) } : State).slots[k] ≠ none) ∧
    (UnderE lastSlot (mh 0) [2, 0, 1, 15, 3, 255, 255, 255] ∧
      purgeArgs [2, 0, 1, 15, 3, 255, 255, 255] = some (.page 15 67108863 true, false) ∧
      lastSlot.slots[(3 : SlotId)] = none ∧ (∀ j : SlotId, j < 3 → lastSlot.slots[j] ≠ none) ∧ lastSlot.carriers 3 = 0) ∧
    0 < (parked 1 (.ready tr [3])).carriers 3 := by decide +kernel

theorem witness_Deny :
    (UnderE live (mh 0) [] ∧ live.misses[(15 : MissId)].active = none ∧ 15 < (16 : Byte).toNat) ∧
    (UnderE (withMiss 15 (miss1 1 300 0)) (mh 0) [] ∧ (withMiss 15 (miss1 1 300 0)).misses[(15 : MissId)].gen ≠ 255 ∧
      (withMiss 15 (miss1 1 300 0)).misses[(15 : MissId)] = { gen := 6, active := some (miss1 1 300 0) }) ∧
    (UnderE coalesced (mh 0) [] ∧ coalesced.misses[(0 : MissId)] = { gen := 7, active := some (miss1 1 300 10000) } ∧
      coalesced.near.up = true ∧ (∀ r ∈ coalesced.park, r.state ≠ .unnoticed) ∧
      ∀ r ∈ coalesced.waiters 0, r.held = false) ∧
    UnderE { coalesced with near := PortState.initial } (mh 0) [] ∧ ∀ q, coalesced.bridge ≠ .quiescing q := by
  refine ⟨?_, ?_, ?_, ?_, nofun⟩ <;> decide +kernel

/-- Both clauses on what the freed entry does: no UNNOTICED record, and an oldest one behind a waiter. -/
theorem witness_MissTimeout :
    live.misses[(15 : MissId)].active = none ∧
    (coalesced.misses[(0 : MissId)].active = some (miss1 1 300 10000) ∧
      reached (miss1 1 300 10000).deadline ({ coalesced with time := 11999 } : State).time = false ∧
      reached (miss1 1 300 10000).deadline ({ coalesced with time := 12000 } : State).time = true ∧ coalesced.near.up = true ∧
      (∀ r ∈ coalesced.park, r.state ≠ .unnoticed) ∧ ∀ r ∈ coalesced.waiters 0, r.held = false) ∧
    (parked 2 .unnoticed).park = [] ++ rec1 0 0 .read 0 700 .unnoticed false :: [rec1 1 0 .read 0 700 .unnoticed false] ∧
    ∀ q, coalesced.bridge ≠ .quiescing q := by
  refine ⟨?_, ?_, ?_, nofun⟩ <;> decide +kernel

theorem witness_MissNotice :
    live.misses[(15 : MissId)].active = none ∧
    (withMiss 15 (miss1 1 300 0)).misses[(15 : MissId)].active = some (miss1 1 300 0) ∧ (miss1 1 300 0).next = some 500 ∧
    reached 500 ({ withMiss 15 (miss1 1 300 0) with time := 499 } : State).time = false ∧
    reached 500 ({ withMiss 15 (miss1 1 300 0) with time := 500 } : State).time = true ∧
    (withMiss 15 { miss1 1 300 0 with sent := 3, next := none }).misses[(15 : MissId)].active =
      some { miss1 1 300 0 with sent := 3, next := none } := by decide +kernel

theorem witness_MissEntryOffer : (parked 2 .unnoticed).misses[(15 : MissId)].active = none ∧
    (parked 2 .unnoticed).park = [rec1 0 0 .read 0 700 .unnoticed false] ++ rec1 1 0 .read 0 700 .unnoticed false :: [] ∧
    (parked 2 .unnoticed).park = [] ++ rec1 0 0 .read 0 700 .unnoticed false :: [rec1 1 0 .read 0 700 .unnoticed false] ∧
    live.far.up = true ∧ live.chan.manager = some 40 ∧ (withMiss 15 (miss1 1 300 0)).misses[(15 : MissId)].active ≠ none ∧
    (∀ q ∈ live.park, q.state ≠ .unnoticed) := by decide +kernel

theorem witness_OpenContext : UnderE live (mh 0) [] ∧ UnderE (withCtx 15 (.closing 3) .notice false) (mh 0) [] ∧
    UnderE (withCtx 15 .closed .notice false) (mh 0) [] ∧ 1 < (2 : Byte).toNat ∧ 15 < (16 : Byte).toNat ∧ (1 : Byte).toNat ≤ 1 ∧
    (withCtx 15 (.closing 3) .notice false).ctxs[(15 : Ctx)].state = .closing 3 ∧
    (withCtx 15 .closed .notice false).ctxs[(15 : Ctx)].state = .closed ∧ live.ctxs[(15 : Ctx)].state = .opened := by
  decide +kernel

/-- The three states of a context, and an OPEN one with a WAITING entry left. -/
theorem witness_CloseContext : UnderE live (mh 0) [] ∧ UnderE (withCtx 15 (.closing 3) .notice false) (mh 0) [] ∧
    UnderE (withCtx 15 .closed .notice false) (mh 0) [] ∧ 15 < (16 : Byte).toNat ∧
    (withCtx 15 .closed .notice false).ctxs[(15 : Ctx)].state = .closed ∧
    (withCtx 15 (.closing 3) .notice false).ctxs[(15 : Ctx)].state = .closing 3 ∧ live.ctxs[(15 : Ctx)].state = .opened ∧
    UnderE (withOut 0 (out1 0 0 15 0)) (mh 0) [] ∧ (withOut 0 (out1 0 0 15 0)).ctxs[(15 : Ctx)].state = .opened := by
  decide +kernel

theorem witness_QuiesceAndResume : UnderE live (mh 0) [] ∧ live.bridge = .running ∧ live.drained = true ∧
    fenced.bridge = .running ∧ UnderE fenced (mh 0) [] ∧ fenced.drained = false ∧
    UnderE { live with bridge := .quiesced 7 } (mh 0) [] ∧
    ({ live with bridge := .quiesced 7 } : State).bridge = .quiesced 7 := by decide +kernel

/-- Each parameter at the edge of its range, and just outside. -/
theorem witness_SetParam : UnderE live (mh 0) [1, 0, 200] ∧ 5 < (6 : Byte).toNat ∧ ((0 : Byte) ++ (199 : Byte)).toNat < 200 ∧
    ((0 : Byte) ++ (49 : Byte)).toNat < 50 ∧ 7 < ((0 : Byte) ++ (8 : Byte)).toNat ∧ ((0 : Byte) ++ (99 : Byte)).toNat < 100 ∧
    1 < ((0 : Byte) ++ (2 : Byte)).toNat ∧ 200 ≤ ((0 : Byte) ++ (200 : Byte)).toNat ∧ 50 ≤ ((0 : Byte) ++ (50 : Byte)).toNat ∧
    ((0 : Byte) ++ (7 : Byte)).toNat ≤ 7 ∧ 100 ≤ ((0 : Byte) ++ (100 : Byte)).toNat ∧ ((0 : Byte) ++ (0 : Byte)).toNat = 0 ∧
    ((0 : Byte) ++ (1 : Byte)).toNat = 1 ∧ FarTakes replied [1, 0, 200] ∧ (mh 4).seq + 1 = replied.chan.expected := by
  decide +kernel

theorem witness_GetParam : UnderE live (mh 0) [1] ∧ 5 < (6 : Byte).toNat ∧ FarTakes replied [1] ∧
    (mh 4).seq + 1 = replied.chan.expected ∧ replied.chan.stored = some fr := by decide +kernel

theorem witness_ReadingCommands : UnderE live (mh 0) [] ∧ 1 < (2 : Byte).toNat ∧ UnderE live (mh 0) [31, 8] ∧
    31 < (32 : Byte).toNat ∧ 8 < (9 : Byte).toNat ∧ (31 : Byte).toNat ≤ 31 ∧ (8 : Byte).toNat ≤ 8 ∧ (8 : Byte) ≠ 0 := by
  decide +kernel

theorem witness_ClearFaults : UnderE live (mh 0) [] ∧ FarTakes replied [] ∧ nodeField (mh 4).dst = replied.node ∧
    replied.chan.manager = some (nodeField (mh 4).src) ∧ replied.chan.stored = some fr ∧
    (mh 4).seq + 1 = replied.chan.expected := by decide +kernel

theorem witness_Handover : UnderE live (mh 0) [63] ∧ 63 < (64 : Byte).toNat ∧ (2 : Byte).toNat = live.node.val ∧
    (63 : Byte).toNat = (63 : NodeId).val ∧ (63 : NodeId) ≠ live.node := by decide +kernel

theorem witness_ResetBridge : UnderE fenced (mh 0) [] ∧ fenced.near.up = true ∧ fenced.fences[(5 : Agent)] = some 9 ∧
    fenced.chan.params.faultNotices = true ∧ UnderE { live with near := PortState.initial } (mh 0) [] := by decide +kernel

theorem witness_FaultRecordMade : live.chan.params.faultNotices = true ∧ live.far.up = true ∧
    live.chan.manager = some 40 ∧ State.reset.far.up = false := by decide +kernel

/-! ## One busy state that keeps every law, for the statements about steps -/

/-- QUIESCING, with a miss and its waiter, a READY record that waits for an entry, held by a fence and marked, a CLOSING
context with its entry, a marked entry, a valid entry and a pinned one, and a response to come. -/
def busy : State := { live with
  time := 1000
  cache := live.cache.set (5 : SetId)
    { ways := #v[ent (.context 0) 69 true false, ent .allContexts 133 true true, Entry.initial, Entry.initial]
      order := [1, 0, 3, 2] }
  park := [rec1 0 20 .read 0 300 (.waiting 0) false, rec1 3 21 .read 0 69 (.ready tr [1]) true]
  misses := live.misses.set (0 : MissId) { gen := 4, active := some (miss1 0 300 900) }
  fences := live.fences.set (3 : Agent) (some 22)
  outs := (fullOuts.set (5 : BridgeTag) (some { out1 5 40 0 0 with marks := [2] })).set (7 : BridgeTag)
    (some (out1 7 41 2 0))
  slots := #v[none, some ⟨.all, 30⟩, some ⟨.all, 31⟩, none]
  ctxs := (live.ctxs.set (2 : Ctx) { state := .closing 9, policy := .notice, supOnly := false }).set (4 : Ctx)
    { state := .closed, policy := .notice, supOnly := false }
  bridge := .quiescing 4
  near := { up := true, queue := [fr], sent := [] }
  pending := [.farResponse 1 (rh 21 3) [6]] }

theorem only_miss {m : Miss} {id : MissId} (h : busy.misses[id].active = some m) : id = 0 ∧ m = miss1 0 300 900 := by
  have h0 : ∀ id : MissId, id ≠ 0 → busy.misses[id].active = none := by decide +kernel
  have h1 : busy.misses[(0 : MissId)].active = some (miss1 0 300 900) := by decide +kernel
  by_cases hid : id = 0
  · subst hid
    rw [h1] at h
    exact ⟨rfl, (Option.some.inj h).symm⟩
  · rw [h0 id hid] at h
    cases h

/-- What every outstanding entry of `busy` satisfies, by a look at each. -/
theorem each_out {p : OutEntry → Bool} (h : ∀ t : BridgeTag, (busy.outs[t]).all p = true) {t : BridgeTag} {o : OutEntry}
    (ho : busy.outs[t] = some o) : p o = true := by
  have := h t
  rw [ho] at this
  exact this

theorem busy_cacheLaws : CacheLaws busy := by
  have hp : Placed busy := by decide +kernel
  have hn : NoConflict busy := by decide +kernel
  exact ⟨by decide +kernel, hp, hn, uniqueMatch_of hp hn, by decide +kernel⟩

theorem busy_boundLaws : BoundLaws busy := by
  refine ⟨?_, ?_, ?_, fun _ _ h => (only_miss h).2 ▸ (by decide +kernel), ?_⟩ <;> decide +kernel

theorem busy_portLaws : PortLaws busy := by
  refine ⟨by decide +kernel, nofun, ⟨by decide +kernel, fun t o h => ?_⟩, by decide +kernel, by decide +kernel, nofun⟩
  simpa using each_out (p := fun o => decide (1 ≤ o.len ∧ o.len ≤ 256)) (by decide +kernel) h

theorem busy_missLaws : MissLaws busy :=
  ⟨fun _ _ _ _ h h' _ _ => (only_miss h).1.trans (only_miss h').1.symm, by decide +kernel, by decide +kernel,
    by decide +kernel⟩

theorem busy_identities : IdentitiesDistinct busy := by decide +kernel

theorem busy_fenceLaws : FenceLaws busy := by
  refine ⟨⟨by decide +kernel, fun t o h hh => ?_⟩, by decide +kernel⟩
  have := each_out (p := fun o => !o.held) (by decide +kernel) h
  simp [hh] at this

/-- What the fences do at far link down: only live work is held. -/
theorem witness_FarLinkDown_fences : busy.far.up = true ∧ busy.near.up = true ∧ HoldsPending busy :=
  ⟨rfl, rfl, busy_fenceLaws.1⟩

theorem busy_readyLaws : ReadyLaws busy := by
  refine ⟨by rfl, nofun, fun t o h hk => ?_⟩
  have := each_out (p := fun o => o.kind != .post) (by decide +kernel) h
  simp [hk] at this

theorem busy_purgeLaws : PurgeLaws busy := by
  refine ⟨by decide +kernel, fun t o h hp => ?_⟩
  have := each_out (p := fun o => o.phase == .waiting) (by decide +kernel) h
  simp [hp] at this

theorem busy_contextLaws : ContextLaws busy := by
  constructor
  · intro c hc
    have h4 : c = 4 := by revert c; decide +kernel
    subst h4
    exact ⟨by decide +kernel, by decide +kernel, fun _ _ h => by rw [(only_miss h).2]; decide, by decide +kernel⟩
  · intro c q hc
    have h2 : ∀ c : Ctx, c ≠ 2 → busy.ctxs[c].state = .opened ∨ busy.ctxs[c].state = .closed := by decide +kernel
    have : c = 2 := by
      by_contra hne
      rcases h2 c hne with h | h <;> rw [h] at hc <;> cases hc
    subst this
    exact ⟨by decide +kernel, by decide +kernel, fun _ _ h => by rw [(only_miss h).2]; decide, by decide +kernel⟩

theorem busy_quiesceLaws : QuiesceLaws busy := ⟨nofun, fun _ _ => by decide +kernel⟩

/-- The premises of every `…LawsKept` and of `IdentitiesStayDistinct` together: one state with all the laws, and its
step. -/
theorem witness_LawsKept : ∃ t : State, step busy = .next t ∧ CacheLaws busy ∧ BoundLaws busy ∧ PortLaws busy ∧
    MissLaws busy ∧ IdentitiesDistinct busy ∧ FenceLaws busy ∧ ReadyLaws busy ∧ PurgeLaws busy ∧ ContextLaws busy ∧
    QuiesceLaws busy :=
  ⟨_, rfl, busy_cacheLaws, busy_boundLaws, busy_portLaws, busy_missLaws, busy_identities, busy_fenceLaws, busy_readyLaws,
    busy_purgeLaws, busy_contextLaws, busy_quiesceLaws⟩

theorem witness_AnsweredExactlyOnce : ∃ t : State, IdentitiesDistinct busy ∧ busy.near.up = true ∧
    keepsAnswers (.farResponse 1 (rh 21 3) [6]) = true ∧ exec (.farResponse 1 (rh 21 3) [6]) busy = .next t ∧
    (3, 0) ∈ nonPosted busy :=
  ⟨_, busy_identities, rfl, rfl, rfl, by decide +kernel⟩

end Sys2Proof.Tests
end

section
/-! PROOF. What becomes of a far REQUEST: the bridge is no target, so it answers one sent to it and discards any other
(R99, R181). -/

namespace Sys2Proof.Machine

open Sys2Proof.Safety

/-- R99: on an UP far link the answer to a far REQUEST to the bridge waits behind the port's frames, counted as a refusal
sent. -/
theorem State.routeRequest_toBridge {s : State} {f : Frame} (hu : s.far.up = true)
    (hd : nodeField f.hdr.dst = s.node) :
    s.routeRequest f = onFar s.countRefusal [notTargetFrame s.node f.hdr] := by
  have hu' : s.countRefusal.far.up = true := by rw [State.countRefusal_far, hu]
  rw [State.routeRequest, if_pos hd, State.sendFar_up hu']

/-- R181: a far REQUEST for another node is dropped. -/
theorem State.routeRequest_elsewhere {s : State} {f : Frame} (hd : nodeField f.hdr.dst ≠ s.node) :
    s.routeRequest f = s :=
  if_neg hd

/-- A far REQUEST taken by the port is counted, then dealt with by its destination (R171). -/
theorem exec_notTarget {s : State} {kind : BitVec 6} {h : Header} {body : List Byte} (ht : FarTakes s body) :
    exec (.notTarget kind h body) s
      = .next ((farTaken s).routeRequest { cls := .request, kind := kind, hdr := h, body := body }) :=
  congrArg Host.Outcome.next (State.arriveFar_takes ht _)

/-- Settles O25, by the destination of the REQUEST. -/
theorem notTarget : Obligations.NotTarget := by
  intro s kind h body ht
  rw [exec_notTarget ht]
  refine ⟨fun toBridge => ?_, fun elsewhere => ?_⟩
  · rw [State.routeRequest_toBridge (by exact ht.1) (by exact toBridge)]
    rfl
  · rw [State.routeRequest_elsewhere (by exact elsewhere)]

end Sys2Proof.Machine
end

section
/-! PROOF. The sequence rules of the management channel, for every far MGMT frame and every command row: a replay under
E-1, and NAK SEQ under any other number (R142, R143). -/

namespace Sys2Proof.Machine

open Sys2Proof.Safety

/-- Each of the seventeen rows is its MGMT frame through the port and the channel, then handed to the command of its
kind code (R145, Table 7-3). -/
theorem exec_commandRow (c : Command) (h : Header) (body : List Byte) (s : State) :
    exec (commandRow c h body) s
      = .next (s.commandArrives (commandFrame c h body) (takeCommand (commandFrame c h body))) := by
  cases c <;> rfl

/-- A REPLAY is a MGMT frame of any kind through the same checks. -/
theorem exec_replay (kind : BitVec 6) (h : Header) (body : List Byte) (s : State) :
    exec (.replay kind h body) s
      = .next (s.commandArrives (mgmtFrame kind h body) (takeCommand (mgmtFrame kind h body))) :=
  rfl

/-- A NAK_SEQ is a MGMT frame of any kind through the same checks. -/
theorem exec_nakSeq (kind : BitVec 6) (h : Header) (body : List Byte) (s : State) :
    exec (.nakSeq kind h body) s
      = .next (s.commandArrives (mgmtFrame kind h body) (takeCommand (mgmtFrame kind h body))) :=
  rfl

/-- R142: under E-1 with a stored reply the command is never run; the stored reply goes to the UP far port. -/
theorem State.commandArrives_replay {s : State} {f l : Frame} (ht : FarTakes s f.body)
    (hd : nodeField f.hdr.dst = s.node) (hm : s.chan.manager = some (nodeField f.hdr.src))
    (hs : s.chan.stored = some l) (he : f.hdr.seq + 1 = s.chan.expected) (take : State → State) :
    s.commandArrives f take = onFar (farTaken s) [l] :=
  calc s.commandArrives f take
    _ = (farTaken s).channel f take := State.arriveFar_takes ht _
    _ = (farTaken s).sendFar l := State.channel_replay (s := farTaken s) hd hm hs he take
    _ = onFar (farTaken s) [l] := State.sendFar_up (s := farTaken s) ht.1 l

/-- R143: the NAK SEQ of a counted frame carries E and goes to the UP far port; nothing is stored. -/
theorem State.nakSequence_farTaken {s : State} (hu : s.far.up = true) (f : Frame) :
    (farTaken s).nakSequence f
      = onFar (farTaken s) [replyTo s f.hdr 33 [BitVec.ofNat 8 f.kind.toNat, 1, s.chan.expected]] :=
  State.sendFar_up (s := farTaken s) hu _

/-- R143: under a number that is neither E nor a replayable E-1 the command is never run. -/
theorem State.commandArrives_nakSeq {s : State} {f : Frame} (ht : FarTakes s f.body)
    (hd : nodeField f.hdr.dst = s.node) (hm : s.chan.manager = some (nodeField f.hdr.src))
    (hn : f.hdr.seq ≠ s.chan.expected)
    (he : s.chan.stored = none ∨ f.hdr.seq + 1 ≠ s.chan.expected) (take : State → State) :
    s.commandArrives f take
      = onFar (farTaken s) [replyTo s f.hdr 33 [BitVec.ofNat 8 f.kind.toNat, 1, s.chan.expected]] :=
  calc s.commandArrives f take
    _ = (farTaken s).channel f take := State.arriveFar_takes ht _
    _ = (farTaken s).nakSequence f := State.channel_nakSeq (s := farTaken s) hd hm hn he take
    _ = _ := State.nakSequence_farTaken ht.1 f

/-- R142, for a row of the seventeen commands. -/
theorem exec_commandRow_replay {s : State} {h : Header} {body : List Byte} {l : Frame} (ht : FarTakes s body)
    (hd : nodeField h.dst = s.node) (hm : s.chan.manager = some (nodeField h.src)) (hs : s.chan.stored = some l)
    (he : h.seq + 1 = s.chan.expected) (c : Command) :
    exec (commandRow c h body) s = .next (onFar (farTaken s) [l]) := by
  rw [exec_commandRow, State.commandArrives_replay ht hd hm hs he]

/-- Settles O27: a frame of any kind, and the frame of each command row. -/
theorem replay : Obligations.Replay := by
  intro s kind h body l ht hd hm hs he
  refine ⟨?_, exec_commandRow_replay ht hd hm hs he⟩
  rw [exec_replay, State.commandArrives_replay ht hd hm hs he]

/-- Settles O28, in the same two parts. -/
theorem nakSequence : Obligations.NakSequence := by
  intro s kind h body ht hd hm hn he
  refine ⟨?_, fun c => ?_⟩
  · rw [exec_nakSeq, State.commandArrives_nakSeq ht hd hm hn he]
    rfl
  · rw [exec_commandRow, State.commandArrives_nakSeq ht hd hm hn he]
    rfl

end Sys2Proof.Machine
end

section
/-! PROOF. The parameters: what SET-PARAM and GET-PARAM make of a name and a value (R147, R149, R150, Table 7-4). -/

namespace Sys2Proof.Machine

open Sys2Proof.Safety

/-! ## Names and values -/

theorem paramOf_paramByte (p : Param) : paramOf (paramByte p) = some p := by
  cases p <;> rfl

/-- Only 1 to 5 name a parameter. -/
theorem paramOf_unknown {name : Byte} (hn : name = 0 ∨ 5 < name.toNat) : paramOf name = none := by
  rcases hn with rfl | hn
  · rfl
  · unfold paramOf
    split
    case h_6 => rfl
    all_goals omega

theorem Params.assign_faultNotices_off (ps : Params) {v : BitVec 16} (hv : v.toNat = 0) :
    ps.assign .faultNotices v = { ps with faultNotices := false } := by
  obtain rfl : v = 0 := BitVec.eq_of_toNat_eq hv
  rfl

theorem Params.assign_faultNotices_on (ps : Params) {v : BitVec 16} (hv : v.toNat = 1) :
    ps.assign .faultNotices v = { ps with faultNotices := true } := by
  obtain rfl : v = 1 := BitVec.eq_of_toNat_eq hv
  rfl

theorem setParamArgs_unknown {name : Byte} (hn : paramOf name = none) (hi lo : Byte) :
    setParamArgs [name, hi, lo] = none := by
  simp only [setParamArgs, hn]

theorem setParamArgs_outOfRange {p : Param} {hi lo : Byte} (hv : paramInRange p (hi ++ lo) = false) :
    setParamArgs [paramByte p, hi, lo] = none := by
  simp [setParamArgs, paramOf_paramByte, hv]

theorem setParamArgs_inRange {p : Param} {hi lo : Byte} (hv : paramInRange p (hi ++ lo) = true) :
    setParamArgs [paramByte p, hi, lo] = some (p, hi ++ lo) := by
  simp [setParamArgs, paramOf_paramByte, hv]

/-! ## SET-PARAM -/

theorem exec_setParam_underE {s : State} {h : Header} {body : List Byte} (hu : UnderE s h body) :
    exec (.setParam h body) s
      = .next ((farTaken s).withArgs (commandFrame .setParam h body) (setParamArgs body)
          (runSetParam (commandFrame .setParam h body))) :=
  congrArg Host.Outcome.next (State.commandArrives_underE hu .setParam _)

/-- R149: operands that name no parameter, or no value in its range, set nothing. -/
theorem exec_setParam_range {s : State} {h : Header} {body : List Byte} (hu : UnderE s h body)
    (ha : setParamArgs body = none) : exec (.setParam h body) s = .next (answered s h 33 [10, 2, 0]) := by
  rw [exec_setParam_underE hu, State.withArgs_none _ _ ha, State.nak_answered hu.1.1]
  rfl

/-- R149: a value in range is taken, and the ACK carries the name and the two bytes of the value. -/
theorem exec_setParam_inRange {s : State} {h : Header} {p : Param} {hi lo : Byte}
    (hu : UnderE s h [paramByte p, hi, lo]) (hv : paramInRange p (hi ++ lo) = true) :
    exec (.setParam h [paramByte p, hi, lo]) s = .next (answered
      { s with chan := { s.chan with params := s.chan.params.assign p (hi ++ lo) } } h 32
      [10, paramByte p, hi, lo]) := by
  rw [exec_setParam_underE hu, State.withArgs_some _ _ (setParamArgs_inRange hv), runSetParam, beBytes_two]
  exact congrArg Host.Outcome.next (State.ack_answered
    (s := { s with chan := { s.chan with params := s.chan.params.assign p (hi ++ lo) } }) hu.1.1 .setParam h _ _)

/-- Settles O42, by the parameter that the name selects. -/
theorem setParam : Obligations.SetParam := by
  intro s h name hi lo
  refine ⟨fun hu => ⟨fun unknown => ?_, fun outOfRange => ?_, fun ps inRange => ?_⟩,
    fun l ht hd hm hs he => exec_commandRow_replay ht hd hm hs he .setParam⟩
  · exact exec_setParam_range hu (setParamArgs_unknown (paramOf_unknown unknown) hi lo)
  · refine exec_setParam_range hu ?_
    rcases outOfRange with ⟨rfl, hv⟩ | ⟨rfl, hv⟩ | ⟨rfl, hv⟩ | ⟨rfl, hv⟩ | ⟨rfl, hv⟩
    · exact setParamArgs_outOfRange (p := .missTimeout) (by simpa [paramInRange] using hv)
    · exact setParamArgs_outOfRange (p := .noticeInterval) (by simpa [paramInRange] using hv)
    · exact setParamArgs_outOfRange (p := .noticeRepeats) (by simpa [paramInRange] using hv)
    · exact setParamArgs_outOfRange (p := .responseTimeout) (by simpa [paramInRange] using hv)
    · exact setParamArgs_outOfRange (p := .faultNotices) (by simpa [paramInRange] using hv)
  · rcases inRange with ⟨rfl, hv, rfl⟩ | ⟨rfl, hv, rfl⟩ | ⟨rfl, hv, rfl⟩ | ⟨rfl, hv, rfl⟩ | ⟨rfl, hv, rfl⟩ |
      ⟨rfl, hv, rfl⟩
    · exact exec_setParam_inRange (p := .missTimeout) hu (by simpa [paramInRange] using hv)
    · exact exec_setParam_inRange (p := .noticeInterval) hu (by simpa [paramInRange] using hv)
    · exact exec_setParam_inRange (p := .noticeRepeats) hu (by simpa [paramInRange] using hv)
    · exact exec_setParam_inRange (p := .responseTimeout) hu (by simpa [paramInRange] using hv)
    · rw [← Params.assign_faultNotices_off s.chan.params hv]
      exact exec_setParam_inRange (p := .faultNotices) hu (by simp [paramInRange, hv])
    · rw [← Params.assign_faultNotices_on s.chan.params hv]
      exact exec_setParam_inRange (p := .faultNotices) hu (by simp [paramInRange, hv])

/-! ## GET-PARAM -/

theorem exec_getParam_underE {s : State} {h : Header} {name : Byte} (hu : UnderE s h [name]) :
    exec (.getParam h [name]) s
      = .next ((farTaken s).withArgs (commandFrame .getParam h [name]) (paramOf name)
          (runGetParam (commandFrame .getParam h [name]))) :=
  congrArg Host.Outcome.next (State.commandArrives_underE hu .getParam _)

/-- R150: a name that selects no parameter. -/
theorem exec_getParam_unknown {s : State} {h : Header} {name : Byte} (hu : UnderE s h [name])
    (hn : paramOf name = none) :
    exec (.getParam h [name]) s = .next (answered s h 33 [11, 2, 0]) := by
  rw [exec_getParam_underE hu, State.withArgs_none _ _ hn, State.nak_answered hu.1.1]
  rfl

/-- R150: the PARAM reply carries the name and the value in force. -/
theorem exec_getParam_named {s : State} {h : Header} {p : Param} (hu : UnderE s h [paramByte p]) :
    exec (.getParam h [paramByte p]) s
      = .next (answered s h 35 (paramByte p :: beBytes 2 (s.chan.params.value p).toNat)) := by
  rw [exec_getParam_underE hu, State.withArgs_some _ _ (paramOf_paramByte p), runGetParam, State.reply_answered hu.1.1]
  rfl

/-- Settles O43, by the parameter that the name selects. -/
theorem getParam : Obligations.GetParam := by
  intro s h name
  refine ⟨fun hu => ⟨fun unknown => exec_getParam_unknown hu (paramOf_unknown unknown), fun v named => ?_⟩,
    fun l ht hd hm hs he => exec_commandRow_replay ht hd hm hs he .getParam⟩
  rcases named with ⟨rfl, rfl⟩ | ⟨rfl, rfl⟩ | ⟨rfl, rfl⟩ | ⟨rfl, rfl⟩ | ⟨rfl, rfl⟩
  · exact exec_getParam_named (p := .missTimeout) hu
  · exact exec_getParam_named (p := .noticeInterval) hu
  · exact exec_getParam_named (p := .noticeRepeats) hu
  · exact exec_getParam_named (p := .responseTimeout) hu
  · exact exec_getParam_named (p := .faultNotices) hu

end Sys2Proof.Machine
end

section
/-! PROOF. CLEAR-FAULTS: the log emptied without losing the append number (R168). -/

namespace Sys2Proof.Machine

open Sys2Proof.Safety

theorem exec_clearFaults_underE {s : State} {h : Header} (hu : UnderE s h []) :
    exec (.clearFaults h []) s = .next (runClearFaults (commandFrame .clearFaults h []) () (farTaken s)) :=
  calc exec (.clearFaults h []) s
    _ = .next (takeClearFaults (commandFrame .clearFaults h []) (farTaken s)) :=
      congrArg Host.Outcome.next (State.commandArrives_underE hu .clearFaults _)
    _ = _ := congrArg Host.Outcome.next (State.withArgs_some _ _ (a := ()) rfl _)

/-- R168: counting the frame leaves the log alone, so clearing it and answering ACK is `answered` of the cleared state. -/
theorem runClearFaults_farTaken {s : State} (hu : s.far.up = true) (h : Header) (body : List Byte) :
    runClearFaults (commandFrame .clearFaults h body) () (farTaken s)
      = answered { s with log := { ring := [], nextNumber := s.log.nextNumber, overwritten := 0 } } h 32 [15] :=
  State.ack_answered (s := { s with log := { s.log with ring := [], overwritten := 0 } }) hu .clearFaults h body []

/-- Settles O45: taken under E, or replayed under E-1. -/
theorem clearFaults : Obligations.ClearFaults := by
  intro s h
  refine ⟨fun hu => ?_, fun l ht hd hm hs he => exec_commandRow_replay ht hd hm hs he .clearFaults⟩
  rw [exec_clearFaults_underE hu, runClearFaults_farTaken hu.1.1]

end Sys2Proof.Machine
end

section
/-! PROOF. A MGMT frame on the near port never reaches the management channel: all it leaves behind is one fault record
(R179, R180). -/

namespace Sys2Proof.Machine

open Sys2Proof.Safety

/-- A near MGMT frame taken by the port is counted, then discarded (R171, R179). -/
theorem exec_nearMgmtDiscard {s : State} {kind : BitVec 6} {h : Header} {body : List Byte} (ht : NearTakes s body) :
    exec (.nearMgmtDiscard kind h body) s = .next ((nearTaken s).nearMgmt (mgmtFrame kind h body)) :=
  congrArg Host.Outcome.next (State.arriveNear_takes ht _)

/-- R180: the record reads the frame's source and kind code, and nothing else of the frame. -/
theorem foreignFault_mgmtFrame (port : Port) (kind : BitVec 6) (h : Header) (body : List Byte) :
    foreignFault port (mgmtFrame kind h body)
      = { kind := .foreignMgmt, port := some port, node := some (nodeField h.src),
          detail := BitVec.ofNat 8 kind.toNat } :=
  rfl

/-- Settles O12: the frame is counted, and its discard is the FOREIGN-MGMT record of port NEAR. -/
theorem nearMgmtDiscarded : Obligations.NearMgmtDiscarded := by
  intro s h body kind ht
  rw [exec_nearMgmtDiscard ht, State.nearMgmt, foreignFault_mgmtFrame]

end Sys2Proof.Machine
end

section
/-! PROOF. What a command can do to the state: one inversion of `exec`, from which every law's proof starts. -/

namespace Sys2Proof.Machine

open Sys2Proof.Safety

/-- The lengths and the payload of a request are those of its kind (R29, R61). -/
abbrev Request.Fits (r : Request) : Prop := 1 ≤ r.len ∧ r.len ≤ 256 ∧ payloadFits r.kind r.len r.payload = true

/-- The state at the end of a power-on reset with the model's own records kept (log entries 12 and 15). -/
def State.restarted (s : State) (n m : NodeId) (powered : Bool) : State :=
  { State.powerOn n m with
    near := { PortState.initial with sent := s.near.sent }
    far := { PortState.initial with sent := s.far.sent }
    powered := powered
    moment := s.moment
    pending := s.pending }

/-- What a near arrival, the near port's sending, near link down or a power event makes of a state in which the
arriving frame is counted. -/
inductive NearDeed (s : State) : State → Prop
  | idle : NearDeed s s
  | recorded (w : FaultBody) : NearDeed s (s.makeFault w)
  | malformed (a : Agent) (g : NearTag) (k : ReqKind) (d : Byte) (w : FaultBody) :
      NearDeed s ((s.answerIf a g (refusalTo k .malformed d)).makeFault w)
  | accepted (r : Request) (fits : r.Fits) (fresh : s.inFlight r.agent r.tag = false) : NearDeed s (s.accept r)
  | fenceBusy (a : Agent) (g : NearTag) : NearDeed s (s.answer a g (.refuse .busy 1))
  | fenceTaken (a : Agent) (g : NearTag) (running : s.bridge = .running) (fresh : s.inFlight a g = false) :
      NearDeed s (s.takeFence a g)
  | nearDown : NearDeed s (((s.nearLost.completeSlots).makeFault (nearDownFault s)).judgeDrain)
  | nearSent : NearDeed s { s with near := s.near.sendOne }
  | restarted (n m : NodeId) (powered : Bool) : NearDeed s (s.restarted n m powered)

/-- What any other command makes of a state in which the arriving frame is counted. -/
inductive Deed (s : State) : State → Prop
  | idle : Deed s s
  | recorded (w : FaultBody) : Deed s (s.makeFault w)
  | farAnswer (f : Frame) (small : f.body.length ≤ 300) : Deed s (s.sendFar f)
  | resent (l : Frame) (stored : s.chan.stored = some l) : Deed s (s.sendFar l)
  | responseTaken (g : BridgeTag) (o : OutEntry) (code : BitVec 6) (body : List Byte) (entry : s.outs[g] = some o)
      (waiting : o.phase = .waiting) : Deed s (s.takeResponse g o code body)
  | expiredEnds (g : BridgeTag) (o : OutEntry) (entry : s.outs[g] = some o) (expired : o.phase = .expired) :
      Deed s (s.endExpired g)
  | replied (f : Frame) (kind : BitVec 6) (body : List Byte) (small : body.length ≤ 300) : Deed s (s.reply f kind body)
  | countersCleared (f : Frame) (kind : BitVec 6) (body : List Byte) (small : body.length ≤ 300) :
      Deed s { s.reply f kind body with ctr := Counters.zero }
  | filled (f : Frame) (a : FillArgs) (w : WayId) (up : s.far.up = true) (valid : a.entry.valid = true)
      (judged : judgeFill s a.entry a.way = .ok w) : Deed s (fillWritten f a w s)
  | denied (f : Frame) (id : MissId) (d n : Byte) (m : Miss) (w : FaultBody) (live : s.misses[id].active = some m) :
      Deed s (((((s.endMiss id .noTranslation d).ack f [n]).offer id).makeFault w).judgeDrain)
  | pinned (f : Frame) (a : SetId × WayId × Bool) : Deed s (runPin f a s)
  | purged (f : Frame) (a : Pattern × Bool) : Deed s (runPurge f a s)
  | contextOpened (f : Frame) (a : Ctx × MissPolicy × Bool) : Deed s (runOpenContext f a s)
  | contextClosed (f : Frame) (c : Ctx) (opened : s.ctxs[c].state = .opened) : Deed s (closeOpen f c s)
  | quiesceTaken (f : Frame) : Deed s (runQuiesce f () s)
  | resumeTaken (f : Frame) : Deed s (runResume f () s)
  | paramSet (f : Frame) (a : Param × BitVec 16) (range : paramInRange a.1 a.2 = true) : Deed s (runSetParam f a s)
  | faultsCleared (f : Frame) : Deed s (runClearFaults f () s)
  | handedOver (f : Frame) (n : NodeId) : Deed s (runHandover f n s)
  | bridgeReset (f : Frame) : Deed s (runResetBridge f () s)
  | missExpired (id : MissId) (m : Miss) (w : FaultBody) (live : s.misses[id].active = some m) :
      Deed s ((((s.endMiss id .missTimeout 0).offer id).makeFault w).judgeDrain)
  | copySent (id : MissId) (m : Miss) (next : Time) (live : s.misses[id].active = some m) (due : m.next = some next) :
      Deed s ((s.advanceCopy id m).sendMissCopy id (m.sent + 1))
  | responseExpired (g : BridgeTag) (o : OutEntry) (entry : s.outs[g] = some o) (waiting : o.phase = .waiting) :
      Deed s ((((s.answerEntry o (.refuse .responseTimeout 0)).makeFault
        (outFault .responseTimeout o (byteOf g.val))).setOut g (some o.timedOut)).afterEntry o)
  | farDown : Deed s ((((({ s with far := s.far.lost }.sweep
      (refuseFate ParkRecord.isReady .link 0)).clearEntries).farDrained).makeFault (farDownFault s)).judgeDrain)
  | nearUp (powered : s.powered = true) : Deed s { s with near := { s.near with up := true } }
  | farUp (powered : s.powered = true) : Deed s { s with far := { s.far with up := true } }
  | farSent : Deed s { s with far := s.far.sendOne }
  | headForwarded (u : State) (leaves : s.forwardHead = some u) : Deed s u.judgeDrain
  | missOffered (id : MissId) : Deed s (s.offer id)
  | fenceJudged (a : Agent) : Deed s (s.judgeFence a).judgeDrain
  | slotJudged (k : SlotId) : Deed s (s.completeSlot k)
  | closeJudged (c : Ctx) : Deed s (s.completeClose c)
  | drainJudged : Deed s s.judgeDrain

/-! ## Near frames -/

theorem judgeBody_good {kind : ReqKind} {a : Agent} {g : NearTag} {body : List Byte} {r : Request}
    (h : judgeBody kind a g body = .good r) : r.agent = a ∧ r.tag = g ∧ r.kind = kind ∧ r.Fits := by
  unfold judgeBody at h
  split at h
  · next c m a4 a3 a2 a1 a0 l payload =>
    split at h
    · next fits =>
      split at h
      · cases h
      · cases h
      · cases h
        have := l.isLt
        exact ⟨rfl, rfl, rfl, by simp [lengthOf], by simp [lengthOf]; omega, fits⟩
    · cases h
  · cases h

theorem State.identified_deed {s : State} (h : Header) {deal : Agent → NearTag → State → State}
    (hd : ∀ a g, NearDeed s (deal a g s)) : NearDeed s (s.identified h deal) := by
  unfold State.identified
  split
  · exact .recorded _
  · exact .recorded _
  · exact hd _ _

theorem State.intakeRequest_deed (s : State) (kind : ReqKind) (h : Header) (body : List Byte) :
    NearDeed s (s.intakeRequest kind h body) := by
  refine State.identified_deed h fun a g => ?_
  split
  · exact .malformed a g kind _ _
  · next r hr =>
    obtain ⟨rfl, rfl, -, fits⟩ := judgeBody_good hr
    split
    · exact .recorded _
    · next fresh => exact .accepted r fits (by simpa using fresh)

theorem State.intakeFence_deed (s : State) (h : Header) (body : List Byte) : NearDeed s (s.intakeFence h body) := by
  refine State.identified_deed h fun a g => ?_
  split
  · exact .malformed a g .read 4 _
  · split
    · exact .recorded _
    · next fresh =>
      split
      · exact .fenceBusy a g
      · next running => exact .fenceTaken a g (by simpa using running) (by simpa using fresh)

theorem State.routeNear_deed (s : State) (f : Frame) : NearDeed s (s.routeNear f) := by
  unfold State.routeNear
  split
  · unfold State.intake
    split
    · exact State.intakeRequest_deed ..
    · exact State.intakeRequest_deed ..
    · exact State.intakeRequest_deed ..
    · exact State.intakeFence_deed ..
    · exact .recorded _
  · exact .idle
  · exact .recorded _
  · exact .idle

/-! ## A request accepted (Table 3-1, steps 6 to 11) -/

/-- A request that is answered or recorded at once and leaves nothing behind in the tables. -/
inductive Declined (s : State) (r : Request) : State → Prop
  | turnAway (x : Reason) (d : Byte) : Declined s r (s.turnAway r x d)
  | turnAwayWith (x : Reason) (k : FaultKind) (d : Byte) : Declined s r (s.turnAwayWith r x k d)
  | refused (nonPosted : r.kind ≠ .post) (x : Reason) (d : Byte) : Declined s r (s.answer r.agent r.tag (.refuse x d))
  | lost (posted : r.kind = .post) (w : FaultBody) : Declined s r (s.makeFault w)
  | zero : Declined s r (s.answerIf r.agent r.tag (zeroAnswer r.kind r.len))

/-- A lookup's hit before the entry check: its way at the front of the order, the hits counter up (R5). -/
def State.hitBy (s : State) (r : Request) (w : WayId) : State :=
  { s.setCache (setOf r.page) (s.cache[setOf r.page].touch w) with ctr := { s.ctr with hits := s.ctr.hits + 1 } }

/-- What a request that passes steps 6 to 10 becomes (R36 to R41, R71). -/
inductive Admission (s : State) (r : Request) : State → Prop
  | declined {t : State} (h : Declined s r t) : Admission s r t
  | hitDeclined (w : WayId) {t : State} (h : Declined (s.hitBy r w) r t) : Admission s r t
  | forwardPost (w : WayId) (x : Translation) (idle : s.readyExists = false) (posted : r.kind = .post) :
      Admission s r ((s.hitBy r w).forwardPost r x)
  | forwardRequest (w : WayId) (x : Translation) (g : BridgeTag) (idle : s.readyExists = false)
      (nonPosted : r.kind ≠ .post) (free : s.freeTag = some g) : Admission s r ((s.hitBy r w).forwardRequest r x g)
  | parkedReady (w : WayId) (x : Translation) (room : s.park.length < 64)
      (stuck : s.readyExists = true ∨ (r.kind ≠ .post ∧ s.freeTag = none)) :
      Admission s r ((s.hitBy r w).parkRequest r (.ready x []))
  | joined (id : MissId) (room : s.park.length < 64) (missed : s.cache[setOf r.page].lookup r.ctx r.page = none)
      (active : s.missFor r.ctx r.page = some id) : Admission s r (s.parkRequest r (.waiting id))
  | joinedUnnoticed (room : s.park.length < 64) (missed : s.cache[setOf r.page].lookup r.ctx r.page = none)
      (inactive : s.missFor r.ctx r.page = none) (other : s.park.any (fun q => q.isUnnoticed && q.onPair r.ctx r.page) = true) :
      Admission s r (s.parkRequest r .unnoticed)
  | allocated (id : MissId) (room : s.park.length < 64) (missed : s.cache[setOf r.page].lookup r.ctx r.page = none)
      (inactive : s.missFor r.ctx r.page = none)
      (alone : s.park.any (fun q => q.isUnnoticed && q.onPair r.ctx r.page) = false) (free : s.freeMissId = some id) :
      Admission s r (((s.parkRequest r (.waiting id)).allocMiss id r.ctx r.page (accessOf r.kind) r.mode).sendMissCopy id 0)
  | exhausted (c : Counters) (room : s.park.length < 64) (missed : s.cache[setOf r.page].lookup r.ctx r.page = none)
      (inactive : s.missFor r.ctx r.page = none) (full : s.freeMissId = none) :
      Admission s r { s.parkRequest r .unnoticed with ctr := c }

theorem State.forwardHit_admission {s : State} {r : Request} (w : WayId) (x : Translation) :
    Admission s r ((s.hitBy r w).forwardHit r x) := by
  have park (stuck : s.readyExists = true ∨ (r.kind ≠ .post ∧ s.freeTag = none)) :
      Admission s r ((s.hitBy r w).parkReady r x) := by
    unfold State.parkReady
    split
    · next room => exact .parkedReady w x room stuck
    · exact .hitDeclined w (.turnAway _ _)
  unfold State.forwardHit
  split
  · next h => exact park (.inl h)
  · next h =>
    have idle : s.readyExists = false := Bool.eq_false_iff.mpr h
    split
    · next hk => exact .forwardPost w x idle hk
    all_goals
      next hk =>
        split
        · next g hg => exact .forwardRequest w x g idle (by simp [hk]) hg
        · next hg => exact park (.inr ⟨by simp [hk], hg⟩)

theorem State.hitCase_admission {s : State} {r : Request} (w : WayId) : Admission s r (s.hitCase r w) := by
  unfold State.hitCase
  dsimp only
  split
  · exact .hitDeclined w (.turnAwayWith _ _ _)
  · exact .hitDeclined w .zero
  · exact State.forwardHit_admission w _

theorem State.missCase_admission {s : State} {r : Request}
    (missed : s.cache[setOf r.page].lookup r.ctx r.page = none) : Admission s r (s.missCase r) := by
  unfold State.missCase
  split
  · exact .declined (.turnAway _ _)
  · split
    · exact .declined (.turnAway _ _)
    · next full =>
      have room : s.park.length < 64 := Nat.lt_of_not_le full
      split
      · next id active => exact .joined id room missed active
      · next inactive =>
        split
        · next other => exact .joinedUnnoticed room missed inactive other
        · next alone =>
          split
          · next id free => exact .allocated id room missed inactive (Bool.eq_false_iff.mpr alone) free
          · next full => exact .exhausted _ room missed inactive full

/-- The outcome of steps 6 to 11: declined, or admitted in an OPEN context of a RUNNING bridge with an UP far link. -/
theorem State.accept_cases (s : State) (r : Request) :
    Declined s r (s.accept r) ∨
      (s.bridge = .running ∧ s.far.up = true ∧ withinPage r.address r.len = true ∧ s.ctxs[r.ctx].state = .opened ∧
        Admission s r (s.accept r)) := by
  unfold State.accept
  split
  · exact .inl (.turnAway _ _)
  · next running =>
    split
    · exact .inl (.turnAway _ _)
    · next up =>
      split
      · split
        · next hk => exact .inl (.refused (by simp [hk]) _ _)
        · next hk => exact .inl (.refused (by simp [hk]) _ _)
        · next hk => exact .inl (.lost hk _)
      · next within =>
        split
        · exact .inl (.turnAway _ _)
        · exact .inl (.turnAway _ _)
        · next opened =>
          split
          · exact .inl (.turnAwayWith _ _ _)
          · refine .inr ⟨by simpa using running, by simpa using up, by simpa using within, opened, ?_⟩
            unfold State.lookup
            split
            · exact State.hitCase_admission _
            · next missed => exact State.missCase_admission missed

/-- A declined request changes the ports, the channel's notice number, the log and the counters at most. -/
theorem Declined.frame {s t : State} {r : Request} (h : Declined s r t) :
    t = { s with near := t.near, far := t.far, chan := t.chan, log := t.log, ctr := t.ctr } := by
  cases h with
  | turnAway x d => rw [State.turnAway_frame]
  | turnAwayWith x k d => rw [State.turnAwayWith_frame]
  | refused hk x d => rw [State.answer_frame]
  | lost hk w => rw [State.makeFault_frame]
  | zero => rw [State.answerIf_frame]

/-! ## Far frames -/

theorem State.matchResponse_some {s : State} {h : Header} {g : BridgeTag} {o : OutEntry}
    (hm : s.matchResponse h = some (g, o)) :
    inRange 128 h.tag.toNat = some g ∧ s.outs[g] = some o ∧ nodeField h.src = o.node := by
  unfold State.matchResponse at hm
  split at hm
  · cases hm
  · next t ht =>
    split at hm
    · cases hm
    · next x hx =>
      split at hm
      · next hn => cases hm; exact ⟨ht, hx, hn⟩
      · cases hm

/-- The command's effect on a state that differs from `s` in the counters at most. -/
def DeedOf (s t : State) : Prop := ∃ c : Counters, Deed { s with ctr := c } t

theorem Deed.of {s t : State} (h : Deed s t) : DeedOf s t := ⟨s.ctr, h⟩

theorem State.routeRequest_deed (s : State) (f : Frame) : DeedOf s (s.routeRequest f) := by
  unfold State.routeRequest
  split
  · exact ⟨_, .farAnswer _ (by simp [notTargetFrame])⟩
  · exact Deed.idle.of

theorem State.routeResponse_deed (s : State) (f : Frame) : DeedOf s (s.routeResponse f) := by
  unfold State.routeResponse
  split
  · unfold State.response
    split
    · exact ⟨_, .recorded _⟩
    · next g o hm =>
      obtain ⟨-, entry, -⟩ := State.matchResponse_some hm
      split
      · next waiting => exact (Deed.responseTaken g o _ _ entry waiting).of
      · next expired => exact ⟨_, .expiredEnds g o entry expired⟩
  · exact Deed.idle.of

theorem State.nak_deed (s : State) (f : Frame) (code : NakCode) : Deed s (s.nak f code) :=
  .replied f _ _ (by simp [nakBody])

theorem State.withArgs_deed {α : Type} (s : State) (f : Frame) {args : Option α} {run : α → State → State}
    (h : ∀ a, args = some a → Deed s (run a s)) : Deed s (s.withArgs f args run) := by
  unfold State.withArgs
  split
  · exact h _ rfl
  · exact State.nak_deed s f .range

theorem entryOfBytes_valid {b0 b1 b2 b3 b4 b5 b6 b7 b8 b9 : Byte} {e : Entry}
    (h : entryOfBytes b0 b1 b2 b3 b4 b5 b6 b7 b8 b9 = some e) : e.valid = true := by
  unfold entryOfBytes at h
  split at h
  · split at h
    · cases h; rfl
    · cases h
  · cases h

theorem fillArgs_valid {body : List Byte} {a : FillArgs} (h : fillArgs body = some a) : a.entry.valid = true := by
  unfold fillArgs at h
  split at h
  · split at h
    · next he _ _ => cases h; exact entryOfBytes_valid he
    · cases h
  · cases h

theorem runFill_deed {s : State} (f : Frame) {a : FillArgs} (up : s.far.up = true) (valid : a.entry.valid = true) :
    Deed s (runFill f a s) := by
  unfold runFill
  split
  · exact State.nak_deed s f _
  · next w judged => exact .filled f a w up valid judged

theorem runDeny_deed (s : State) (f : Frame) (a : Ticket × Byte) : Deed s (runDeny f a s) := by
  unfold runDeny
  split
  · exact .replied f _ _ (by simp)
  · next m hm =>
    unfold State.liveMiss at hm
    split at hm
    · exact .denied f _ _ _ m _ hm
    · cases hm

theorem runCloseContext_deed (s : State) (f : Frame) (c : Ctx) : Deed s (runCloseContext f c s) := by
  unfold runCloseContext
  split
  · exact .replied f _ _ (by simp [closeAckFields])
  · exact .replied f _ _ (by simp [closeAckFields])
  · next opened => exact .contextClosed f c opened

@[simp] theorem counterBytes_length (c : Counters) : (counterBytes c).length = 40 := by
  simp [counterBytes]

@[simp] theorem faultBytes_length (r : FaultRecord) : (faultBytes r).length = 19 := by
  unfold faultBytes
  cases r.what.page <;> simp

@[simp] theorem entryBytes_length (e : Entry) : (entryBytes e).length = 10 := by
  simp [entryBytes]

@[simp] theorem statusBody_length (s : State) : (statusBody s).length = 38 := by
  simp [statusBody]

theorem faultsBody_length_le (l : FaultLog) (start : Nat) {count : Nat} (h : count ≤ 8) :
    (faultsBody l start count).length ≤ 158 := by
  have hr : (faultsRead l start count).length ≤ count := by simp [faultsRead]
  have hb : ((faultsRead l start count).flatMap faultBytes).length = (faultsRead l start count).length * 19 := by
    simp [List.length_flatMap]
  simp only [faultsBody, List.length_append, hb, beBytes_length, List.length_cons, List.length_nil]
  omega

theorem readFaultsArgs_count {body : List Byte} {a : Nat × Nat} (h : readFaultsArgs body = some a) : a.2 ≤ 8 := by
  unfold readFaultsArgs at h
  split at h
  · split at h
    · next hr => cases h; exact hr.2.2
    · cases h
  · cases h

theorem setParamArgs_range {body : List Byte} {a : Param × BitVec 16} (h : setParamArgs body = some a) :
    paramInRange a.1 a.2 = true := by
  unfold setParamArgs at h
  split at h
  · split at h
    · split at h
      · next hr => cases h; exact hr
      · cases h
    · cases h
  · cases h

theorem runReadCounters_deed (s : State) (f : Frame) (clear : Bool) : Deed s (runReadCounters f clear s) := by
  unfold runReadCounters
  cases clear
  · exact .replied f _ _ (by simp)
  · exact .countersCleared f _ _ (by simp)

theorem takeCommand_deed {s : State} (f : Frame) (up : s.far.up = true) : Deed s (takeCommand f s) := by
  unfold takeCommand
  split
  · exact State.nak_deed s f .unknown
  · exact s.withArgs_deed f fun a ha => runFill_deed f up (fillArgs_valid ha)
  · exact s.withArgs_deed f fun a _ => runDeny_deed s f a
  · exact s.withArgs_deed f fun a _ => .pinned f a
  · exact s.withArgs_deed f fun a _ => .replied f _ _ (by simp)
  · exact s.withArgs_deed f fun a _ => .purged f a
  · exact s.withArgs_deed f fun a _ => .contextOpened f a
  · exact s.withArgs_deed f fun c _ => runCloseContext_deed s f c
  · exact s.withArgs_deed f fun _ _ => .quiesceTaken f
  · exact s.withArgs_deed f fun _ _ => .resumeTaken f
  · exact s.withArgs_deed f fun a ha => .paramSet f a (setParamArgs_range ha)
  · exact s.withArgs_deed f fun p _ => .replied f _ _ (by simp)
  · exact s.withArgs_deed f fun _ _ => .replied f _ _ (by simp)
  · exact s.withArgs_deed f fun c _ => runReadCounters_deed s f c
  · refine s.withArgs_deed f fun a ha => .replied f _ _ ?_
    exact (faultsBody_length_le _ _ (readFaultsArgs_count ha)).trans (by decide)
  · exact s.withArgs_deed f fun _ _ => .faultsCleared f
  · exact s.withArgs_deed f fun n _ => .handedOver f n
  · exact s.withArgs_deed f fun _ _ => .bridgeReset f

theorem State.channel_deed {s : State} (f : Frame) (up : s.far.up = true) :
    Deed s (s.channel f (takeCommand f)) := by
  unfold State.channel
  split
  · exact .idle
  · split
    · exact .recorded _
    · split
      · exact takeCommand_deed f up
      · unfold State.offSequence
        split
        · next l hl =>
          split
          · exact .resent l hl
          · exact .farAnswer _ (by simp [replyFrame, nakBody])
        · exact .farAnswer _ (by simp [replyFrame, nakBody])

theorem State.routeFar_deed {s : State} (f : Frame) (up : s.far.up = true) : DeedOf s (s.routeFar f) := by
  unfold State.routeFar
  split
  · exact State.routeRequest_deed s f
  · exact State.routeResponse_deed s f
  · exact (State.channel_deed f up).of
  · exact Deed.idle.of

/-! ## The ports -/

/-- The near counterpart of `DeedOf`. -/
def NearDeedOf (s t : State) : Prop := ∃ c : Counters, NearDeed { s with ctr := c } t

theorem NearDeed.of {s t : State} (h : NearDeed s t) : NearDeedOf s t := ⟨s.ctr, h⟩

theorem State.arriveNear_deed (s : State) (f : Frame) {deal : State → State}
    (h : ∀ u, NearDeed u (deal u)) : NearDeedOf s (s.arriveNear f deal) := by
  unfold State.arriveNear
  split
  · exact NearDeed.idle.of
  · split
    · exact ⟨_, h _⟩
    · exact ⟨_, .idle⟩

theorem State.arriveFar_deed (s : State) (f : Frame) {deal : State → State}
    (h : ∀ u : State, u.far.up = true → DeedOf u (deal u)) : DeedOf s (s.arriveFar f deal) := by
  unfold State.arriveFar
  split
  · exact Deed.idle.of
  · next up =>
    split
    · obtain ⟨c, hd⟩ := h { s with ctr := { s.ctr with farFrames := s.ctr.farFrames + 1 } } (by simpa using up)
      exact ⟨c, hd⟩
    · exact ⟨_, .idle⟩

theorem State.receiveNear_deed (s : State) (bytes : List Byte) : NearDeedOf s (s.receiveNear bytes) := by
  unfold State.receiveNear
  split
  · exact NearDeed.idle.of
  · split
    · exact ⟨_, .idle⟩
    · exact s.arriveNear_deed _ fun u => u.routeNear_deed _

theorem State.receiveFar_deed (s : State) (bytes : List Byte) : DeedOf s (s.receiveFar bytes) := by
  unfold State.receiveFar
  split
  · exact Deed.idle.of
  · split
    · exact ⟨_, .idle⟩
    · exact s.arriveFar_deed _ fun u => u.routeFar_deed _

/-- A command row under E, replayed, off sequence, foreign or misrouted (Table 7-2). -/
theorem State.commandRow_deed (s : State) (c : Command) (h : Header) (body : List Byte) :
    ∃ t, exec (commandRow c h body) s = .next t ∧ DeedOf s t :=
  ⟨_, exec_commandRow c h body s, s.arriveFar_deed _ fun _ up => (State.channel_deed _ up).of⟩

/-! ## Every command -/

/-- What each command outside the near side and power does. -/
theorem exec_deed {c : Instr} (hc : keepsAnswers c = true) (s : State) : ∃ t, exec c s = .next t ∧ DeedOf s t := by
  have mgmt (kind h body) : DeedOf s (s.arriveFar (mgmtFrame kind h body) fun s => s.farMgmt (mgmtFrame kind h body)) :=
    s.arriveFar_deed _ fun _ up => (State.channel_deed _ up).of
  cases c with
  | nearRequest kind h body => cases hc
  | fence h body => cases hc
  | nearFrameDiscard cls kind h body => cases hc
  | nearMgmtDiscard kind h body => cases hc
  | nearLinkDown => cases hc
  | powerOnReset n m => cases hc
  | powerGoodFall => cases hc
  | unknownKindRequest kind h body => cases hc
  | crcDiscard port bytes =>
    cases port with
    | near => cases hc
    | far => exact ⟨_, rfl, s.receiveFar_deed bytes⟩
  | farResponse kind h body => exact ⟨_, rfl, s.arriveFar_deed _ fun u _ => u.routeResponse_deed _⟩
  | notTarget kind h body => exact ⟨_, rfl, s.arriveFar_deed _ fun u _ => u.routeRequest_deed _⟩
  | farFrameDiscard cls kind h body => exact ⟨_, rfl, s.arriveFar_deed _ fun u up => u.routeFar_deed _ up⟩
  | misroutedMgmt kind h body => exact ⟨_, rfl, mgmt kind h body⟩
  | foreignMgmt kind h body => exact ⟨_, rfl, mgmt kind h body⟩
  | replay kind h body => exact ⟨_, rfl, mgmt kind h body⟩
  | nakSeq kind h body => exact ⟨_, rfl, mgmt kind h body⟩
  | nakUnknown kind h body => exact ⟨_, rfl, mgmt kind h body⟩
  | fill h body => exact s.commandRow_deed .fill h body
  | deny h body => exact s.commandRow_deed .deny h body
  | pin h body => exact s.commandRow_deed .pin h body
  | readEntry h body => exact s.commandRow_deed .readEntry h body
  | purge h body => exact s.commandRow_deed .purge h body
  | openContext h body => exact s.commandRow_deed .openContext h body
  | closeContext h body => exact s.commandRow_deed .closeContext h body
  | quiesce h body => exact s.commandRow_deed .quiesce h body
  | resume h body => exact s.commandRow_deed .resume h body
  | setParam h body => exact s.commandRow_deed .setParam h body
  | getParam h body => exact s.commandRow_deed .getParam h body
  | readStatus h body => exact s.commandRow_deed .readStatus h body
  | readCounters h body => exact s.commandRow_deed .readCounters h body
  | readFaults h body => exact s.commandRow_deed .readFaults h body
  | clearFaults h body => exact s.commandRow_deed .clearFaults h body
  | handover h body => exact s.commandRow_deed .handover h body
  | resetBridge h body => exact s.commandRow_deed .resetBridge h body
  | missTimeout id =>
    change ∃ t, execMissTimeout id s = .next t ∧ DeedOf s t
    unfold execMissTimeout
    split
    · exact ⟨_, rfl, Deed.idle.of⟩
    · next m live =>
      split
      · exact ⟨_, rfl, (Deed.missExpired id m _ live).of⟩
      · exact ⟨_, rfl, Deed.idle.of⟩
  | missNotice id =>
    change ∃ t, execMissNotice id s = .next t ∧ DeedOf s t
    unfold execMissNotice
    split
    · exact ⟨_, rfl, Deed.idle.of⟩
    · next m live =>
      split
      · exact ⟨_, rfl, Deed.idle.of⟩
      · next next due =>
        split
        · exact ⟨_, rfl, (Deed.copySent id m next live due).of⟩
        · exact ⟨_, rfl, Deed.idle.of⟩
  | responseTimeout g =>
    change ∃ t, execResponseTimeout g s = .next t ∧ DeedOf s t
    unfold execResponseTimeout
    split
    · exact ⟨_, rfl, Deed.idle.of⟩
    · next o entry =>
      split
      · next due => exact ⟨_, rfl, (Deed.responseExpired g o entry due.1).of⟩
      · exact ⟨_, rfl, Deed.idle.of⟩
  | secondDeadline g =>
    change ∃ t, execSecondDeadline g s = .next t ∧ DeedOf s t
    unfold execSecondDeadline
    split
    · exact ⟨_, rfl, Deed.idle.of⟩
    · next o entry =>
      split
      · next due => exact ⟨_, rfl, (Deed.expiredEnds g o entry due.1).of⟩
      · exact ⟨_, rfl, Deed.idle.of⟩
  | farLinkDown =>
    change ∃ t, execFarLinkDown s = .next t ∧ DeedOf s t
    unfold execFarLinkDown
    split
    · exact ⟨_, rfl, Deed.farDown.of⟩
    · exact ⟨_, rfl, Deed.idle.of⟩
  | linkUp port =>
    change ∃ t, execLinkUp port s = .next t ∧ DeedOf s t
    unfold execLinkUp
    split
    · next powered =>
      cases port with
      | near => exact ⟨_, rfl, (Deed.nearUp powered).of⟩
      | far => exact ⟨_, rfl, (Deed.farUp powered).of⟩
    · exact ⟨_, rfl, Deed.idle.of⟩
  | arbiterForward =>
    change ∃ t, execArbiterForward s = .next t ∧ DeedOf s t
    unfold execArbiterForward
    split
    · next u leaves => exact ⟨_, rfl, (Deed.headForwarded u leaves).of⟩
    · exact ⟨_, rfl, Deed.idle.of⟩
  | missEntryOffer id => exact ⟨_, rfl, (Deed.missOffered id).of⟩
  | fenceDone a => exact ⟨_, rfl, (Deed.fenceJudged a).of⟩
  | purgeDone k => exact ⟨_, rfl, (Deed.slotJudged k).of⟩
  | closeDone c => exact ⟨_, rfl, (Deed.closeJudged c).of⟩
  | quiesced => exact ⟨_, rfl, Deed.drainJudged.of⟩
  | frameLeavesPort port =>
    cases port with
    | near => cases hc
    | far => exact ⟨_, rfl, Deed.farSent.of⟩

/-- What each near arrival, the near port's sending, near link down and the power events do. -/
theorem exec_nearDeed {c : Instr} (hc : keepsAnswers c = false) (s : State) :
    ∃ t, exec c s = .next t ∧ NearDeedOf s t := by
  cases c with
  | nearRequest kind h body => exact ⟨_, rfl, s.arriveNear_deed _ fun u => u.intakeRequest_deed kind h body⟩
  | fence h body => exact ⟨_, rfl, s.arriveNear_deed _ fun u => u.intakeFence_deed h body⟩
  | nearFrameDiscard cls kind h body => exact ⟨_, rfl, s.arriveNear_deed _ fun u => u.routeNear_deed _⟩
  | nearMgmtDiscard kind h body => exact ⟨_, rfl, s.arriveNear_deed _ fun u => .recorded _⟩
  | unknownKindRequest kind h body =>
    exact ⟨_, rfl, s.arriveNear_deed _ fun u =>
      u.routeNear_deed { cls := .request, kind := kind, hdr := h, body := body }⟩
  | crcDiscard port bytes =>
    cases port with
    | near => exact ⟨_, rfl, s.receiveNear_deed bytes⟩
    | far => cases hc
  | nearLinkDown =>
    change ∃ t, execNearLinkDown s = .next t ∧ NearDeedOf s t
    unfold execNearLinkDown
    split
    · exact ⟨_, rfl, NearDeed.nearDown.of⟩
    · exact ⟨_, rfl, NearDeed.idle.of⟩
  | powerOnReset n m => exact ⟨_, rfl, (NearDeed.restarted n m true).of⟩
  | powerGoodFall => exact ⟨_, rfl, (NearDeed.restarted s.node s.managerStrap false).of⟩
  | frameLeavesPort port =>
    cases port with
    | near => exact ⟨_, rfl, NearDeed.nearSent.of⟩
    | far => cases hc
  | _ => cases hc

/-! ## One step -/

/-- A property of the state that reads neither the counters, the queue nor the model's counter is kept by every step,
if every deed keeps it and the passing of time does. -/
theorem step_keeps {P : State → Prop} (hc : ∀ s c, P s → P { s with ctr := c })
    (hp : ∀ s q, P s → P { s with pending := q })
    (ht : ∀ s q, s.powered = true → P s → P { s with time := s.time + 1, moment := s.moment + 1, pending := q })
    (hn : ∀ s t, NearDeed s t → P s → P t) (hd : ∀ s t, Deed s t → P s → P t) :
    ∀ s t : State, P s → step s = .next t → P t := by
  intro s t h hs
  unfold step at hs
  split at hs
  · cases hs
    unfold State.tick
    split
    · next powered => exact ht s _ powered h
    · exact h
  · next c rest _ =>
    cases hk : keepsAnswers c
    · obtain ⟨u, hu, ctr, hd⟩ := exec_nearDeed hk { s with pending := rest }
      rw [hu] at hs; cases hs
      exact hn _ _ hd (hc _ ctr (hp s rest h))
    · obtain ⟨u, hu, ctr, hd'⟩ := exec_deed hk { s with pending := rest }
      rw [hu] at hs; cases hs
      exact hd _ _ hd' (hc _ ctr (hp s rest h))

/-! ## The stages of a FILL and of a close -/

/-- The fields of a FILL's ACK behind its kind code (R45). -/
def fillFields (s : State) (a : FillArgs) (w : WayId) : List Byte :=
  [byteOf (setOf a.entry.page).val, byteOf w.val,
    if s.cache[setOf a.entry.page].ways[w].sameKey a.entry then 1 else 0, ticketStatus s a.entry a.ticket,
    byteOf (s.park.countP (ParkRecord.releasedBy a.entry))]

/-- The entry of a FILL installed (R22). -/
def fillInstalled (s : State) (a : FillArgs) (w : WayId) : State :=
  s.setCache (setOf a.entry.page) (s.cache[setOf a.entry.page].install w a.entry)

/-- The entry installed, the records it matches released, the misses it matches freed (R22, R46, R47). -/
def fillCleared (s : State) (a : FillArgs) (w : WayId) : State :=
  ((fillInstalled s a w).sweep (releaseFate a.entry)).freeMisses (s.missesMatched a.entry)

/-- A FILL behind its ACK, its offers and its fault records; the arbiter and the drain follow (R49). -/
def fillRecorded (f : Frame) (a : FillArgs) (w : WayId) (s : State) : State :=
  (((fillCleared s a w).ack f (fillFields s a w)).offerAll (s.missesMatched a.entry)).makeFaults
    (s.park.filterMap (releaseFault a.entry))

theorem fillWritten_eq (f : Frame) (a : FillArgs) (w : WayId) (s : State) :
    fillWritten f a w s = (fillRecorded f a w s).runArbiter.judgeDrain :=
  rfl

/-- A context CLOSING under the command's number, its entries invalidated (R121, R122). -/
def closeInvalidated (f : Frame) (c : Ctx) (s : State) : State :=
  { s.setCtx c { s.ctxs[c] with state := .closing f.hdr.seq } with cache := invalidateCache (closeNames c) s.cache }

/-- The teardown of a context: its records refused and its misses freed as well (R123, R124). -/
def closeCleared (f : Frame) (c : Ctx) (s : State) : State :=
  ((closeInvalidated f c s).sweep (refuseFate (fun r => r.ctx == c) .aborted 0)).freeMisses (s.missesOf c)

/-- The fields of the ACK of a close that tears an OPEN context down (R125). -/
def closeFields (s : State) (c : Ctx) : List Byte :=
  closeAckFields 0 (countInvalidated (closeNames c) s.cache) (s.park.countP fun r => r.ctx == c) (s.missesOf c).length

/-- A close behind its ACK, its offers and its PURGE-DONEs (R125). -/
def closeOffered (f : Frame) (c : Ctx) (s : State) : State :=
  (((closeCleared f c s).ack f (closeFields s c)).offerAll (s.missesOf c)).completeSlots

/-- A close behind its CLOSE-DONE and its fault records; the arbiter and the drain follow (R125). -/
def closeRecorded (f : Frame) (c : Ctx) (s : State) : State :=
  ((closeOffered f c s).completeClose c).makeFaults (s.park.filterMap (closeFault c))

theorem closeOpen_eq (f : Frame) (c : Ctx) (s : State) :
    closeOpen f c s = (closeRecorded f c s).runArbiter.judgeDrain :=
  rfl

/-! ## `State.refuseAborted` -/

/-- What every answer keeps, the ABORTED refusals of a soft reset keep (R159). -/
theorem State.refuseAborted_keeps {β : Type} (g : State → β)
    (h : ∀ (s : State) (a : Agent) (t : NearTag) (x : Answer), g (s.answer a t x) = g s) (s : State)
    (ids : List (Agent × NearTag)) : g (s.refuseAborted ids) = g s :=
  foldl_keeps g (fun (s : State) (x : Agent × NearTag) => s.answer x.1 x.2 (.refuse .aborted 0)) (fun s x => h s x.1 x.2 _) ids s

@[simp] theorem State.refuseAborted_cache (s : State) (ids : List (Agent × NearTag)) :
    (s.refuseAborted ids).cache = s.cache :=
  State.refuseAborted_keeps State.cache State.answer_cache s ids

@[simp] theorem State.refuseAborted_park (s : State) (ids : List (Agent × NearTag)) :
    (s.refuseAborted ids).park = s.park :=
  State.refuseAborted_keeps State.park State.answer_park s ids

@[simp] theorem State.refuseAborted_misses (s : State) (ids : List (Agent × NearTag)) :
    (s.refuseAborted ids).misses = s.misses :=
  State.refuseAborted_keeps State.misses State.answer_misses s ids

@[simp] theorem State.refuseAborted_fences (s : State) (ids : List (Agent × NearTag)) :
    (s.refuseAborted ids).fences = s.fences :=
  State.refuseAborted_keeps State.fences State.answer_fences s ids

@[simp] theorem State.refuseAborted_outs (s : State) (ids : List (Agent × NearTag)) :
    (s.refuseAborted ids).outs = s.outs :=
  State.refuseAborted_keeps State.outs State.answer_outs s ids

@[simp] theorem State.refuseAborted_slots (s : State) (ids : List (Agent × NearTag)) :
    (s.refuseAborted ids).slots = s.slots :=
  State.refuseAborted_keeps State.slots State.answer_slots s ids

@[simp] theorem State.refuseAborted_ctxs (s : State) (ids : List (Agent × NearTag)) :
    (s.refuseAborted ids).ctxs = s.ctxs :=
  State.refuseAborted_keeps State.ctxs State.answer_ctxs s ids

@[simp] theorem State.refuseAborted_bridge (s : State) (ids : List (Agent × NearTag)) :
    (s.refuseAborted ids).bridge = s.bridge :=
  State.refuseAborted_keeps State.bridge State.answer_bridge s ids

@[simp] theorem State.refuseAborted_chan (s : State) (ids : List (Agent × NearTag)) :
    (s.refuseAborted ids).chan = s.chan :=
  State.refuseAborted_keeps State.chan State.answer_chan s ids

@[simp] theorem State.refuseAborted_log (s : State) (ids : List (Agent × NearTag)) :
    (s.refuseAborted ids).log = s.log :=
  State.refuseAborted_keeps State.log State.answer_log s ids

@[simp] theorem State.refuseAborted_time (s : State) (ids : List (Agent × NearTag)) :
    (s.refuseAborted ids).time = s.time :=
  State.refuseAborted_keeps State.time State.answer_time s ids

@[simp] theorem State.refuseAborted_far (s : State) (ids : List (Agent × NearTag)) :
    (s.refuseAborted ids).far = s.far :=
  State.refuseAborted_keeps State.far State.answer_far s ids

@[simp] theorem State.refuseAborted_node (s : State) (ids : List (Agent × NearTag)) :
    (s.refuseAborted ids).node = s.node :=
  State.refuseAborted_keeps State.node State.answer_node s ids

@[simp] theorem State.refuseAborted_managerStrap (s : State) (ids : List (Agent × NearTag)) :
    (s.refuseAborted ids).managerStrap = s.managerStrap :=
  State.refuseAborted_keeps State.managerStrap State.answer_managerStrap s ids

@[simp] theorem State.refuseAborted_powered (s : State) (ids : List (Agent × NearTag)) :
    (s.refuseAborted ids).powered = s.powered :=
  State.refuseAborted_keeps State.powered State.answer_powered s ids

@[simp] theorem State.refuseAborted_moment (s : State) (ids : List (Agent × NearTag)) :
    (s.refuseAborted ids).moment = s.moment :=
  State.refuseAborted_keeps State.moment State.answer_moment s ids

@[simp] theorem State.refuseAborted_pending (s : State) (ids : List (Agent × NearTag)) :
    (s.refuseAborted ids).pending = s.pending :=
  State.refuseAborted_keeps State.pending State.answer_pending s ids

@[simp] theorem State.refuseAborted_near_up (s : State) (ids : List (Agent × NearTag)) :
    (s.refuseAborted ids).near.up = s.near.up :=
  State.refuseAborted_keeps (fun s => s.near.up) State.answer_near_up s ids

/-! ## `State.clearEntries` -/

/-- One entry freed at far link down changes only near, fences, outs, ctr (R95). -/
theorem State.clearEntry_frame (s : State) (g : BridgeTag) :
    s.clearEntry g =
      { s with
        near := (s.clearEntry g).near
        fences := (s.clearEntry g).fences
        outs := (s.clearEntry g).outs
        ctr := (s.clearEntry g).ctr } := by
  unfold State.clearEntry
  split
  · rfl
  · split
    · rw [State.endHold_frame, State.answer_frame]; rfl
    · rfl

theorem State.clearEntry_outs (s : State) (t g : BridgeTag) :
    (s.clearEntry t).outs[g] = if t = g then none else s.outs[g] := by
  have hset : (s.setOut t none).outs[g] = if t = g then none else s.outs[g] := by
    simp only [State.setOut_outs, Vector.getElem_set, Fin.ext_iff, Fin.getElem_fin]
  unfold State.clearEntry
  split
  · next hn =>
    split
    · next h => rw [← h, hn]
    · rfl
  · split
    · simp only [State.endHold_outs, State.answer_outs]
      exact hset
    · exact hset

/-- Every outstanding entry is FREE once the table is cleared (R95). -/
theorem State.clearEntries_outs (s : State) (g : BridgeTag) : s.clearEntries.outs[g] = none := by
  have main : ∀ (l : List BridgeTag) (u : State), g ∈ l ∨ u.outs[g] = none → (l.foldl State.clearEntry u).outs[g] = none := by
    intro l
    induction l with
    | nil => exact fun u h => h.resolve_left (by simp)
    | cons t l ih =>
      intro u h
      refine ih _ ?_
      rw [State.clearEntry_outs]
      rcases h with h | h
      · rcases List.mem_cons.mp h with rfl | h
        · exact .inr (if_pos rfl)
        · exact .inl h
      · exact .inr (by rw [h, ite_self])
  exact main _ s (.inl (List.mem_finRange g))

/-- What every cleared entry keeps, the clearing of the table keeps. -/
theorem State.clearEntries_keeps {β : Type} (g : State → β) (h : ∀ (s : State) (t : BridgeTag), g (s.clearEntry t) = g s)
    (s : State) : g s.clearEntries = g s := by
  unfold State.clearEntries
  exact foldl_keeps g State.clearEntry h _ s

@[simp] theorem State.clearEntries_cache (s : State) : s.clearEntries.cache = s.cache :=
  State.clearEntries_keeps State.cache (fun s g => (congrArg State.cache (s.clearEntry_frame g) :)) s

@[simp] theorem State.clearEntries_park (s : State) : s.clearEntries.park = s.park :=
  State.clearEntries_keeps State.park (fun s g => (congrArg State.park (s.clearEntry_frame g) :)) s

@[simp] theorem State.clearEntries_misses (s : State) : s.clearEntries.misses = s.misses :=
  State.clearEntries_keeps State.misses (fun s g => (congrArg State.misses (s.clearEntry_frame g) :)) s

@[simp] theorem State.clearEntries_slots (s : State) : s.clearEntries.slots = s.slots :=
  State.clearEntries_keeps State.slots (fun s g => (congrArg State.slots (s.clearEntry_frame g) :)) s

@[simp] theorem State.clearEntries_ctxs (s : State) : s.clearEntries.ctxs = s.ctxs :=
  State.clearEntries_keeps State.ctxs (fun s g => (congrArg State.ctxs (s.clearEntry_frame g) :)) s

@[simp] theorem State.clearEntries_bridge (s : State) : s.clearEntries.bridge = s.bridge :=
  State.clearEntries_keeps State.bridge (fun s g => (congrArg State.bridge (s.clearEntry_frame g) :)) s

@[simp] theorem State.clearEntries_cause (s : State) : s.clearEntries.cause = s.cause :=
  State.clearEntries_keeps State.cause (fun s g => (congrArg State.cause (s.clearEntry_frame g) :)) s

@[simp] theorem State.clearEntries_chan (s : State) : s.clearEntries.chan = s.chan :=
  State.clearEntries_keeps State.chan (fun s g => (congrArg State.chan (s.clearEntry_frame g) :)) s

@[simp] theorem State.clearEntries_log (s : State) : s.clearEntries.log = s.log :=
  State.clearEntries_keeps State.log (fun s g => (congrArg State.log (s.clearEntry_frame g) :)) s

@[simp] theorem State.clearEntries_time (s : State) : s.clearEntries.time = s.time :=
  State.clearEntries_keeps State.time (fun s g => (congrArg State.time (s.clearEntry_frame g) :)) s

@[simp] theorem State.clearEntries_far (s : State) : s.clearEntries.far = s.far :=
  State.clearEntries_keeps State.far (fun s g => (congrArg State.far (s.clearEntry_frame g) :)) s

@[simp] theorem State.clearEntries_node (s : State) : s.clearEntries.node = s.node :=
  State.clearEntries_keeps State.node (fun s g => (congrArg State.node (s.clearEntry_frame g) :)) s

@[simp] theorem State.clearEntries_managerStrap (s : State) : s.clearEntries.managerStrap = s.managerStrap :=
  State.clearEntries_keeps State.managerStrap (fun s g => (congrArg State.managerStrap (s.clearEntry_frame g) :)) s

@[simp] theorem State.clearEntries_powered (s : State) : s.clearEntries.powered = s.powered :=
  State.clearEntries_keeps State.powered (fun s g => (congrArg State.powered (s.clearEntry_frame g) :)) s

@[simp] theorem State.clearEntries_moment (s : State) : s.clearEntries.moment = s.moment :=
  State.clearEntries_keeps State.moment (fun s g => (congrArg State.moment (s.clearEntry_frame g) :)) s

@[simp] theorem State.clearEntries_pending (s : State) : s.clearEntries.pending = s.pending :=
  State.clearEntries_keeps State.pending (fun s g => (congrArg State.pending (s.clearEntry_frame g) :)) s

@[simp] theorem State.clearEntries_near_up (s : State) : s.clearEntries.near.up = s.near.up := by
  refine State.clearEntries_keeps (fun s => s.near.up) (fun s g => ?_) s
  unfold State.clearEntry
  split
  · rfl
  · split <;> simp

end Sys2Proof.Machine
end

section
/-! PROOF. The laws of the cache (O50): every set keeps its own law under each way of writing it, and the park buffer's
unresolved pairs are never matched (R1, R4, R11, R31). -/

namespace Sys2Proof.Machine

open Sys2Proof.Safety

/-! ## Numbered places -/

/-- A numbered place after a write to a numbered place. -/
theorem getElem_set_fin {α : Type} {n : Nat} (v : Vector α n) (i j : Fin n) (x : α) :
    (v.set i x)[j] = if i = j then x else v[j] := by
  simp [Vector.getElem_set, Fin.ext_iff]

theorem getElem_map_fin {α β : Type} {n : Nat} (v : Vector α n) (f : α → β) (j : Fin n) : (v.map f)[j] = f v[j] := by
  simp

theorem mem_finRange_find {n : Nat} {p : Fin n → Bool} (h : (List.finRange n).find? p = none) (i : Fin n) :
    p i = false := by
  simpa using List.find?_eq_none.mp h i (List.mem_finRange i)

/-! ## One set -/

/-- What the laws of the cache say of the set that stands at place `i` (R1, R4, R11). -/
def SetOk (i : SetId) (t : CacheSet) : Prop :=
  SetLaw t ∧ (∀ w : WayId, t.ways[w].valid = true → setOf t.ways[w].page = i) ∧
    ∀ v w : WayId, v ≠ w → t.ways[v].valid = true → t.ways[w].conflicts t.ways[v] = false

theorem cacheLaws_iff {s : State} : CacheLaws s ↔ (∀ i : SetId, SetOk i s.cache[i]) ∧ ParkedUnmatched s := by
  constructor
  · rintro ⟨hl, hp, hn, -, hu⟩
    exact ⟨fun i => ⟨hl i, hp i, hn i⟩, hu⟩
  · rintro ⟨h, hu⟩
    have hp : Placed s := fun i => (h i).2.1
    have hn : NoConflict s := fun i => (h i).2.2
    exact ⟨fun i => (h i).1, hp, hn, uniqueMatch_of hp hn, hu⟩

/-- Of four ways at most three are pinned exactly when one is not. -/
theorem countP_pinned_le {ways : Vector Entry 4} :
    ways.toList.countP Entry.pinned ≤ 3 ↔ ∃ w : WayId, ways[w].pinned = false := by
  have hlen : ways.toList.countP Entry.pinned ≤ 4 := by simpa using List.countP_le_length (l := ways.toList)
  constructor
  · intro h
    by_contra hn
    have hall : ∀ e ∈ ways.toList, e.pinned = true := by
      intro e he
      obtain ⟨i, hi, rfl⟩ := Vector.mem_iff_getElem.mp (Vector.mem_toList_iff.mp he)
      have hw := not_exists.mp hn ⟨i, hi⟩
      simpa using hw
    have := List.countP_eq_length.mpr hall
    have hfour : ways.toList.length = 4 := by simp
    omega
  · rintro ⟨w, hw⟩
    by_contra hn
    have hfour : ways.toList.length = 4 := by simp
    have hall : ∀ e ∈ ways.toList, e.pinned = true := List.countP_eq_length.mp (by omega)
    have := hall ways[w] (by simp)
    rw [this] at hw; cases hw

/-- The other three ways are all pinned exactly when `pinsBut` counts three. -/
theorem pinsBut_full {t : CacheSet} {w : WayId} :
    Config.maxPins ≤ t.pinsBut w ↔ ∀ v : WayId, v ≠ w → t.ways[v].pinned = true := by
  have h : ∀ (f : WayId → Bool) (w : WayId),
      3 ≤ (List.finRange 4).countP (fun v => v != w && f v) ↔ ∀ v, v ≠ w → f v = true := by decide
  exact h (fun v => t.ways[v].pinned) w

theorem CacheSet.conflict_eq_false {t : CacheSet} {e : Entry} {w : WayId} (h : t.conflict e w = false) {v : WayId}
    (hv : v ≠ w) : t.ways[v].conflicts e = false := by
  have := List.any_eq_false.mp h v (List.mem_finRange v)
  simpa [hv] using this

theorem Scope.overlaps_comm (a b : Scope) : a.overlaps b = b.overlaps a := by
  cases a <;> cases b <;> simp [Scope.overlaps, Bool.beq_comm]

/-- Of two valid entries each conflicts with the other or neither does (R20). -/
theorem Entry.conflicts_comm {a b : Entry} (ha : a.valid = true) (hb : b.valid = true) :
    a.conflicts b = b.conflicts a := by
  simp [Entry.conflicts, ha, hb, Scope.overlaps_comm a.scope b.scope, Bool.beq_comm]

theorem moveFront_perm {w : WayId} {order : List WayId} (h : order.Perm [0, 1, 2, 3]) :
    (moveFront w order).Perm [0, 1, 2, 3] :=
  (List.perm_cons_erase (h.mem_iff.mpr (by fin_cases w <;> simp))).symm.trans h

theorem moveBack_perm {w : WayId} {order : List WayId} (h : order.Perm [0, 1, 2, 3]) :
    (moveBack w order).Perm [0, 1, 2, 3] :=
  List.perm_append_singleton .. |>.trans (moveFront_perm h)

theorem SetOk.initial (i : SetId) : SetOk i CacheSet.initial := by
  refine ⟨⟨by decide, countP_pinned_le.mpr ⟨0, rfl⟩, fun w => ?_⟩, fun w => ?_, fun v w _ => ?_⟩ <;>
    simp [CacheSet.initial, Entry.initial]

/-- A new order that is a permutation, over the same ways. -/
theorem SetOk.reorder {i : SetId} {t : CacheSet} (h : SetOk i t) {order : List WayId} (ho : order.Perm [0, 1, 2, 3]) :
    SetOk i { t with order := order } :=
  ⟨⟨ho, h.1.2.1, h.1.2.2⟩, h.2.1, h.2.2⟩

/-- One way rewritten to an entry that keeps its valid flag, its page and its scope, or is not valid. -/
theorem SetOk.rewrite {i : SetId} {t : CacheSet} (h : SetOk i t) {w : WayId} {e : Entry}
    (he : e.valid = true → t.ways[w].valid = true ∧ e.page = t.ways[w].page ∧ e.scope = t.ways[w].scope)
    (hpin : e.pinned = true → e.valid = true ∧ (t.ways[w].pinned = true ∨ ∃ v, v ≠ w ∧ t.ways[v].pinned = false)) :
    SetOk i { t with ways := t.ways.set w e } := by
  obtain ⟨⟨ho, hc, hv⟩, hp, hn⟩ := h
  refine ⟨⟨ho, countP_pinned_le.mpr ?_, fun v => ?_⟩, fun v => ?_, fun u v huv => ?_⟩
  · obtain ⟨v, hv⟩ := countP_pinned_le.mp hc
    simp only [getElem_set_fin]
    cases hep : e.pinned with
    | false => exact ⟨w, by simp [hep]⟩
    | true =>
      obtain hw | ⟨u, hu, hup⟩ := (hpin hep).2
      · exact ⟨v, by rw [if_neg (by rintro rfl; rw [hw] at hv; cases hv)]; exact hv⟩
      · exact ⟨u, by rw [if_neg (Ne.symm hu)]; exact hup⟩
  · simp only [getElem_set_fin]
    split
    · exact fun h => (hpin h).1
    · exact hv v
  · simp only [getElem_set_fin]
    split
    · next hw => subst hw; exact fun h => by rw [(he h).2.1]; exact hp _ (he h).1
    · exact hp v
  · simp only [getElem_set_fin]
    split
    · next hw =>
      subst hw
      intro hev
      rw [if_neg huv]
      have := hn w v huv (he hev).1
      simpa only [Entry.conflicts, (he hev).2.1, (he hev).2.2] using this
    · intro hu
      split
      · next hw =>
        subst hw
        cases hev : e.valid with
        | false => simp [Entry.conflicts, hev]
        | true =>
          have := hn u w huv hu
          simpa only [Entry.conflicts, hev, (he hev).1, (he hev).2.1, (he hev).2.2] using this
      · exact hn u v huv hu

theorem SetOk.drop {i : SetId} {t : CacheSet} (h : SetOk i t) (named : Entry → Bool) (w : WayId) :
    SetOk i (t.drop named w) := by
  unfold CacheSet.drop
  split
  · exact (h.rewrite (by simp [Entry.invalidated]) (by simp [Entry.invalidated])).reorder (moveBack_perm h.1.1)
  · exact h

theorem SetOk.dropAll {i : SetId} {t : CacheSet} (h : SetOk i t) (named : Entry → Bool) : SetOk i (t.dropAll named) :=
  List.foldlRecOn _ _ h fun _ h w _ => h.drop named w

theorem SetOk.emptied {i : SetId} {t : CacheSet} (h : SetOk i t) : SetOk i t.emptied := by
  have hv : ∀ w : WayId, t.emptied.ways[w].valid = false ∧ t.emptied.ways[w].pinned = false := by
    intro w
    have hpv := h.1.2.2 w
    simp only [CacheSet.emptied, getElem_map_fin]
    split
    · exact ⟨rfl, rfl⟩
    · next hnv => exact ⟨by simpa only [Bool.not_eq_true] using hnv, by simpa only [Bool.not_eq_true] using mt hpv hnv⟩
  refine ⟨⟨by simp only [CacheSet.emptied]; decide, countP_pinned_le.mpr ⟨0, (hv 0).2⟩, fun w hp => ?_⟩,
    fun w hw => ?_, fun v w _ hw => ?_⟩
  · rw [(hv w).2] at hp; cases hp
  · rw [(hv w).1] at hw; cases hw
  · rw [(hv v).1] at hw; cases hw

/-- A valid entry installed in the set of its page, where no other way conflicts and no fourth pin comes (R20 to R22). -/
theorem SetOk.install {i : SetId} {t : CacheSet} (h : SetOk i t) {w : WayId} {e : Entry} (hi : setOf e.page = i)
    (hv : e.valid = true) (hc : t.conflict e w = false) (hp : e.pinned = true → ¬ Config.maxPins ≤ t.pinsBut w) :
    SetOk i (t.install w e) := by
  obtain ⟨⟨ho, hcount, hpv⟩, hplaced, hn⟩ := h
  refine ⟨⟨moveFront_perm ho, countP_pinned_le.mpr ?_, fun v => ?_⟩, fun v => ?_, fun u v huv => ?_⟩
  · simp only [CacheSet.install, getElem_set_fin]
    cases hep : e.pinned with
    | false => exact ⟨w, by simp [hep]⟩
    | true =>
      have := mt pinsBut_full.mpr (hp hep)
      push Not at this
      obtain ⟨v, hvw, hvp⟩ := this
      exact ⟨v, by rw [if_neg (Ne.symm hvw)]; simpa using hvp⟩
  · simp only [CacheSet.install, getElem_set_fin]
    split
    · exact fun _ => hv
    · exact hpv v
  · simp only [CacheSet.install, getElem_set_fin]
    split
    · exact fun _ => hi
    · exact hplaced v
  · simp only [CacheSet.install, getElem_set_fin]
    split
    · next hw => subst hw; intro _; rw [if_neg huv]; exact CacheSet.conflict_eq_false hc (Ne.symm huv)
    · next hw =>
      intro hu
      split
      · next hw' => subst hw'; rw [Entry.conflicts_comm hv hu]; exact CacheSet.conflict_eq_false hc huv
      · exact hn u v huv hu

/-! ## What a cache matches -/

/-- Every match of the second cache is one of the first. -/
def MatchesFrom (old new : Vector CacheSet 64) : Prop :=
  ∀ (i : SetId) (w : WayId) (x : Ctx) (p : Page),
    new[i].ways[w].matchesPair x p = true → old[i].ways[w].matchesPair x p = true

theorem matchesFrom_set {cache : Vector CacheSet 64} {i : SetId} {t : CacheSet}
    (h : ∀ (w : WayId) (x : Ctx) (p : Page), t.ways[w].matchesPair x p = true →
      cache[i].ways[w].matchesPair x p = true) : MatchesFrom cache (cache.set i t) := by
  intro j w x p hm
  rw [getElem_set_fin] at hm
  split at hm
  · next hij => subst hij; exact h w x p hm
  · exact hm

theorem CacheSet.drop_matches {named : Entry → Bool} {t : CacheSet} {v w : WayId} {x : Ctx} {p : Page}
    (h : (t.drop named v).ways[w].matchesPair x p = true) : t.ways[w].matchesPair x p = true := by
  unfold CacheSet.drop at h
  split at h
  · rw [getElem_set_fin] at h
    split at h
    · simp [Entry.matchesPair, Entry.invalidated] at h
    · exact h
  · exact h

theorem CacheSet.dropAll_matches {named : Entry → Bool} {t : CacheSet} {w : WayId} {x : Ctx} {p : Page} :
    (t.dropAll named).ways[w].matchesPair x p = true → t.ways[w].matchesPair x p = true :=
  List.foldlRecOn (motive := fun u : CacheSet => u.ways[w].matchesPair x p = true → t.ways[w].matchesPair x p = true)
    _ _ id fun _ ih _ _ h => ih (CacheSet.drop_matches h)

theorem matchesFrom_invalidate (named : Entry → Bool) (c : Vector CacheSet 64) :
    MatchesFrom c (invalidateCache named c) := by
  intro i w x p h
  rw [invalidateCache, getElem_map_fin] at h
  exact CacheSet.dropAll_matches h

theorem matchesFrom_purged (pat : Pattern) (inc : Bool) (c : Vector CacheSet 64) :
    MatchesFrom c (purgedCache pat inc c) := by
  unfold purgedCache
  split
  · intro i w x p h
    rw [getElem_map_fin, CacheSet.emptied, getElem_map_fin] at h
    split at h
    · simp [Entry.matchesPair, Entry.invalidated] at h
    · exact h
  · exact matchesFrom_invalidate _ _

/-! ## Unresolved pairs -/

/-- Every unresolved record of the second park buffer has the pair of one of the first. -/
def PairsFrom (l k : List ParkRecord) : Prop :=
  ∀ r ∈ k, r.isReady = false → ∃ q ∈ l, q.isReady = false ∧ q.ctx = r.ctx ∧ q.page = r.page

theorem PairsFrom.refl (l : List ParkRecord) : PairsFrom l l := fun r hr hn => ⟨r, hr, hn, rfl, rfl⟩

theorem PairsFrom.trans {l k j : List ParkRecord} (h1 : PairsFrom l k) (h2 : PairsFrom k j) : PairsFrom l j := by
  intro r hr hn
  obtain ⟨q, hq, hqn, hc, hp⟩ := h2 r hr hn
  obtain ⟨q', hq', hqn', hc', hp'⟩ := h1 q hq hqn
  exact ⟨q', hq', hqn', hc'.trans hc, hp'.trans hp⟩

theorem PairsFrom.of_subset {l k : List ParkRecord} (h : k ⊆ l) : PairsFrom l k :=
  fun r hr hn => ⟨r, h hr, hn, rfl, rfl⟩

theorem PairsFrom.map {l : List ParkRecord} {f : ParkRecord → ParkRecord}
    (h : ∀ r, (f r).isReady = r.isReady ∧ (f r).ctx = r.ctx ∧ (f r).address = r.address) : PairsFrom l (l.map f) := by
  intro r hr hn
  obtain ⟨q, hq, rfl⟩ := List.mem_map.mp hr
  obtain ⟨h1, h2, h3⟩ := h q
  exact ⟨q, hq, h1 ▸ hn, h2.symm, by simp [ParkRecord.page, h3]⟩

theorem State.forwardHead_park_subset {s u : State} (h : s.forwardHead = some u) : u.park ⊆ s.park := by
  obtain ⟨b, r, x, m, a, hp, -, -, -, ⟨-, rfl⟩ | ⟨t, -, -, rfl⟩⟩ := State.forwardHead_cases h <;>
    · simp only [State.endHold_park, State.completeSlots_park, State.sendFar_park, hp]
      exact List.append_subset.mpr ⟨by simp, by simp⟩

theorem State.runArbiter_park_subset (s : State) : s.runArbiter.park ⊆ s.park :=
  s.runArbiter_induct (fun u => u.park ⊆ s.park) (fun h ih _ hr => ih (State.forwardHead_park_subset h hr)) fun _ => id

theorem joinMiss_fields (id : MissId) (c : Ctx) (p : Page) (r : ParkRecord) :
    (joinMiss id c p r).isReady = r.isReady ∧ (joinMiss id c p r).ctx = r.ctx ∧
      (joinMiss id c p r).address = r.address := by
  unfold joinMiss
  split
  · next h =>
    have hu : r.state = .unnoticed := by simpa [ParkRecord.isUnnoticed] using (Bool.and_eq_true_iff.mp h).1
    simp [ParkRecord.isReady, hu]
  · simp

theorem State.offer_pairsFrom (s : State) (id : MissId) : PairsFrom s.park (s.offer id).park := by
  unfold State.offer
  split
  · simp only [State.sendMissCopy_park, State.allocMiss_park]
    exact PairsFrom.map (joinMiss_fields id _ _)
  · exact PairsFrom.refl _

theorem State.offerAll_pairsFrom (s : State) (ids : List MissId) : PairsFrom s.park (s.offerAll ids).park :=
  List.foldlRecOn (motive := fun u : State => PairsFrom s.park u.park) _ _ (PairsFrom.refl _)
    fun u h id _ => h.trans (u.offer_pairsFrom id)

theorem ParkRecord.heldFor_fields (a : Agent) (r : ParkRecord) :
    (r.heldFor a).isReady = r.isReady ∧ (r.heldFor a).ctx = r.ctx ∧ (r.heldFor a).address = r.address := by
  unfold ParkRecord.heldFor
  split <;> simp [ParkRecord.isReady]

theorem ParkRecord.markedBy_fields (pat : Pattern) (k : SlotId) (r : ParkRecord) :
    (r.markedBy pat k).isReady = r.isReady ∧ (r.markedBy pat k).ctx = r.ctx ∧
      (r.markedBy pat k).address = r.address := by
  unfold ParkRecord.markedBy
  split
  · next h => split <;> simp [ParkRecord.isReady, h]
  · simp
  · simp

/-! ## The laws of the cache, deed by deed -/

/-- The laws of the cache carry over to a state whose sets keep theirs, that matches nothing new, and that parks no new
unresolved pair. -/
theorem cacheLaws_carry {s t : State} (h : CacheLaws s) (hs : ∀ i : SetId, SetOk i s.cache[i] → SetOk i t.cache[i])
    (hm : MatchesFrom s.cache t.cache) (hp : PairsFrom s.park t.park) : CacheLaws t := by
  obtain ⟨hok, hu⟩ := cacheLaws_iff.mp h
  refine cacheLaws_iff.mpr ⟨fun i => hs i (hok i), fun r hr hn i w => ?_⟩
  obtain ⟨q, hq, hqn, hc, hpg⟩ := hp r hr hn
  have := hu q hq hqn i w
  by_contra hmatch
  rw [hm i w _ _ (by rw [hc, hpg]; simpa using hmatch)] at this
  cases this

/-- With the cache left alone. -/
theorem cacheLaws_carry_park {s t : State} (h : CacheLaws s) (hc : t.cache = s.cache) (hp : PairsFrom s.park t.park) :
    CacheLaws t :=
  cacheLaws_carry h (by rw [hc]; exact fun _ => id) (by rw [hc]; exact fun _ _ _ _ => id) hp

/-- With the cache and the park buffer left alone. -/
theorem cacheLaws_carry_same {s t : State} (h : CacheLaws s) (hc : t.cache = s.cache) (hp : t.park = s.park) :
    CacheLaws t :=
  cacheLaws_carry_park h hc (hp ▸ PairsFrom.refl _)

/-- One set replaced by one that keeps the law and matches nothing new. -/
theorem cacheLaws_setCache {s : State} (h : CacheLaws s) {i : SetId} {t : CacheSet} (ht : SetOk i t)
    (hm : ∀ (w : WayId) (x : Ctx) (p : Page), t.ways[w].matchesPair x p = true →
      s.cache[i].ways[w].matchesPair x p = true) : CacheLaws (s.setCache i t) := by
  refine cacheLaws_carry h (fun j hj => ?_) (matchesFrom_set hm) (PairsFrom.refl _)
  rw [State.setCache_cache, getElem_set_fin]
  split
  · next hij => exact hij ▸ ht
  · exact hj

theorem cacheLaws_touch {s : State} (h : CacheLaws s) (i : SetId) (w : WayId) :
    CacheLaws (s.setCache i (s.cache[i].touch w)) := by
  have hi := (cacheLaws_iff.mp h).1 i
  exact cacheLaws_setCache h (hi.reorder (moveFront_perm hi.1.1)) fun _ _ _ => id

/-- A record parked READY, or of a pair that nothing matches. -/
theorem cacheLaws_parkRequest {s : State} (h : CacheLaws s) {r : Request} {st : ParkState}
    (hst : (parkedAs r st).isReady = false → ∀ (i : SetId) (w : WayId), s.cache[i].ways[w].matchesPair r.ctx r.page = false) :
    CacheLaws (s.parkRequest r st) := by
  obtain ⟨hok, hu⟩ := cacheLaws_iff.mp h
  refine cacheLaws_iff.mpr ⟨hok, fun q hq hn i w => ?_⟩
  rcases List.mem_append.mp hq with hq | hq
  · exact hu q hq hn i w
  · obtain rfl := List.mem_singleton.mp hq
    exact hst hn i w

/-- A lookup that finds no way in the set of the page finds none anywhere (R1, R5). -/
theorem lookup_none_unmatched {s : State} (h : CacheLaws s) {c : Ctx} {p : Page}
    (hl : s.cache[setOf p].lookup c p = none) (i : SetId) (w : WayId) : s.cache[i].ways[w].matchesPair c p = false := by
  by_contra hm
  rw [Bool.not_eq_false] at hm
  have hm' := hm
  simp only [Entry.matchesPair, Bool.and_eq_true, beq_iff_eq] at hm'
  obtain ⟨⟨hv, -⟩, hpage⟩ := hm'
  have hi : setOf p = i := hpage ▸ h.2.1 i w hv
  subst hi
  rw [mem_finRange_find hl w] at hm; cases hm

/-! ### Near side -/

theorem Declined.cacheLaws {s t : State} {r : Request} (hd : Declined s r t) (h : CacheLaws s) : CacheLaws t := by
  rw [hd.frame]
  exact h

theorem State.hitBy_cacheLaws {s : State} (h : CacheLaws s) (r : Request) (w : WayId) : CacheLaws (s.hitBy r w) :=
  cacheLaws_touch h (setOf r.page) w

theorem Admission.cacheLaws {s t : State} {r : Request} (ha : Admission s r t) (h : CacheLaws s) : CacheLaws t := by
  have parked (missed : s.cache[setOf r.page].lookup r.ctx r.page = none) (st : ParkState) :
      CacheLaws (s.parkRequest r st) :=
    cacheLaws_parkRequest h fun _ => lookup_none_unmatched h missed
  cases ha with
  | declined hd => exact hd.cacheLaws h
  | hitDeclined w hd => exact hd.cacheLaws (State.hitBy_cacheLaws h r w)
  | forwardPost w x => exact cacheLaws_carry_same (State.hitBy_cacheLaws h r w) (State.sendFar_cache ..) (State.sendFar_park ..)
  | forwardRequest w x g =>
    exact cacheLaws_carry_same (State.hitBy_cacheLaws h r w) (State.sendFar_cache ..) (State.sendFar_park ..)
  | parkedReady w x => exact cacheLaws_parkRequest (State.hitBy_cacheLaws h r w) fun hn => by cases hn
  | joined id _ missed => exact parked missed _
  | joinedUnnoticed _ missed => exact parked missed _
  | allocated id _ missed =>
    exact cacheLaws_carry_same (parked missed (.waiting id)) (State.sendMissCopy_cache ..) (State.sendMissCopy_park ..)
  | exhausted c _ missed => exact parked missed .unnoticed

theorem State.accept_cacheLaws {s : State} (h : CacheLaws s) (r : Request) : CacheLaws (s.accept r) := by
  obtain hd | ⟨-, -, -, -, ha⟩ := s.accept_cases r
  · exact hd.cacheLaws h
  · exact ha.cacheLaws h

theorem State.takeFence_cacheLaws {s : State} (h : CacheLaws s) (a : Agent) (g : NearTag) :
    CacheLaws (s.takeFence a g) := by
  unfold State.takeFence
  split
  · exact cacheLaws_carry_same h (by simp) (by simp)
  · split
    · exact cacheLaws_carry_park h rfl (PairsFrom.map (ParkRecord.heldFor_fields a))
    · exact cacheLaws_carry_same h (by simp) (by simp)

/-- With nothing parked and every set at its power-on state. -/
theorem cacheLaws_initial {s : State} (hc : s.cache = Vector.replicate 64 CacheSet.initial) (hp : s.park = []) :
    CacheLaws s := by
  refine cacheLaws_iff.mpr ⟨fun i => ?_, fun r hr => ?_⟩
  · have : s.cache[i] = CacheSet.initial := by rw [hc]; exact Vector.getElem_replicate ..
    rw [this]
    exact SetOk.initial i
  · rw [hp] at hr; cases hr

theorem NearDeed.cacheLaws {s t : State} (hd : NearDeed s t) (h : CacheLaws s) : CacheLaws t := by
  cases hd with
  | idle => exact h
  | recorded w => exact cacheLaws_carry_same h (by simp) (by simp)
  | malformed a g k d w => exact cacheLaws_carry_same h (by simp) (by simp)
  | accepted r => exact State.accept_cacheLaws h r
  | fenceBusy a g => exact cacheLaws_carry_same h (by simp) (by simp)
  | fenceTaken a g => exact State.takeFence_cacheLaws h a g
  | nearDown => exact cacheLaws_carry_park h (by simp) (by simp [PairsFrom])
  | nearSent => exact cacheLaws_carry_same h rfl rfl
  | restarted n m powered => exact cacheLaws_initial rfl rfl

/-! ### The other commands -/

theorem runPin_cacheLaws {s : State} (h : CacheLaws s) (f : Frame) (a : SetId × WayId × Bool) :
    CacheLaws (runPin f a s) := by
  obtain ⟨i, w, on⟩ := a
  unfold runPin
  dsimp only
  split
  · exact cacheLaws_carry_same h (by simp) (by simp)
  · next hv =>
    split
    · exact cacheLaws_carry_same h (by simp) (by simp)
    · next hp =>
      have hvalid : s.cache[i].ways[w].valid = true := by simpa only [Bool.not_eq_true', Bool.not_eq_false] using hv
      refine cacheLaws_carry_same (cacheLaws_setCache h (i := i)
        (t := { s.cache[i] with ways := s.cache[i].ways.set w { s.cache[i].ways[w] with pinned := on } })
        (((cacheLaws_iff.mp h).1 i).rewrite (fun _ => ⟨hvalid, rfl, rfl⟩) fun hon => ⟨hvalid, ?_⟩)
        fun v x p hm => ?_) (by simp) (by simp)
      · by_cases hpin : s.cache[i].ways[w].pinned = true
        · exact .inl hpin
        · refine .inr ?_
          have := mt (pinsBut_full (t := s.cache[i]) (w := w)).mpr (fun hfull => hp (by
            simp only [Bool.and_eq_true, decide_eq_true_eq, Bool.not_eq_true']
            exact ⟨⟨hon, Bool.eq_false_iff.mpr hpin⟩, hfull⟩))
          push Not at this
          obtain ⟨v, hvw, hvp⟩ := this
          exact ⟨v, hvw, by simpa only [Bool.not_eq_true] using hvp⟩
      · rw [getElem_set_fin] at hm
        split at hm
        · next hwv => subst hwv; exact hm
        · exact hm

theorem State.applyPurge_cacheLaws {s : State} (h : CacheLaws s) (pat : Pattern) (inc : Bool) (q : Byte) (k : SlotId) :
    CacheLaws (s.applyPurge pat inc q k) := by
  refine cacheLaws_carry h (fun i hi => ?_) (matchesFrom_purged pat inc _)
    (PairsFrom.map (ParkRecord.markedBy_fields pat k))
  simp only [State.applyPurge, purgedCache, invalidateCache]
  split
  · rw [getElem_map_fin]; exact hi.emptied
  · rw [getElem_map_fin]; exact hi.dropAll _

theorem runPurge_cacheLaws {s : State} (h : CacheLaws s) (f : Frame) (a : Pattern × Bool) :
    CacheLaws (runPurge f a s) := by
  unfold runPurge
  split
  · exact cacheLaws_carry_same h (by simp) (by simp)
  · next k _ =>
    exact cacheLaws_carry_same (State.applyPurge_cacheLaws h a.1 a.2 f.hdr.seq k) (by simp) (by simp)

theorem State.sweep_refuse_pairsFrom (s : State) (p : ParkRecord → Bool) (x : Reason) (d : Byte) :
    PairsFrom s.park (s.sweep (refuseFate p x d)).park := by
  rw [State.sweep_refuse_park]
  exact PairsFrom.of_subset (List.filter_subset_self _)

/-- What stays unresolved after a FILL's release was unresolved before, and the new entry does not match it (R46). -/
theorem mem_released_park {s : State} {e : Entry} {r : ParkRecord} (hr : r ∈ (s.sweep (releaseFate e)).park)
    (hn : r.isReady = false) : r ∈ s.park ∧ e.matchesPair r.ctx r.page = false := by
  rw [State.sweep_park] at hr
  obtain ⟨q, hq, hk⟩ := List.mem_filterMap.mp hr
  unfold releaseFate at hk
  split at hk
  · split at hk <;> cases hk
    cases hn
  · next hrel =>
    cases hk
    refine ⟨hq, ?_⟩
    simpa [ParkRecord.releasedBy, hn] using hrel

theorem judgeFill_ok {s : State} {e : Entry} {choice : WayChoice} {w : WayId} (h : judgeFill s e choice = .ok w) :
    (∀ c, e.scope = .context c → s.ctxs[c].state = .opened) ∧ s.cache[setOf e.page].conflict e w = false ∧
      (e.pinned = true → ¬ Config.maxPins ≤ s.cache[setOf e.page].pinsBut w) ∧
      s.cache[setOf e.page].target e choice = w := by
  unfold judgeFill at h
  dsimp only at h
  split_ifs at h with hctx hc hp
  cases h
  refine ⟨fun c hs => ?_, Bool.eq_false_iff.mpr hc, fun hpin hfull => hp (by
    rw [hpin, Bool.true_and]; exact decide_eq_true hfull), rfl⟩
  rw [hs] at hctx
  simpa [State.isOpen] using hctx

theorem fillWritten_cacheLaws {s : State} (h : CacheLaws s) (f : Frame) {a : FillArgs} {w : WayId}
    (valid : a.entry.valid = true) (judged : judgeFill s a.entry a.way = .ok w) : CacheLaws (fillWritten f a w s) := by
  obtain ⟨hok, hu⟩ := cacheLaws_iff.mp h
  obtain ⟨-, hconf, hpin, -⟩ := judgeFill_ok judged
  have cleared : CacheLaws (((s.setCache (setOf a.entry.page) (s.cache[setOf a.entry.page].install w a.entry)).sweep
      (releaseFate a.entry)).freeMisses (s.missesMatched a.entry)) := by
    refine cacheLaws_iff.mpr ⟨fun i => ?_, fun r hr hn i v => ?_⟩
    · simp only [State.freeMisses_cache, State.sweep_cache, State.setCache_cache, getElem_set_fin]
      split
      · next hi => subst hi; exact (hok _).install rfl valid hconf hpin
      · exact hok i
    · simp only [State.freeMisses_park] at hr
      obtain ⟨hr, hne⟩ := mem_released_park hr hn
      have hold := hu r hr hn
      simp only [State.freeMisses_cache, State.sweep_cache, State.setCache_cache, getElem_set_fin]
      split
      · next hi =>
        subst hi
        simp only [CacheSet.install, getElem_set_fin]
        split
        · exact hne
        · exact hold _ v
      · exact hold i v
  unfold fillWritten
  dsimp only
  refine cacheLaws_carry_park cleared (by simp) ?_
  simp only [State.judgeDrain_park]
  refine PairsFrom.trans ?_ (PairsFrom.of_subset (State.runArbiter_park_subset _))
  simp only [State.makeFaults_park]
  exact PairsFrom.trans (by simp [PairsFrom.refl]) (State.offerAll_pairsFrom _ _)

theorem closeOpen_cacheLaws {s : State} (h : CacheLaws s) (f : Frame) (c : Ctx) : CacheLaws (closeOpen f c s) := by
  unfold closeOpen
  dsimp only
  refine cacheLaws_carry h (fun i hi => ?_) ?_ ?_
  · simp only [State.judgeDrain_cache, State.runArbiter_cache, State.makeFaults_cache, State.completeClose_cache,
      State.completeSlots_cache, State.offerAll_cache, State.ack_cache, State.freeMisses_cache, State.sweep_cache,
      invalidateCache, getElem_map_fin]
    exact hi.dropAll _
  · simp only [State.judgeDrain_cache, State.runArbiter_cache, State.makeFaults_cache, State.completeClose_cache,
      State.completeSlots_cache, State.offerAll_cache, State.ack_cache, State.freeMisses_cache, State.sweep_cache]
    exact matchesFrom_invalidate _ _
  · simp only [State.judgeDrain_park]
    refine PairsFrom.trans ?_ (PairsFrom.of_subset (State.runArbiter_park_subset _))
    simp only [State.makeFaults_park, State.completeClose_park, State.completeSlots_park]
    refine PairsFrom.trans ?_ (State.offerAll_pairsFrom _ _)
    simp only [State.ack_park, State.freeMisses_park]
    exact State.sweep_refuse_pairsFrom _ _ _ _

theorem State.endMiss_pairsFrom (s : State) (id : MissId) (x : Reason) (d : Byte) :
    PairsFrom s.park (s.endMiss id x d).park :=
  State.sweep_refuse_pairsFrom s _ x d

theorem State.afterEntry_park_subset (s : State) (o : OutEntry) : (s.afterEntry o).park ⊆ s.park := by
  unfold State.afterEntry
  simp only [State.judgeDrain_park]
  intro r hr
  simpa using State.runArbiter_park_subset _ hr

theorem Deed.cacheLaws {s t : State} (hd : Deed s t) (h : CacheLaws s) : CacheLaws t := by
  cases hd with
  | idle => exact h
  | recorded w => exact cacheLaws_carry_same h (by simp) (by simp)
  | farAnswer f small => exact cacheLaws_carry_same h (by simp) (by simp)
  | resent l stored => exact cacheLaws_carry_same h (by simp) (by simp)
  | responseTaken g o code body entry waiting =>
    refine cacheLaws_carry_park h (by simp [State.takeResponse, State.afterEntry]) (PairsFrom.of_subset fun r hr => ?_)
    simpa using State.afterEntry_park_subset _ o hr
  | expiredEnds g o entry expired =>
    refine cacheLaws_carry_park h (by simp [State.endExpired]) (PairsFrom.of_subset fun r hr => ?_)
    simp only [State.endExpired, State.judgeDrain_park] at hr
    simpa using State.runArbiter_park_subset _ hr
  | replied f kind body small => exact cacheLaws_carry_same h (by simp) (by simp)
  | countersCleared f kind body small => exact cacheLaws_carry_same h (by simp) (by simp)
  | filled f a w up valid judged => exact fillWritten_cacheLaws h f valid judged
  | denied f id d n m w live =>
    refine cacheLaws_carry_park h (by simp [State.endMiss]) ?_
    simp only [State.judgeDrain_park, State.makeFault_park]
    exact (State.endMiss_pairsFrom s id _ d).trans (by simpa using State.offer_pairsFrom (State.ack _ f [n]) id)
  | pinned f a => exact runPin_cacheLaws h f a
  | purged f a => exact runPurge_cacheLaws h f a
  | contextOpened f a =>
    unfold runOpenContext
    dsimp only
    split <;> exact cacheLaws_carry_same h (by simp) (by simp)
  | contextClosed f c opened => exact closeOpen_cacheLaws h f c
  | quiesceTaken f =>
    unfold runQuiesce
    split <;> exact cacheLaws_carry_same h (by simp) (by simp)
  | resumeTaken f => exact cacheLaws_carry_same h (by simp [runResume]) (by simp [runResume])
  | paramSet f a range => exact cacheLaws_carry_same h (by simp [runSetParam]) (by simp [runSetParam])
  | faultsCleared f => exact cacheLaws_carry_same h (by simp [runClearFaults]) (by simp [runClearFaults])
  | handedOver f n =>
    unfold runHandover
    split <;> exact cacheLaws_carry_same h (by simp) (by simp)
  | bridgeReset f => exact cacheLaws_carry_park h (by simp [runResetBridge]) (by simp [runResetBridge, PairsFrom])
  | missExpired id m w live =>
    refine cacheLaws_carry_park h (by simp [State.endMiss]) ?_
    simp only [State.judgeDrain_park, State.makeFault_park]
    exact (State.endMiss_pairsFrom s id _ 0).trans (State.offer_pairsFrom _ id)
  | copySent id m next live due => exact cacheLaws_carry_same h (by simp) (by simp)
  | responseExpired g o entry waiting =>
    refine cacheLaws_carry_park h (by simp [State.afterEntry]) (PairsFrom.of_subset fun r hr => ?_)
    simpa using State.afterEntry_park_subset _ o hr
  | farDown =>
    refine cacheLaws_carry_park h (by simp) ?_
    simp only [State.judgeDrain_park, State.makeFault_park, State.farDrained_park, State.clearEntries_park]
    exact State.sweep_refuse_pairsFrom _ _ _ _
  | nearUp powered => exact h
  | farUp powered => exact h
  | farSent => exact h
  | headForwarded u leaves =>
    have hc : u.cache = s.cache := State.forwardHead_keeps State.cache (fun _ _ _ => rfl) State.sendFar_cache
      State.completeSlots_cache State.endHold_cache leaves
    exact cacheLaws_carry_park h (by simpa using hc)
      (PairsFrom.of_subset (by simpa using State.forwardHead_park_subset leaves))
  | missOffered id => exact cacheLaws_carry_park h (by simp) (State.offer_pairsFrom s id)
  | fenceJudged a => exact cacheLaws_carry_same h (by simp) (by simp)
  | slotJudged k => exact cacheLaws_carry_same h (by simp) (by simp)
  | closeJudged c => exact cacheLaws_carry_same h (by simp) (by simp)
  | drainJudged => exact cacheLaws_carry_same h (by simp) (by simp)

/-- Settles O50: every deed keeps the laws of the cache. -/
theorem cacheLawsKept : Obligations.CacheLawsKept :=
  step_keeps (fun _ _ h => h) (fun _ _ h => h) (fun _ _ _ h => h) (fun _ _ hd => hd.cacheLaws) fun _ _ hd => hd.cacheLaws

end Sys2Proof.Machine
end

section
/-! PROOF. The bounds (O51): what each deed adds to the park buffer, the log and the miss table, and which parameters and
manager it sets (R28, R43, R137, R147, R156, R162). -/

namespace Sys2Proof.Machine

open Sys2Proof.Safety

/-! ## The fault log -/

theorem FaultLog.append_bound {l : FaultLog} (h : l.ring.length ≤ 32) (t : Time) (w : FaultBody) :
    (l.append t w).ring.length ≤ 32 := by
  unfold FaultLog.append
  dsimp only
  split
  · next hlt =>
    have : l.ring.length < 32 := hlt
    simp; omega
  · simp; omega

theorem State.makeFault_logBound {s : State} (h : LogBound s) (w : FaultBody) : LogBound (s.makeFault w) := by
  unfold LogBound
  rw [State.makeFault_log]
  exact FaultLog.append_bound h ..

theorem State.makeFaults_logBound {s : State} (h : LogBound s) (ws : List FaultBody) : LogBound (s.makeFaults ws) :=
  List.foldlRecOn (motive := LogBound) _ _ h fun _ h w _ => State.makeFault_logBound h w

theorem State.makeFaultIf_logBound {s : State} (h : LogBound s) (w : Option FaultBody) : LogBound (s.makeFaultIf w) := by
  cases w with
  | none => exact h
  | some w => exact State.makeFault_logBound h w

/-! ## Notice schedules -/

/-- The schedule of one active miss (R43). -/
def Miss.Scheduled (m : Miss) : Prop := m.sent ≤ m.repeats ∧ m.repeats ≤ 7 ∧ m.next = m.nextCopy m.sent

/-- Every active miss of a table keeps its schedule. -/
def SchedulesOk (misses : Vector MissSlot 16) : Prop :=
  ∀ (id : MissId) (m : Miss), misses[id].active = some m → m.Scheduled

theorem schedulesOk_iff {s : State} : SchedulesOk s.misses ↔ ScheduleLaw s := Iff.rfl

theorem newMiss_scheduled {s : State} (h : ParamsInRange s) (c : Ctx) (p : Page) (x : Access) (m : Mode) :
    (newMiss s c p x m).Scheduled :=
  ⟨Nat.zero_le _, h.2.2.1, rfl⟩

/-- While a next time is held, a copy remains (R43). -/
theorem Miss.Scheduled.sent_lt {m : Miss} (h : m.Scheduled) {next : Time} (due : m.next = some next) :
    m.sent + 1 ≤ m.repeats := by
  rw [h.2.2, Miss.nextCopy] at due
  split at due
  · next hk => exact hk.1
  · cases due

theorem scheduleLaw_set {s t : State} (h : ScheduleLaw s) {id : MissId} {x : MissSlot}
    (ht : t.misses = s.misses.set id x) (hx : ∀ m, x.active = some m → m.Scheduled) : ScheduleLaw t := by
  intro j m hj
  rw [ht, getElem_set_fin] at hj
  split at hj
  · exact hx m hj
  · exact h j m hj

theorem State.allocMiss_scheduleLaw {s : State} (h : ScheduleLaw s) (hp : ParamsInRange s) (id : MissId) (c : Ctx)
    (p : Page) (x : Access) (m : Mode) : ScheduleLaw (s.allocMiss id c p x m) :=
  scheduleLaw_set h rfl fun _ hm => by cases hm; exact newMiss_scheduled hp ..

theorem State.freeMiss_scheduleLaw {s : State} (h : ScheduleLaw s) (id : MissId) : ScheduleLaw (s.freeMiss id) :=
  scheduleLaw_set h rfl fun _ hm => by cases hm

theorem State.freeMisses_scheduleLaw {s : State} (h : ScheduleLaw s) (ids : List MissId) :
    ScheduleLaw (s.freeMisses ids) :=
  List.foldlRecOn (motive := ScheduleLaw) _ _ h fun _ h id _ => State.freeMiss_scheduleLaw h id

theorem scheduleLaw_congr {s t : State} (h : ScheduleLaw s) (ht : t.misses = s.misses) : ScheduleLaw t := by
  intro id m hm
  exact h id m (ht ▸ hm)

theorem State.offer_scheduleLaw {s : State} (h : ScheduleLaw s) (hp : ParamsInRange s) (id : MissId) :
    ScheduleLaw (s.offer id) := by
  unfold State.offer
  split
  · refine scheduleLaw_congr ?_ (State.sendMissCopy_misses ..)
    exact State.allocMiss_scheduleLaw (s := { s with park := _ }) h hp _ _ _ _ _
  · exact h

theorem State.offerAll_scheduleLaw {s : State} (h : ScheduleLaw s) (hp : ParamsInRange s) (ids : List MissId) :
    ScheduleLaw (s.offerAll ids) := by
  refine (List.foldlRecOn (motive := fun u : State => ScheduleLaw u ∧ ParamsInRange u) _ _ ⟨h, hp⟩
    fun u hu id _ => ⟨State.offer_scheduleLaw hu.1 hu.2 id, ?_⟩).1
  simpa only [ParamsInRange, State.offer_chan_params] using hu.2

/-! ## The park buffer -/

theorem State.sweep_park_length (s : State) (fate : ParkRecord → Fate) : (s.sweep fate).park.length ≤ s.park.length := by
  rw [State.sweep_park]
  exact List.length_filterMap_le ..

theorem State.forwardHead_park_length {s u : State} (h : s.forwardHead = some u) : u.park.length ≤ s.park.length := by
  have := State.forwardHead_length h
  omega

theorem State.runArbiter_park_length (s : State) : s.runArbiter.park.length ≤ s.park.length :=
  s.runArbiter_induct (fun u => u.park.length ≤ s.park.length)
    (fun h ih => (State.forwardHead_park_length h).trans ih) (Nat.le_refl _)

@[simp] theorem State.offer_park_length (s : State) (id : MissId) : (s.offer id).park.length = s.park.length := by
  unfold State.offer
  split <;> simp

@[simp] theorem State.offerAll_park_length (s : State) (ids : List MissId) :
    (s.offerAll ids).park.length = s.park.length :=
  foldl_keeps (fun s : State => s.park.length) State.offer State.offer_park_length ids s

theorem State.afterEntry_park_length (s : State) (o : OutEntry) : (s.afterEntry o).park.length ≤ s.park.length := by
  unfold State.afterEntry
  simpa using State.runArbiter_park_length (s.completeSlots.endHold o.held o.agent).completeCloses

@[simp] theorem State.afterEntry_misses (s : State) (o : OutEntry) : (s.afterEntry o).misses = s.misses := by
  simp [State.afterEntry]

@[simp] theorem State.afterEntry_log (s : State) (o : OutEntry) : (s.afterEntry o).log = s.log := by
  simp [State.afterEntry]

@[simp] theorem State.afterEntry_chan_params (s : State) (o : OutEntry) :
    (s.afterEntry o).chan.params = s.chan.params := by
  simp [State.afterEntry]

@[simp] theorem State.afterEntry_chan_manager (s : State) (o : OutEntry) :
    (s.afterEntry o).chan.manager = s.chan.manager := by
  simp [State.afterEntry]

@[simp] theorem State.afterEntry_node (s : State) (o : OutEntry) : (s.afterEntry o).node = s.node := by
  simp [State.afterEntry]

/-! ## The bounds, deed by deed -/

/-- The bounds carry over to a state with no more records parked, the channel's parameters, manager and node kept, and
a log and schedules within their own bounds. -/
theorem boundLaws_carry {s t : State} (h : BoundLaws s) (hpark : t.park.length ≤ s.park.length)
    (hlog : LogBound s → LogBound t) (hsched : ScheduleLaw s → ParamsInRange s → ScheduleLaw t)
    (hparams : t.chan.params = s.chan.params) (hman : t.chan.manager = s.chan.manager) (hnode : t.node = s.node) :
    BoundLaws t := by
  obtain ⟨hp, hl, hr, hs, hm⟩ := h
  refine ⟨hpark.trans hp, hlog hl, ?_, hsched hs hr, ?_⟩
  · unfold ParamsInRange; rwa [hparams]
  · unfold ManagerElsewhere; rwa [hman, hnode]

/-- With the miss table left alone. -/
theorem boundLaws_carry_misses {s t : State} (h : BoundLaws s) (hpark : t.park.length ≤ s.park.length)
    (hlog : LogBound s → LogBound t) (hmisses : t.misses = s.misses) (hparams : t.chan.params = s.chan.params)
    (hman : t.chan.manager = s.chan.manager) (hnode : t.node = s.node) : BoundLaws t :=
  boundLaws_carry h hpark hlog (fun hs _ => scheduleLaw_congr hs hmisses) hparams hman hnode

/-- With the miss table and the log left alone. -/
theorem boundLaws_carry_same {s t : State} (h : BoundLaws s) (hpark : t.park.length ≤ s.park.length)
    (hlog : t.log = s.log) (hmisses : t.misses = s.misses) (hparams : t.chan.params = s.chan.params)
    (hman : t.chan.manager = s.chan.manager) (hnode : t.node = s.node) : BoundLaws t :=
  boundLaws_carry_misses h hpark (by unfold LogBound; rw [hlog]; exact id) hmisses hparams hman hnode

theorem State.makeFault_boundLaws {s : State} (h : BoundLaws s) (w : FaultBody) : BoundLaws (s.makeFault w) :=
  boundLaws_carry_misses h (by simp) (fun hl => State.makeFault_logBound hl w) (by simp) (by simp) (by simp) (by simp)

theorem State.answerIf_boundLaws {s : State} (h : BoundLaws s) (a : Agent) (g : NearTag) (x : Option Answer) :
    BoundLaws (s.answerIf a g x) :=
  boundLaws_carry_same h (by simp) (by simp) (by simp) (by simp) (by simp) (by simp)

theorem State.answer_boundLaws {s : State} (h : BoundLaws s) (a : Agent) (g : NearTag) (x : Answer) :
    BoundLaws (s.answer a g x) :=
  State.answerIf_boundLaws h a g (some x)

theorem Declined.boundLaws {s t : State} {r : Request} (hd : Declined s r t) (h : BoundLaws s) : BoundLaws t := by
  cases hd with
  | turnAway x d =>
    unfold State.turnAway
    split
    · exact State.answer_boundLaws h ..
    · exact State.answer_boundLaws h ..
    · exact State.makeFault_boundLaws h _
  | turnAwayWith x k d => exact State.makeFault_boundLaws (State.answerIf_boundLaws h ..) _
  | refused hk x d => exact State.answer_boundLaws h ..
  | lost hk w => exact State.makeFault_boundLaws h w
  | zero => exact State.answerIf_boundLaws h ..

theorem State.parkRequest_boundLaws {s : State} (h : BoundLaws s) (room : s.park.length < 64) (r : Request)
    (st : ParkState) : BoundLaws (s.parkRequest r st) := by
  obtain ⟨-, hl, hr, hs, hm⟩ := h
  refine ⟨?_, hl, hr, hs, hm⟩
  simp only [ParkBound, State.parkRequest, List.length_append, List.length_singleton]
  omega

theorem Admission.boundLaws {s t : State} {r : Request} (ha : Admission s r t) (h : BoundLaws s) : BoundLaws t := by
  have hit (w : WayId) : BoundLaws (s.hitBy r w) := h
  cases ha with
  | declined hd => exact hd.boundLaws h
  | hitDeclined w hd => exact hd.boundLaws (hit w)
  | forwardPost w x =>
    exact boundLaws_carry_same (hit w) (by simp [State.forwardPost]) (by simp [State.forwardPost])
      (by simp [State.forwardPost]) (by simp [State.forwardPost]) (by simp [State.forwardPost])
      (by simp [State.forwardPost])
  | forwardRequest w x g =>
    exact boundLaws_carry_same (hit w) (by simp [State.forwardRequest]) (by simp [State.forwardRequest])
      (by simp [State.forwardRequest]) (by simp [State.forwardRequest]) (by simp [State.forwardRequest])
      (by simp [State.forwardRequest])
  | parkedReady w x room => exact State.parkRequest_boundLaws (hit w) room r _
  | joined id room => exact State.parkRequest_boundLaws h room r _
  | joinedUnnoticed room => exact State.parkRequest_boundLaws h room r _
  | allocated id room =>
    refine boundLaws_carry (State.parkRequest_boundLaws h room r (.waiting id)) (by simp) (by simp [LogBound])
      (fun hs hp => ?_) (by simp) (by simp) (by simp)
    exact scheduleLaw_congr (State.allocMiss_scheduleLaw hs hp id _ _ _ _) (State.sendMissCopy_misses ..)
  | exhausted c room => exact State.parkRequest_boundLaws h room r .unnoticed

theorem boundLaws_powerOn {s : State} {n m : NodeId} (hp : s.park = []) (hl : s.log.ring = [])
    (hmisses : s.misses = Vector.replicate 16 { gen := 0, active := none }) (hparams : s.chan.params = Params.initial)
    (hman : s.chan.manager = if m = n then none else some m) (hnode : s.node = n) : BoundLaws s := by
  refine ⟨by simp [ParkBound, hp], by simp [LogBound, hl], ?_, fun id m' hm => ?_, ?_⟩
  · unfold ParamsInRange; rw [hparams]; decide
  · rw [hmisses] at hm; simp at hm
  · unfold ManagerElsewhere
    rw [hman, hnode]
    split <;> simp_all

theorem NearDeed.boundLaws {s t : State} (hd : NearDeed s t) (h : BoundLaws s) : BoundLaws t := by
  cases hd with
  | idle => exact h
  | recorded w => exact State.makeFault_boundLaws h w
  | malformed a g k d w => exact State.makeFault_boundLaws (State.answerIf_boundLaws h ..) w
  | accepted r =>
    obtain hd | ⟨-, -, -, -, ha⟩ := s.accept_cases r
    · exact hd.boundLaws h
    · exact ha.boundLaws h
  | fenceBusy a g => exact State.answer_boundLaws h ..
  | fenceTaken a g =>
    unfold State.takeFence
    split
    · exact State.answer_boundLaws h ..
    · split
      · exact boundLaws_carry_same h (by simp) rfl rfl rfl rfl rfl
      · exact State.answer_boundLaws h ..
  | nearDown =>
    exact boundLaws_carry_misses h (by simp)
      (fun hl => by simpa [LogBound] using FaultLog.append_bound hl _ _) (by simp) (by simp) (by simp) (by simp)
  | nearSent => exact h
  | restarted n m powered => exact boundLaws_powerOn (n := n) (m := m) rfl rfl rfl rfl rfl rfl

theorem paramsInRange_assign {ps : Params} {p : Param} {v : BitVec 16}
    (h : 200 ≤ ps.missTimeout.toNat ∧ 50 ≤ ps.noticeInterval.toNat ∧ ps.noticeRepeats ≤ 7 ∧ 100 ≤ ps.responseTimeout.toNat)
    (hv : paramInRange p v = true) :
    200 ≤ (ps.assign p v).missTimeout.toNat ∧ 50 ≤ (ps.assign p v).noticeInterval.toNat ∧
      (ps.assign p v).noticeRepeats ≤ 7 ∧ 100 ≤ (ps.assign p v).responseTimeout.toNat := by
  obtain ⟨h1, h2, h3, h4⟩ := h
  cases p <;> simp only [paramInRange, decide_eq_true_eq] at hv <;> exact ⟨by assumption, by assumption, by assumption, by assumption⟩

theorem fillWritten_boundLaws {s : State} (h : BoundLaws s) (f : Frame) (a : FillArgs) (w : WayId) :
    BoundLaws (fillWritten f a w s) := by
  unfold fillWritten
  dsimp only
  refine boundLaws_carry h ?_ (fun hl => ?_) (fun hs hp => ?_) (by simp) (by simp) (by simp)
  · simp only [State.judgeDrain_park]
    refine (State.runArbiter_park_length _).trans ?_
    simpa using State.sweep_park_length (s.setCache _ _) _
  · simp only [LogBound, State.judgeDrain_log, State.runArbiter_log]
    exact State.makeFaults_logBound (by simpa [LogBound] using hl) _
  · refine schedulesOk_iff.mp ?_
    simp only [State.judgeDrain_misses, State.runArbiter_misses, State.makeFaults_misses]
    refine State.offerAll_scheduleLaw (scheduleLaw_congr (State.freeMisses_scheduleLaw ?_ _) (State.ack_misses ..)) ?_ _
    · exact scheduleLaw_congr hs (by simp)
    · simpa [ParamsInRange] using hp

theorem closeOpen_boundLaws {s : State} (h : BoundLaws s) (f : Frame) (c : Ctx) : BoundLaws (closeOpen f c s) := by
  unfold closeOpen
  dsimp only
  refine boundLaws_carry h ?_ (fun hl => ?_) (fun hs hp => ?_) (by simp) (by simp) (by simp)
  · simp only [State.judgeDrain_park]
    refine (State.runArbiter_park_length _).trans ?_
    simpa using List.length_filter_le _ s.park
  · simp only [LogBound, State.judgeDrain_log, State.runArbiter_log]
    exact State.makeFaults_logBound (by simpa [LogBound] using hl) _
  · refine schedulesOk_iff.mp ?_
    simp only [State.judgeDrain_misses, State.runArbiter_misses, State.makeFaults_misses, State.completeClose_misses,
      State.completeSlots_misses]
    refine State.offerAll_scheduleLaw (scheduleLaw_congr (State.freeMisses_scheduleLaw ?_ _) (State.ack_misses ..)) ?_ _
    · exact scheduleLaw_congr hs (by simp)
    · simpa [ParamsInRange] using hp

theorem State.endMiss_boundLaws {s : State} (h : BoundLaws s) (id : MissId) (x : Reason) (d : Byte) :
    BoundLaws (s.endMiss id x d) := by
  unfold State.endMiss
  refine boundLaws_carry h (by simpa using List.length_filter_le _ s.park) (by simp [LogBound]) (fun hs _ => ?_) (by simp)
    (by simp) (by simp)
  exact State.freeMiss_scheduleLaw (scheduleLaw_congr hs (by simp)) id

theorem State.offer_boundLaws {s : State} (h : BoundLaws s) (id : MissId) : BoundLaws (s.offer id) :=
  boundLaws_carry h (by simp) (by simp [LogBound]) (fun hs hp => State.offer_scheduleLaw hs hp id) (by simp) (by simp)
    (by simp)

theorem State.reply_boundLaws {s : State} (h : BoundLaws s) (f : Frame) (kind : BitVec 6) (body : List Byte) :
    BoundLaws (s.reply f kind body) :=
  boundLaws_carry_same h (by simp) (by simp) (by simp) (by simp) (by simp) (by simp)

theorem State.judgeDrain_boundLaws {s : State} (h : BoundLaws s) : BoundLaws s.judgeDrain :=
  boundLaws_carry_same h (by simp) (by simp) (by simp) (by simp) (by simp) (by simp)

theorem Deed.boundLaws {s t : State} (hd : Deed s t) (h : BoundLaws s) : BoundLaws t := by
  cases hd with
  | idle => exact h
  | recorded w => exact State.makeFault_boundLaws h w
  | farAnswer f small => exact boundLaws_carry_same h (by simp) (by simp) (by simp) (by simp) (by simp) (by simp)
  | resent l stored => exact boundLaws_carry_same h (by simp) (by simp) (by simp) (by simp) (by simp) (by simp)
  | responseTaken g o code body entry waiting =>
    unfold State.takeResponse
    dsimp only
    exact boundLaws_carry_misses h ((State.afterEntry_park_length _ o).trans (by simp))
      (fun hl => by simpa [LogBound] using State.makeFaultIf_logBound (s := s.answerEntry o _) (by simpa [LogBound] using hl) _)
      (by simp) (by simp) (by simp) (by simp)
  | expiredEnds g o entry expired =>
    unfold State.endExpired
    exact boundLaws_carry_same h (by simpa using State.runArbiter_park_length (s.setOut g none)) (by simp) (by simp)
      (by simp) (by simp) (by simp)
  | replied f kind body small => exact State.reply_boundLaws h f kind body
  | countersCleared f kind body small => exact State.reply_boundLaws h f kind body
  | filled f a w up valid judged => exact fillWritten_boundLaws h f a w
  | denied f id d n m w live =>
    exact State.judgeDrain_boundLaws (State.makeFault_boundLaws (State.offer_boundLaws
      (State.reply_boundLaws (State.endMiss_boundLaws h id _ d) f _ _) id) w)
  | pinned f a =>
    unfold runPin
    dsimp only
    split
    · exact State.reply_boundLaws h f _ _
    · split
      · exact State.reply_boundLaws h f _ _
      · exact State.reply_boundLaws (s := s.setCache _ _) h f _ _
  | purged f a =>
    unfold runPurge
    split
    · exact State.reply_boundLaws h f _ _
    · exact boundLaws_carry_same h (by simp) (by simp) (by simp) (by simp) (by simp) (by simp)
  | contextOpened f a =>
    unfold runOpenContext
    dsimp only
    split
    · exact State.reply_boundLaws h f _ _
    · exact State.reply_boundLaws (s := s.setCtx _ _) h f _ _
    · exact State.reply_boundLaws (s := s.setCtx _ _) h f _ _
  | contextClosed f c opened => exact closeOpen_boundLaws h f c
  | quiesceTaken f =>
    unfold runQuiesce
    split <;> exact boundLaws_carry_same h (by simp) (by simp) (by simp) (by simp) (by simp) (by simp)
  | resumeTaken f => exact State.reply_boundLaws (s := { s with bridge := .running }) h f _ _
  | paramSet f a range =>
    obtain ⟨hp, hl, hr, hs, hm⟩ := h
    exact State.reply_boundLaws (s := { s with chan := { s.chan with params := s.chan.params.assign a.1 a.2 } })
      ⟨hp, hl, paramsInRange_assign hr range, hs, hm⟩ f _ _
  | faultsCleared f =>
    obtain ⟨hp, hl, hr, hs, hm⟩ := h
    exact State.reply_boundLaws (s := { s with log := { s.log with ring := [], overwritten := 0 } })
      ⟨hp, by simp [LogBound], hr, hs, hm⟩ f _ _
  | handedOver f n =>
    unfold runHandover
    split
    · exact State.reply_boundLaws h f _ _
    · next hn =>
      obtain ⟨hp, hl, hr, hs, hm⟩ := h
      refine ⟨?_, ?_, ?_, scheduleLaw_congr hs (by simp), ?_⟩
      · simpa [ParkBound] using hp
      · simpa [LogBound] using hl
      · simpa [ParamsInRange] using hr
      · simpa [ManagerElsewhere] using hn
  | bridgeReset f =>
    unfold runResetBridge
    refine boundLaws_carry h (by simp) (fun hl => ?_) (fun _ _ => ?_) (by simp) (by simp) (by simp)
    · simpa [LogBound] using FaultLog.append_bound hl _ _
    · intro id m hm
      simp at hm
  | missExpired id m w live =>
    exact State.judgeDrain_boundLaws (State.makeFault_boundLaws (State.offer_boundLaws
      (State.endMiss_boundLaws h id _ 0) id) w)
  | copySent id m next live due =>
    refine boundLaws_carry h (by simp) (by simp [LogBound]) (fun hs _ => ?_) (by simp) (by simp) (by simp)
    refine scheduleLaw_congr (scheduleLaw_set (t := s.advanceCopy id m) hs rfl fun m' hm' => ?_)
      (State.sendMissCopy_misses ..)
    cases hm'
    have hm : m.Scheduled := hs id m live
    exact ⟨hm.sent_lt due, hm.2.1, rfl⟩
  | responseExpired g o entry waiting =>
    exact boundLaws_carry_misses h ((State.afterEntry_park_length _ o).trans (by simp))
      (fun hl => by simpa [LogBound] using FaultLog.append_bound hl _ _) (by simp) (by simp) (by simp) (by simp)
  | farDown =>
    exact boundLaws_carry_misses h (by simpa using List.length_filter_le _ s.park)
      (fun hl => by simpa [LogBound] using FaultLog.append_bound hl _ _) (by simp) (by simp) (by simp) (by simp)
  | nearUp powered => exact h
  | farUp powered => exact h
  | farSent => exact h
  | headForwarded u leaves =>
    refine State.judgeDrain_boundLaws (boundLaws_carry_same h (State.forwardHead_park_length leaves) ?_ ?_ ?_ ?_ ?_)
    · exact State.forwardHead_keeps State.log (fun _ _ _ => rfl) (by simp) (by simp) (by simp) leaves
    · exact State.forwardHead_keeps State.misses (fun _ _ _ => rfl) (by simp) (by simp) (by simp) leaves
    · exact State.forwardHead_keeps (fun s => s.chan.params) (fun _ _ _ => rfl) (by simp) (by simp) (by simp) leaves
    · exact State.forwardHead_keeps (fun s => s.chan.manager) (fun _ _ _ => rfl) (by simp) (by simp) (by simp) leaves
    · exact State.forwardHead_keeps State.node (fun _ _ _ => rfl) (by simp) (by simp) (by simp) leaves
  | missOffered id => exact State.offer_boundLaws h id
  | fenceJudged a => exact boundLaws_carry_same h (by simp) (by simp) (by simp) (by simp) (by simp) (by simp)
  | slotJudged k => exact boundLaws_carry_same h (by simp) (by simp) (by simp) (by simp) (by simp) (by simp)
  | closeJudged c => exact boundLaws_carry_same h (by simp) (by simp) (by simp) (by simp) (by simp) (by simp)
  | drainJudged => exact State.judgeDrain_boundLaws h

/-- Settles O51: every deed keeps the bounds. -/
theorem boundLawsKept : Obligations.BoundLawsKept :=
  step_keeps (fun _ _ h => h) (fun _ _ h => h) (fun _ _ _ h => h) (fun _ _ hd => hd.boundLaws) fun _ _ hd => hd.boundLaws

end Sys2Proof.Machine
end

section
/-! PROOF. The laws of the ports and of what they carry (O52): each frame the bridge builds has a body of 300 bytes or
less, and only an UP port takes it (R29, R61, R65, R182, R183). -/

namespace Sys2Proof.Machine

open Sys2Proof.Safety

/-! ## What the ports hold -/

/-- A port that holds nothing while DOWN, and no body over 300 bytes. -/
def PortState.Ok (p : PortState) : Prop := (p.up = false → p.queue = []) ∧ ∀ f ∈ p.queue, f.body.length ≤ 300

/-- What the ports and the channel hold is sound, and an unpowered bridge is dark (R182, R183). -/
def CarriesOk (s : State) : Prop :=
  s.near.Ok ∧ s.far.Ok ∧ (∀ f, s.chan.stored = some f → f.body.length ≤ 300) ∧ UnpoweredDark s

theorem portLaws_iff {s : State} : PortLaws s ↔ CarriesOk s ∧ RequestsSound s := by
  constructor
  · rintro ⟨⟨h1, h2⟩, h3, h4, h5, h6, h7⟩
    exact ⟨⟨⟨h1, h5⟩, ⟨h2, h6⟩, h7, h3⟩, h4⟩
  · rintro ⟨⟨⟨h1, h5⟩, ⟨h2, h6⟩, h7, h3⟩, h4⟩
    exact ⟨⟨h1, h2⟩, h3, h4, h5, h6, h7⟩

/-- A frame of a short body joins the queue of an UP port. -/
theorem PortState.Ok.push {p : PortState} (h : p.Ok) (up : p.up = true) {f : Frame} (hf : f.body.length ≤ 300) :
    PortState.Ok { p with queue := p.queue ++ [f] } := by
  refine ⟨fun hd => by simp [up] at hd, fun g hg => ?_⟩
  rcases List.mem_append.mp hg with hg | hg
  · exact h.2 g hg
  · rw [List.mem_singleton.mp hg]; exact hf

theorem PortState.Ok.sendOne {p : PortState} (h : p.Ok) : p.sendOne.Ok := by
  unfold PortState.sendOne
  split
  · next f rest up hq =>
    exact ⟨fun hd => by simp [up] at hd, fun g hg => h.2 g (hq ▸ List.mem_cons_of_mem f hg)⟩
  · exact h

theorem State.sendNear_carriesOk {s : State} (h : CarriesOk s) {f : Frame} (hf : f.body.length ≤ 300) :
    CarriesOk (s.sendNear f) := by
  unfold State.sendNear
  split
  · next up => exact ⟨h.1.push up hf, h.2⟩
  · exact h

theorem State.sendFar_carriesOk {s : State} (h : CarriesOk s) {f : Frame} (hf : f.body.length ≤ 300) :
    CarriesOk (s.sendFar f) := by
  obtain ⟨h1, h2, h3⟩ := h
  unfold State.sendFar
  split
  · next up => exact ⟨h1, h2.push up hf, h3⟩
  · exact ⟨h1, h2, h3⟩

theorem State.notice_carriesOk {s : State} (h : CarriesOk s) (kind : BitVec 6) {body : List Byte}
    (hb : body.length ≤ 300) : CarriesOk (s.notice kind body) := by
  obtain ⟨h1, h2, h3⟩ := h
  unfold State.notice
  split
  · next up _ => exact ⟨h1, h2.push up hb, h3⟩
  · exact ⟨h1, h2, h3⟩

/-! ## The shared operations -/

theorem State.answer_carriesOk {s : State} (h : CarriesOk s) (a : Agent) (g : NearTag) {x : Answer}
    (hx : x.body.length ≤ 300) : CarriesOk (s.answer a g x) := by
  have hc : CarriesOk (s.countAnswer x) := by cases x <;> exact h
  exact State.sendNear_carriesOk hc hx

theorem State.answerIf_carriesOk {s : State} (h : CarriesOk s) (a : Agent) (g : NearTag) {x : Option Answer}
    (hx : ∀ y, x = some y → y.body.length ≤ 300) : CarriesOk (s.answerIf a g x) := by
  cases x with
  | none => exact h
  | some y => exact State.answer_carriesOk h a g (hx y rfl)

theorem refusalTo_small (k : ReqKind) (x : Reason) (d : Byte) (y : Answer) (h : refusalTo k x d = some y) :
    y.body.length ≤ 300 := by
  cases k <;> cases h <;> simp [Answer.body]

theorem zeroAnswer_small {k : ReqKind} {len : Nat} (hl : len ≤ 256) (y : Answer) (h : zeroAnswer k len = some y) :
    y.body.length ≤ 300 := by
  cases k <;> cases h <;> simp [Answer.body]; omega

theorem State.makeFault_carriesOk {s : State} (h : CarriesOk s) (w : FaultBody) : CarriesOk (s.makeFault w) := by
  unfold State.makeFault
  dsimp only
  split
  · refine State.notice_carriesOk ?_ _ (by simp)
    exact h
  · exact h

theorem State.makeFaults_carriesOk {s : State} (h : CarriesOk s) (ws : List FaultBody) : CarriesOk (s.makeFaults ws) :=
  List.foldlRecOn (motive := CarriesOk) _ _ h fun _ h w _ => State.makeFault_carriesOk h w

theorem State.makeFaultIf_carriesOk {s : State} (h : CarriesOk s) (w : Option FaultBody) :
    CarriesOk (s.makeFaultIf w) := by
  cases w with
  | none => exact h
  | some w => exact State.makeFault_carriesOk h w

theorem State.judgeFence_carriesOk {s : State} (h : CarriesOk s) (a : Agent) : CarriesOk (s.judgeFence a) := by
  unfold State.judgeFence
  split
  · split
    · exact h
    · refine State.answer_carriesOk ?_ a _ (by simp [Answer.body])
      exact h
  · exact h

theorem State.endHold_carriesOk {s : State} (h : CarriesOk s) (b : Bool) (a : Agent) : CarriesOk (s.endHold b a) := by
  unfold State.endHold
  split
  · exact State.judgeFence_carriesOk h a
  · exact h

theorem State.completeSlot_carriesOk {s : State} (h : CarriesOk s) (k : SlotId) : CarriesOk (s.completeSlot k) := by
  unfold State.completeSlot
  split
  · split
    · refine State.notice_carriesOk ?_ _ (by simp)
      exact h
    · exact h
  · exact h

theorem State.completeSlots_carriesOk {s : State} (h : CarriesOk s) : CarriesOk s.completeSlots :=
  List.foldlRecOn (motive := CarriesOk) _ _ h fun _ h k _ => State.completeSlot_carriesOk h k

theorem State.completeClose_carriesOk {s : State} (h : CarriesOk s) (c : Ctx) : CarriesOk (s.completeClose c) := by
  unfold State.completeClose
  split
  · split
    · exact h
    · refine State.notice_carriesOk ?_ _ (by simp)
      exact h
  · exact h

theorem State.completeCloses_carriesOk {s : State} (h : CarriesOk s) : CarriesOk s.completeCloses :=
  List.foldlRecOn (motive := CarriesOk) _ _ h fun _ h c _ => State.completeClose_carriesOk h c

theorem State.judgeDrain_carriesOk {s : State} (h : CarriesOk s) : CarriesOk s.judgeDrain := by
  unfold State.judgeDrain
  split
  · split
    · refine State.notice_carriesOk ?_ _ (by simp)
      exact h
    · exact h
  · exact h

theorem State.sendMissCopy_carriesOk {s : State} (h : CarriesOk s) (id : MissId) (n : Nat) :
    CarriesOk (s.sendMissCopy id n) := by
  unfold State.sendMissCopy
  split
  · exact State.notice_carriesOk h _ (by simp [missNoticeBody])
  · exact h

theorem State.offer_carriesOk {s : State} (h : CarriesOk s) (id : MissId) : CarriesOk (s.offer id) := by
  unfold State.offer
  split
  · exact State.sendMissCopy_carriesOk (s := State.allocMiss { s with park := _ } id _ _ _ _) h id 0
  · exact h

theorem State.freeMisses_carriesOk {s : State} (h : CarriesOk s) (ids : List MissId) : CarriesOk (s.freeMisses ids) :=
  List.foldlRecOn (motive := CarriesOk) _ _ h fun _ h _ _ => h

theorem State.reply_carriesOk {s : State} (h : CarriesOk s) (f : Frame) (kind : BitVec 6) {body : List Byte}
    (hb : body.length ≤ 300) : CarriesOk (s.reply f kind body) := by
  obtain ⟨h1, h2, -, h4⟩ := State.sendFar_carriesOk h (f := replyFrame s.node f kind body) hb
  exact ⟨h1, h2, fun l hl => by cases hl; exact hb, h4⟩

theorem State.refuseAborted_carriesOk {s : State} (h : CarriesOk s) (ids : List (Agent × NearTag)) :
    CarriesOk (s.refuseAborted ids) :=
  List.foldlRecOn (motive := CarriesOk) _ _ h fun _ h x _ => State.answer_carriesOk h x.1 x.2 (by simp [Answer.body])

theorem State.clearEntries_carriesOk {s : State} (h : CarriesOk s) : CarriesOk s.clearEntries := by
  refine List.foldlRecOn (motive := CarriesOk) _ State.clearEntry h fun u h g _ => ?_
  unfold State.clearEntry
  split
  · exact h
  · split
    · exact State.endHold_carriesOk (State.answer_carriesOk (s := u.setOut g none) h _ _ (by simp [Answer.body])) _ _
    · exact h

theorem State.answerEntry_carriesOk {s : State} (h : CarriesOk s) (o : OutEntry) {x : Answer}
    (hx : x.body.length ≤ 300) : CarriesOk (s.answerEntry o x) := by
  unfold State.answerEntry
  split
  · exact h
  · exact State.answer_carriesOk h _ _ hx

/-- A sweep keeps a property of the state apart from its park buffer, if the answer to each record that leaves and the
judgment of its fence do. -/
theorem State.sweep_induct {P : State → Prop} (s : State) (fate : ParkRecord → Fate)
    (hpark : ∀ (s : State) (l : List ParkRecord), P s → P { s with park := l })
    (hleave : ∀ r ∈ s.park, ∀ a, fate r = .leave a → ∀ u : State, P u →
      P ((u.answerIf r.agent r.tag a).endHold r.held r.agent)) (h : P s) : P (s.sweep fate) := by
  have main : ∀ (l kept : List ParkRecord) (u : State), (∀ r ∈ l, r ∈ s.park) → P u → P (sweepFrom fate kept l u) := by
    intro l
    induction l with
    | nil => exact fun kept u _ hu => hpark u kept hu
    | cons r l ih =>
      intro kept u hl hu
      have hrest : ∀ q ∈ l, q ∈ s.park := fun q hq => hl q (List.mem_cons_of_mem r hq)
      unfold sweepFrom
      split
      · exact ih _ _ hrest hu
      · next a ha => exact ih _ _ hrest (hleave r (hl r List.mem_cons_self) a ha _ (hpark u _ hu))
  exact main s.park [] s (fun _ => id) h

theorem State.sweep_carriesOk {s : State} (h : CarriesOk s) (fate : ParkRecord → Fate)
    (hf : ∀ r ∈ s.park, ∀ x, fate r = .leave (some x) → x.body.length ≤ 300) : CarriesOk (s.sweep fate) := by
  refine s.sweep_induct fate (fun _ _ h => h) (fun r hr a ha u hu => ?_) h
  refine State.endHold_carriesOk (State.answerIf_carriesOk hu _ _ fun x hx => ?_) _ _
  subst hx
  exact hf r hr x ha

theorem refuseFate_small {p : ParkRecord → Bool} {x : Reason} {d : Byte} {r : ParkRecord} {y : Answer}
    (h : refuseFate p x d r = .leave (some y)) : y.body.length ≤ 300 := by
  unfold refuseFate at h
  split at h
  · cases h' : refusalTo r.kind x d with
    | none => rw [h'] at h; cases h
    | some z => rw [h'] at h; cases h; exact refusalTo_small _ _ _ _ h'
  · cases h

theorem releaseFate_small {e : Entry} {r : ParkRecord} (hl : r.len ≤ 256) {y : Answer}
    (h : releaseFate e r = .leave (some y)) : y.body.length ≤ 300 := by
  unfold releaseFate at h
  split at h
  · split at h
    · simp only [Fate.leave.injEq] at h; exact refusalTo_small _ _ _ _ h
    · simp only [Fate.leave.injEq] at h; exact zeroAnswer_small hl _ h
    · cases h
  · cases h

/-! ## The requests held -/

/-- A park record of a request that R29, R61 and R65 allow. -/
def ParkRecord.Sound (r : ParkRecord) : Prop :=
  1 ≤ r.len ∧ r.len ≤ 256 ∧ payloadFits r.kind r.len r.payload = true ∧ withinPage r.address r.len = true

theorem requestFrame_small (n : NodeId) (k : ReqKind) (m : Mode) {len : Nat} {payload : List Byte} (x : Translation)
    (b : Byte) (hl : len ≤ 256) (hp : payloadFits k len payload = true) :
    (requestFrame n k m len payload x b).body.length ≤ 300 := by
  cases k <;> simp [payloadFits] at hp <;> simp [requestFrame] <;> omega

/-- The requests parked and outstanding are sound. -/
def HoldsSound (park : List ParkRecord) (outs : Vector (Option OutEntry) 128) : Prop :=
  (∀ r ∈ park, r.Sound) ∧ ∀ (g : BridgeTag) (o : OutEntry), outs[g] = some o → 1 ≤ o.len ∧ o.len ≤ 256

theorem holdsSound_iff {s : State} : HoldsSound s.park s.outs ↔ RequestsSound s := Iff.rfl

theorem HoldsSound.set {park : List ParkRecord} {outs : Vector (Option OutEntry) 128} (h : HoldsSound park outs)
    (g : BridgeTag) {x : Option OutEntry} (hx : ∀ o, x = some o → 1 ≤ o.len ∧ o.len ≤ 256) :
    HoldsSound park (outs.set g x) := by
  refine ⟨h.1, fun i o ho => ?_⟩
  rw [getElem_set_fin] at ho
  split at ho
  · exact hx o ho
  · exact h.2 i o ho

theorem HoldsSound.map {park : List ParkRecord} {outs : Vector (Option OutEntry) 128} (h : HoldsSound park outs)
    {f : OutEntry → OutEntry} (hf : ∀ o, (f o).len = o.len) : HoldsSound park (outs.map (Option.map f)) := by
  refine ⟨h.1, fun i o ho => ?_⟩
  rw [getElem_map_fin] at ho
  obtain ⟨q, hq, rfl⟩ := Option.map_eq_some_iff.mp ho
  rw [hf]
  exact h.2 i q hq

theorem HoldsSound.park {park park' : List ParkRecord} {outs : Vector (Option OutEntry) 128} (h : HoldsSound park outs)
    (hp : ∀ r ∈ park', r.Sound) : HoldsSound park' outs := ⟨hp, h.2⟩

theorem HoldsSound.park_map {park : List ParkRecord} {outs : Vector (Option OutEntry) 128} (h : HoldsSound park outs)
    {f : ParkRecord → ParkRecord} (hf : ∀ r : ParkRecord, r.Sound → (f r).Sound) : HoldsSound (park.map f) outs := by
  refine h.park fun r hr => ?_
  obtain ⟨q, hq, rfl⟩ := List.mem_map.mp hr
  exact hf q (h.1 q hq)

theorem joinMiss_sound {id : MissId} {c : Ctx} {p : Page} {r : ParkRecord} (h : r.Sound) : (joinMiss id c p r).Sound := by
  unfold joinMiss
  split <;> exact h

theorem ParkRecord.heldFor_sound {a : Agent} {r : ParkRecord} (h : r.Sound) : (r.heldFor a).Sound := by
  unfold ParkRecord.heldFor
  split <;> exact h

theorem ParkRecord.markedBy_sound {pat : Pattern} {k : SlotId} {r : ParkRecord} (h : r.Sound) :
    (r.markedBy pat k).Sound := by
  unfold ParkRecord.markedBy
  split
  · split <;> exact h
  · exact h
  · exact h

/-! ## The laws of the ports, operation by operation -/

theorem portLaws_carry {s t : State} (h : PortLaws s) (hc : CarriesOk t) (hp : t.park = s.park) (ho : t.outs = s.outs) :
    PortLaws t :=
  portLaws_iff.mpr ⟨hc, holdsSound_iff.mp (by rw [hp, ho]; exact (portLaws_iff.mp h).2)⟩

theorem portLaws_carries {s : State} (h : PortLaws s) : CarriesOk s := (portLaws_iff.mp h).1

theorem portLaws_holds {s : State} (h : PortLaws s) : HoldsSound s.park s.outs := (portLaws_iff.mp h).2

theorem portLaws_of {s : State} (hc : CarriesOk s) (hr : HoldsSound s.park s.outs) : PortLaws s :=
  portLaws_iff.mpr ⟨hc, hr⟩

/-- A forwarded head leaves as a frame that fits, and its entry keeps its length (R74, R75). -/
theorem State.forwardHead_portLaws {s u : State} (leaves : s.forwardHead = some u) (h : PortLaws s) : PortLaws u := by
  obtain ⟨hc, hr⟩ := portLaws_iff.mp h
  obtain ⟨before, r, x, m, behind, hp, -, -, -, hcases⟩ := State.forwardHead_cases leaves
  have hsound : ∀ q ∈ before ++ r :: behind, q.Sound := hp ▸ hr.1
  have hrest : HoldsSound (before ++ behind) s.outs := by
    refine HoldsSound.park hr fun q hq => hsound q ?_
    rcases List.mem_append.mp hq with hq | hq <;> simp [hq]
  obtain ⟨hlo, hhi, hpay, -⟩ := hsound r (by simp)
  have hframe (b : Byte) : (requestFrame s.node r.kind r.mode r.len r.payload x b).body.length ≤ 300 :=
    requestFrame_small _ _ _ x b hhi hpay
  obtain ⟨-, rfl⟩ | ⟨g, -, -, rfl⟩ := hcases
  · refine portLaws_of (State.endHold_carriesOk (State.completeSlots_carriesOk (State.sendFar_carriesOk ?_ (hframe 0))) _ _)
      (by simpa using hrest)
    exact hc
  · refine portLaws_of (State.sendFar_carriesOk ?_ (hframe _)) ?_
    · exact hc
    · rw [State.sendFar_park, State.sendFar_outs]
      exact hrest.set g fun o ho => by cases ho; exact ⟨hlo, hhi⟩

theorem State.runArbiter_portLaws {s : State} (h : PortLaws s) : PortLaws s.runArbiter :=
  s.runArbiter_induct PortLaws State.forwardHead_portLaws h

theorem State.judgeDrain_portLaws {s : State} (h : PortLaws s) : PortLaws s.judgeDrain :=
  portLaws_carry h (State.judgeDrain_carriesOk (portLaws_carries h)) (by simp) (by simp)

theorem State.makeFault_portLaws {s : State} (h : PortLaws s) (w : FaultBody) : PortLaws (s.makeFault w) :=
  portLaws_carry h (State.makeFault_carriesOk (portLaws_carries h) w) (by simp) (by simp)

theorem State.answerIf_portLaws {s : State} (h : PortLaws s) (a : Agent) (g : NearTag) {x : Option Answer}
    (hx : ∀ y, x = some y → y.body.length ≤ 300) : PortLaws (s.answerIf a g x) :=
  portLaws_carry h (State.answerIf_carriesOk (portLaws_carries h) a g hx) (by simp) (by simp)

theorem State.refuse_portLaws {s : State} (h : PortLaws s) (a : Agent) (g : NearTag) (x : Reason) (d : Byte) :
    PortLaws (s.answer a g (.refuse x d)) :=
  State.answerIf_portLaws h a g (x := some (.refuse x d)) fun y hy => by cases hy; simp [Answer.body]

theorem State.reply_portLaws {s : State} (h : PortLaws s) (f : Frame) (kind : BitVec 6) {body : List Byte}
    (hb : body.length ≤ 300) : PortLaws (s.reply f kind body) :=
  portLaws_carry h (State.reply_carriesOk (portLaws_carries h) f kind hb) (by simp) (by simp)

theorem State.offer_portLaws {s : State} (h : PortLaws s) (id : MissId) : PortLaws (s.offer id) := by
  refine portLaws_of (State.offer_carriesOk (portLaws_carries h) id) ?_
  rw [State.offer_outs]
  unfold State.offer
  split
  · rw [State.sendMissCopy_park, State.allocMiss_park]
    exact (portLaws_holds h).park_map fun _ => joinMiss_sound
  · exact portLaws_holds h

theorem State.offerAll_portLaws {s : State} (h : PortLaws s) (ids : List MissId) : PortLaws (s.offerAll ids) :=
  List.foldlRecOn (motive := fun u : State => PortLaws u) _ _ h fun _ h id _ => State.offer_portLaws h id

theorem State.sweep_refuse_portLaws {s : State} (h : PortLaws s) (p : ParkRecord → Bool) (x : Reason) (d : Byte) :
    PortLaws (s.sweep (refuseFate p x d)) := by
  refine portLaws_of (State.sweep_carriesOk (portLaws_carries h) _ fun r _ y hy => refuseFate_small hy) ?_
  rw [State.sweep_refuse_park, State.sweep_outs]
  exact (portLaws_holds h).park fun r hr => (portLaws_holds h).1 r (List.mem_of_mem_filter hr)

theorem State.sweep_release_portLaws {s : State} (h : PortLaws s) (e : Entry) : PortLaws (s.sweep (releaseFate e)) := by
  have hsound := (portLaws_holds h).1
  refine portLaws_of (State.sweep_carriesOk (portLaws_carries h) _ fun r hr y hy =>
    releaseFate_small (hsound r hr).2.1 hy) ?_
  rw [State.sweep_park, State.sweep_outs]
  refine (portLaws_holds h).park fun q hq => ?_
  obtain ⟨r, hr, hk⟩ := List.mem_filterMap.mp hq
  have := hsound r hr
  unfold releaseFate at hk
  split at hk
  · split at hk <;> cases hk
    exact this
  · cases hk; exact this

theorem State.freeMisses_portLaws {s : State} (h : PortLaws s) (ids : List MissId) : PortLaws (s.freeMisses ids) :=
  portLaws_carry h (State.freeMisses_carriesOk (portLaws_carries h) ids) (by simp) (by simp)

theorem State.endMiss_portLaws {s : State} (h : PortLaws s) (id : MissId) (x : Reason) (d : Byte) :
    PortLaws (s.endMiss id x d) :=
  State.sweep_refuse_portLaws h _ x d

theorem State.afterEntry_portLaws {s : State} (h : PortLaws s) (o : OutEntry) : PortLaws (s.afterEntry o) := by
  unfold State.afterEntry
  refine State.judgeDrain_portLaws (State.runArbiter_portLaws (portLaws_carry h ?_ (by simp) (by simp)))
  exact State.completeCloses_carriesOk (State.endHold_carriesOk (State.completeSlots_carriesOk (portLaws_carries h)) _ _)

theorem State.setOut_portLaws {s : State} (h : PortLaws s) (g : BridgeTag) {x : Option OutEntry}
    (hx : ∀ o, x = some o → 1 ≤ o.len ∧ o.len ≤ 256) : PortLaws (s.setOut g x) :=
  portLaws_of (portLaws_carries (s := s) h) ((portLaws_holds h).set g hx)

/-! ## The laws of the ports, deed by deed -/

theorem Declined.portLaws {s t : State} {r : Request} (hd : Declined s r t) (fits : r.Fits) (h : PortLaws s) :
    PortLaws t := by
  cases hd with
  | turnAway x d =>
    unfold State.turnAway
    split
    · exact State.refuse_portLaws h ..
    · exact State.refuse_portLaws h ..
    · exact State.makeFault_portLaws h _
  | turnAwayWith x k d => exact State.makeFault_portLaws (State.answerIf_portLaws h _ _ (refusalTo_small _ _ _)) _
  | refused hk x d => exact State.refuse_portLaws h ..
  | lost hk w => exact State.makeFault_portLaws h w
  | zero => exact State.answerIf_portLaws h _ _ (zeroAnswer_small fits.2.1)

theorem State.parkRequest_portLaws {s : State} (h : PortLaws s) {r : Request} (fits : r.Fits)
    (within : withinPage r.address r.len = true) (st : ParkState) : PortLaws (s.parkRequest r st) := by
  obtain ⟨h1, h2, h3⟩ := fits
  refine portLaws_of (portLaws_carries (s := s) h) ((portLaws_holds h).park fun q hq => ?_)
  rcases List.mem_append.mp hq with hq | hq
  · exact (portLaws_holds h).1 q hq
  · rw [List.mem_singleton.mp hq]; exact ⟨h1, h2, h3, within⟩

theorem Admission.portLaws {s t : State} {r : Request} (ha : Admission s r t) (fits : r.Fits)
    (within : withinPage r.address r.len = true) (h : PortLaws s) : PortLaws t := by
  have hit (w : WayId) : PortLaws (s.hitBy r w) := h
  have parked (st : ParkState) : PortLaws (s.parkRequest r st) := State.parkRequest_portLaws h fits within st
  have hframe (x : Translation) (b : Byte) : (requestFrame s.node r.kind r.mode r.len r.payload x b).body.length ≤ 300 :=
    requestFrame_small _ _ _ x b fits.2.1 fits.2.2
  cases ha with
  | declined hd => exact hd.portLaws fits h
  | hitDeclined w hd => exact hd.portLaws fits (hit w)
  | forwardPost w x =>
    refine portLaws_carry (hit w) (State.sendFar_carriesOk ?_ (hframe x 0)) (State.sendFar_park ..) (State.sendFar_outs ..)
    exact portLaws_carries (hit w)
  | forwardRequest w x g =>
    have hset : PortLaws ((s.hitBy r w).setOut g (some (newOutEntry s r.agent r.tag r.kind r.len r.ctx r.page x [] false))) :=
      State.setOut_portLaws (hit w) g fun o ho => by cases ho; exact ⟨fits.1, fits.2.1⟩
    exact portLaws_carry hset (State.sendFar_carriesOk (portLaws_carries hset) (hframe x _)) (State.sendFar_park ..)
      (State.sendFar_outs ..)
  | parkedReady w x room => exact State.parkRequest_portLaws (hit w) fits within _
  | joined id => exact parked _
  | joinedUnnoticed => exact parked _
  | allocated id =>
    have halloc : PortLaws ((s.parkRequest r (.waiting id)).allocMiss id r.ctx r.page (accessOf r.kind) r.mode) := parked _
    exact portLaws_carry halloc (State.sendMissCopy_carriesOk (portLaws_carries halloc) id 0) (by simp) (by simp)
  | exhausted c => exact parked .unnoticed

theorem State.takeFence_portLaws {s : State} (h : PortLaws s) (a : Agent) (g : NearTag) : PortLaws (s.takeFence a g) := by
  unfold State.takeFence
  split
  · exact State.refuse_portLaws h ..
  · split
    · refine portLaws_of (portLaws_carries (s := s) h) (((portLaws_holds h).park_map fun _ => ParkRecord.heldFor_sound).map fun o => ?_)
      unfold OutEntry.heldFor
      split <;> rfl
    · exact State.answerIf_portLaws h a g (x := some .done) fun y hy => by cases hy; simp [Answer.body]

theorem OutEntry.orphaned_len (o : OutEntry) : o.orphaned.len = o.len := by
  unfold OutEntry.orphaned
  split <;> rfl

theorem State.nearLost_portLaws {s : State} (h : PortLaws s) : PortLaws s.nearLost := by
  obtain ⟨-, h2, h3, h4⟩ := portLaws_carries h
  refine portLaws_of ⟨⟨fun _ => rfl, fun f hf => by cases hf⟩, h2, h3, fun hp => ?_⟩ ?_
  · exact ⟨rfl, (h4 hp).2⟩
  · exact ((portLaws_holds h).park fun r hr => by cases hr).map OutEntry.orphaned_len

/-- With nothing held to send, parked or outstanding, and an unpowered bridge dark. -/
theorem portLaws_restarted (s : State) (n m : NodeId) (powered : Bool) : PortLaws (s.restarted n m powered) := by
  refine portLaws_of ⟨⟨fun _ => rfl, fun f hf => by cases hf⟩, ⟨fun _ => rfl, fun f hf => by cases hf⟩,
    fun l hl => ?_, fun _ => ⟨rfl, rfl, rfl⟩⟩ ⟨fun r hr => ?_, fun g o ho => ?_⟩
  · cases hl
  · cases hr
  · simp [State.restarted, State.powerOn] at ho

theorem NearDeed.portLaws {s t : State} (hd : NearDeed s t) (h : PortLaws s) : PortLaws t := by
  cases hd with
  | idle => exact h
  | recorded w => exact State.makeFault_portLaws h w
  | malformed a g k d w => exact State.makeFault_portLaws (State.answerIf_portLaws h a g (refusalTo_small _ _ _)) w
  | accepted r fits =>
    obtain hd | ⟨-, -, within, -, ha⟩ := s.accept_cases r
    · exact hd.portLaws fits h
    · exact ha.portLaws fits within h
  | fenceBusy a g => exact State.refuse_portLaws h ..
  | fenceTaken a g => exact State.takeFence_portLaws h a g
  | nearDown =>
    have hlost := State.nearLost_portLaws h
    exact State.judgeDrain_portLaws (State.makeFault_portLaws
      (portLaws_carry hlost (State.completeSlots_carriesOk (portLaws_carries hlost)) (by simp) (by simp)) _)
  | nearSent =>
    obtain ⟨h1, h2, h3, h4⟩ := portLaws_carries h
    have hup : s.near.sendOne.up = s.near.up := by unfold PortState.sendOne; split <;> rfl
    exact portLaws_of ⟨h1.sendOne, h2, h3, fun hp => hup ▸ h4 hp⟩ (portLaws_holds (s := s) h)
  | restarted n m powered => exact portLaws_restarted s n m powered

/-- Every answer a response can bring fits (R87). -/
theorem judgeResponse_small {k : ReqKind} {len : Nat} (hl : len ≤ 256) (code : BitVec 6) (body : List Byte) :
    (judgeResponse k len code body).answer.body.length ≤ 300 := by
  unfold judgeResponse
  split
  · split
    · split
      · next h => exact (h ▸ hl : body.length ≤ 256).trans (by decide)
      · simp [malformedResponse, Answer.body]
    · simp [malformedResponse, Answer.body]
  · split
    · split
      · simp [malformedResponse, Answer.body]
      · split <;> simp [malformedResponse, Answer.body]
    · split
      · split <;> simp [malformedResponse, Answer.body]
      · simp [malformedResponse, Answer.body]

theorem State.answerEntry_portLaws {s : State} (h : PortLaws s) (o : OutEntry) {x : Answer}
    (hx : x.body.length ≤ 300) : PortLaws (s.answerEntry o x) :=
  portLaws_carry h (State.answerEntry_carriesOk (portLaws_carries h) o hx) (by simp) (by simp)

theorem State.makeFaults_portLaws {s : State} (h : PortLaws s) (ws : List FaultBody) : PortLaws (s.makeFaults ws) :=
  portLaws_carry h (State.makeFaults_carriesOk (portLaws_carries h) ws) (by simp) (by simp)

theorem fillWritten_portLaws {s : State} (h : PortLaws s) (f : Frame) (a : FillArgs) (w : WayId) :
    PortLaws (fillWritten f a w s) := by
  have hinstalled : PortLaws (fillInstalled s a w) := h
  have hcleared : PortLaws (fillCleared s a w) :=
    State.freeMisses_portLaws (State.sweep_release_portLaws hinstalled a.entry) _
  have hacked := State.reply_portLaws hcleared f ackCode (body := kindByte f :: fillFields s a w) (by simp [fillFields])
  rw [fillWritten_eq]
  exact State.judgeDrain_portLaws (State.runArbiter_portLaws
    (State.makeFaults_portLaws (State.offerAll_portLaws hacked _) _))

theorem closeOpen_portLaws {s : State} (h : PortLaws s) (f : Frame) (c : Ctx) : PortLaws (closeOpen f c s) := by
  have hinvalidated : PortLaws (closeInvalidated f c s) := h
  have hcleared : PortLaws (closeCleared f c s) :=
    State.freeMisses_portLaws (State.sweep_refuse_portLaws hinvalidated _ _ _) _
  have hacked := State.reply_portLaws hcleared f ackCode (body := kindByte f :: closeFields s c)
    (by simp [closeFields, closeAckFields])
  have hoffered := State.offerAll_portLaws hacked (s.missesOf c)
  have hclosed := portLaws_carry hoffered (State.completeClose_carriesOk (State.completeSlots_carriesOk
    (portLaws_carries hoffered)) c) (by simp) (by simp)
  rw [closeOpen_eq]
  exact State.judgeDrain_portLaws (State.runArbiter_portLaws (State.makeFaults_portLaws hclosed _))

theorem runPurge_portLaws {s : State} (h : PortLaws s) (f : Frame) (a : Pattern × Bool) : PortLaws (runPurge f a s) := by
  unfold runPurge
  split
  · exact State.reply_portLaws h f _ (by simp [nakBody])
  · next k _ =>
    have happly : PortLaws (s.applyPurge a.1 a.2 f.hdr.seq k) := by
      refine portLaws_of (portLaws_carries (s := s) h)
        (((portLaws_holds h).park_map fun _ => ParkRecord.markedBy_sound).map fun o => ?_)
      unfold OutEntry.markedBy
      split <;> rfl
    exact portLaws_carry happly (State.completeSlot_carriesOk (State.reply_carriesOk (portLaws_carries happly) f _
      (by simp)) k) (by simp) (by simp)

theorem State.farDrained_carriesOk {s : State} (h : CarriesOk s) : CarriesOk s.farDrained := h

theorem Deed.portLaws {s t : State} (hd : Deed s t) (h : PortLaws s) : PortLaws t := by
  have hcar := portLaws_carries h
  cases hd with
  | idle => exact h
  | recorded w => exact State.makeFault_portLaws h w
  | farAnswer f small => exact portLaws_carry h (State.sendFar_carriesOk hcar small) (by simp) (by simp)
  | resent l stored =>
    exact portLaws_carry h (State.sendFar_carriesOk hcar (hcar.2.2.1 l stored)) (by simp) (by simp)
  | responseTaken g o code body entry waiting =>
    unfold State.takeResponse
    dsimp only
    have hans := State.answerEntry_portLaws h o
      (judgeResponse_small (k := o.kind) ((portLaws_holds h).2 g o entry).2 code body)
    have hrec := portLaws_carry hans (State.makeFaultIf_carriesOk (portLaws_carries hans)
      ((judgeResponse o.kind o.len code body).error.map (outFault .targetError o))) (by simp) (by simp)
    exact State.afterEntry_portLaws (State.setOut_portLaws hrec g fun x hx => by cases hx) o
  | expiredEnds g o entry expired =>
    exact State.judgeDrain_portLaws (State.runArbiter_portLaws (State.setOut_portLaws h g fun x hx => by cases hx))
  | replied f kind body small => exact State.reply_portLaws h f kind small
  | countersCleared f kind body small => exact State.reply_portLaws h f kind small
  | filled f a w up valid judged => exact fillWritten_portLaws h f a w
  | denied f id d n m w live =>
    exact State.judgeDrain_portLaws (State.makeFault_portLaws (State.offer_portLaws
      (State.reply_portLaws (State.endMiss_portLaws h id _ d) f _ (by simp)) id) w)
  | pinned f a =>
    unfold runPin
    dsimp only
    split
    · exact State.reply_portLaws h f _ (by simp [nakBody])
    · split
      · exact State.reply_portLaws h f _ (by simp [nakBody])
      · exact State.reply_portLaws (s := s.setCache _ _) h f _ (by simp)
  | purged f a => exact runPurge_portLaws h f a
  | contextOpened f a =>
    unfold runOpenContext
    dsimp only
    split
    · exact State.reply_portLaws h f _ (by simp [nakBody])
    · exact State.reply_portLaws (s := s.setCtx _ _) h f _ (by simp)
    · exact State.reply_portLaws (s := s.setCtx _ _) h f _ (by simp)
  | contextClosed f c opened => exact closeOpen_portLaws h f c
  | quiesceTaken f =>
    have hack (b : BridgeState) (body : List Byte) (hb : body.length ≤ 300) :
        PortLaws ({ s with bridge := b }.reply f ackCode body) :=
      State.reply_portLaws (s := { s with bridge := b }) h f _ hb
    unfold runQuiesce
    split
    · exact State.judgeDrain_portLaws (hack _ _ (by simp))
    · exact State.judgeDrain_portLaws (hack _ _ (by simp))
    · have := hack (.quiesced f.hdr.seq) [kindByte f, 2] (by simp)
      exact portLaws_carry this (State.notice_carriesOk (portLaws_carries this) _ (by simp)) (by simp) (by simp)
  | resumeTaken f => exact State.reply_portLaws (s := { s with bridge := .running }) h f _ (by simp)
  | paramSet f a range =>
    exact State.reply_portLaws (s := { s with chan := { s.chan with params := s.chan.params.assign a.1 a.2 } }) h f _
      (by simp)
  | faultsCleared f =>
    exact State.reply_portLaws (s := { s with log := { s.log with ring := [], overwritten := 0 } }) h f _ (by simp)
  | handedOver f n =>
    unfold runHandover
    split
    · exact State.reply_portLaws h f _ (by simp [nakBody])
    · obtain ⟨h1, h2, h3, h4⟩ := State.sendFar_carriesOk hcar
        (f := replyFrame s.node f ackCode [kindByte f, byteOf n.val]) (by simp [replyFrame])
      exact portLaws_carry h ⟨h1, h2, fun l hl => (by cases hl), h4⟩ (by simp) (by simp)
  | bridgeReset f =>
    have hrefused := State.refuseAborted_carriesOk (State.reply_carriesOk hcar f ackCode (body := [kindByte f]) (by simp))
      (resetOrder s)
    have hreset : CarriesOk ((s.ack f []).refuseAborted (resetOrder s)).resetTables := hrefused
    refine portLaws_of (State.makeFault_carriesOk hreset _) ?_
    simp only [runResetBridge, State.makeFault_park, State.makeFault_outs, State.resetTables_park, State.resetTables_outs,
      State.refuseAborted_outs, State.ack_outs]
    refine HoldsSound.map ⟨fun r hr => (by cases hr), (portLaws_holds h).2⟩ fun o => ?_
    unfold OutEntry.afterReset
    split <;> rfl
  | missExpired id m w live =>
    exact State.judgeDrain_portLaws (State.makeFault_portLaws (State.offer_portLaws
      (State.endMiss_portLaws h id _ 0) id) w)
  | copySent id m next live due =>
    exact portLaws_carry (s := s.advanceCopy id m) h (State.sendMissCopy_carriesOk (s := s.advanceCopy id m) hcar _ _) (by simp) (by simp)
  | responseExpired g o entry waiting =>
    refine State.afterEntry_portLaws (State.setOut_portLaws (State.makeFault_portLaws (State.answerEntry_portLaws h o
      (by simp [Answer.body])) _) g fun x hx => ?_) o
    cases hx
    exact (portLaws_holds h).2 g o entry
  | farDown =>
    have hlost : PortLaws { s with far := s.far.lost } := by
      obtain ⟨h1, -, h3, h4⟩ := hcar
      refine portLaws_of ⟨h1, ⟨fun _ => rfl, by simp [PortState.lost]⟩, h3, fun hp => ?_⟩ (portLaws_holds (s := s) h)
      exact ⟨(h4 hp).1, rfl, (h4 hp).2.2⟩
    have hswept := State.sweep_refuse_portLaws hlost ParkRecord.isReady .link 0
    have hclear := State.clearEntries_carriesOk (portLaws_carries hswept)
    refine State.judgeDrain_portLaws (State.makeFault_portLaws (portLaws_of (State.farDrained_carriesOk hclear) ?_) _)
    rw [State.farDrained_park, State.farDrained_outs, State.clearEntries_park]
    exact ⟨(portLaws_holds hswept).1, fun g o ho => absurd ((State.clearEntries_outs _ g).symm.trans ho) (by simp)⟩
  | nearUp powered =>
    obtain ⟨⟨-, h1⟩, h2, h3, h4⟩ := hcar
    exact portLaws_of ⟨⟨fun hd => (by cases hd), h1⟩, h2, h3, fun hp => absurd (powered.symm.trans hp) (by simp)⟩
      (portLaws_holds (s := s) h)
  | farUp powered =>
    obtain ⟨h1, ⟨-, h2⟩, h3, h4⟩ := hcar
    exact portLaws_of ⟨h1, ⟨fun hd => (by cases hd), h2⟩, h3, fun hp => absurd (powered.symm.trans hp) (by simp)⟩
      (portLaws_holds (s := s) h)
  | farSent =>
    obtain ⟨h1, h2, h3, h4⟩ := hcar
    have hup : s.far.sendOne.up = s.far.up := by unfold PortState.sendOne; split <;> rfl
    exact portLaws_of ⟨h1, h2.sendOne, h3, fun hp => hup ▸ h4 hp⟩ (portLaws_holds (s := s) h)
  | headForwarded u leaves => exact State.judgeDrain_portLaws (State.forwardHead_portLaws leaves h)
  | missOffered id => exact State.offer_portLaws h id
  | fenceJudged a =>
    exact State.judgeDrain_portLaws (portLaws_carry h (State.judgeFence_carriesOk hcar a) (by simp) (by simp))
  | slotJudged k => exact portLaws_carry h (State.completeSlot_carriesOk hcar k) (by simp) (by simp)
  | closeJudged c => exact portLaws_carry h (State.completeClose_carriesOk hcar c) (by simp) (by simp)
  | drainJudged => exact State.judgeDrain_portLaws h

/-- Settles O52: every deed keeps the laws of the ports. -/
theorem portLawsKept : Obligations.PortLawsKept :=
  step_keeps (fun _ _ h => h) (fun _ _ h => h)
    (fun s q powered h => by
      obtain ⟨h1, -, h3⟩ := h
      exact ⟨h1, fun hp => absurd (powered.symm.trans hp) (by simp), h3⟩)
    (fun _ _ hd => hd.portLaws) fun _ _ hd => hd.portLaws

end Sys2Proof.Machine
end

section
/-! PROOF. The laws of the miss table (O53): which pairs are active, who waits on them, and that nobody is UNNOTICED while
an entry is free (R34, R35, R41, R48). -/

namespace Sys2Proof.Machine

open Sys2Proof.Safety

/-! ## Pairs -/

/-- The (context, page) of a miss id, while it is active. -/
def MissSlot.pair (m : MissSlot) : Option (Ctx × Page) := m.active.map fun m => (m.ctx, m.page)

theorem any_onPair_iff {m : MissSlot} {c : Ctx} {p : Page} :
    m.active.any (fun m => m.onPair c p) = true ↔ m.pair = some (c, p) := by
  unfold MissSlot.pair
  cases m.active <;> simp [Miss.onPair]

theorem ParkRecord.waitsOn_iff {r : ParkRecord} {id : MissId} : r.waitsOn id = true ↔ r.state = .waiting id := by
  simp [ParkRecord.waitsOn]

theorem ParkRecord.isUnnoticed_iff {r : ParkRecord} : r.isUnnoticed = true ↔ r.state = .unnoticed := by
  simp [ParkRecord.isUnnoticed]

/-- The laws of the miss table, while the ids of a list may still be free beside UNNOTICED records (R34, R35, R41, R48). -/
def MissOk (late : List MissId) (s : State) : Prop :=
  (∀ (i j : MissId) (x : Ctx × Page), s.misses[i].pair = some x → s.misses[j].pair = some x → i = j) ∧
    (∀ r ∈ s.park, ∀ id, r.state = .waiting id → s.misses[id].pair = some (r.ctx, r.page)) ∧
    (∀ r ∈ s.park, r.state = .unnoticed → ∀ id : MissId, s.misses[id].pair ≠ some (r.ctx, r.page)) ∧
    ∀ r ∈ s.park, r.state = .unnoticed → ∀ id : MissId, id ∉ late → s.misses[id].pair ≠ none

theorem missLaws_iff {s : State} : MissLaws s ↔ MissOk [] s := by
  have hpair (id : MissId) (x : Ctx × Page) :
      s.misses[id].pair = some x ↔ ∃ m, s.misses[id].active = some m ∧ m.ctx = x.1 ∧ m.page = x.2 := by
    simp [MissSlot.pair, Prod.ext_iff]
  constructor
  · rintro ⟨hd, hw, hu, hf⟩
    refine ⟨fun i j x hi hj => ?_, fun r hr id hs => ?_, fun r hr hs id hp => ?_, fun r hr hs id _ hn => ?_⟩
    · obtain ⟨m, hm, hm1, hm2⟩ := (hpair i x).mp hi
      obtain ⟨n, hn, hn1, hn2⟩ := (hpair j x).mp hj
      exact hd i j m n hm hn (hm1.trans hn1.symm) (hm2.trans hn2.symm)
    · exact any_onPair_iff.mp (hw r hr id (ParkRecord.waitsOn_iff.mpr hs))
    · have := hu r hr (ParkRecord.isUnnoticed_iff.mpr hs) id
      rw [any_onPair_iff.mpr hp] at this
      cases this
    · have := hf (List.any_eq_true.mpr ⟨r, hr, ParkRecord.isUnnoticed_iff.mpr hs⟩) id
      rw [Option.isSome_iff_ne_none] at this
      exact this (Option.map_eq_none_iff.mp hn)
  · rintro ⟨hd, hw, hu, hf⟩
    refine ⟨fun i j m n hi hj hc hp => ?_, fun r hr id hs => ?_, fun r hr hs id => ?_, fun hany id => ?_⟩
    · exact hd i j (n.ctx, n.page) ((hpair i _).mpr ⟨m, hi, hc, hp⟩) ((hpair j _).mpr ⟨n, hj, rfl, rfl⟩)
    · exact any_onPair_iff.mpr (hw r hr id (ParkRecord.waitsOn_iff.mp hs))
    · exact Bool.eq_false_iff.mpr fun h => hu r hr (ParkRecord.isUnnoticed_iff.mp hs) id (any_onPair_iff.mp h)
    · obtain ⟨r, hr, hs⟩ := List.any_eq_true.mp hany
      rw [Option.isSome_iff_ne_none]
      intro hn
      exact hf r hr (ParkRecord.isUnnoticed_iff.mp hs) id (by simp) (by simp only [MissSlot.pair, hn, Option.map_none])

/-! ## What carries the laws over -/

/-- Every unresolved record of the second park buffer stands, in its state, for one of the first. -/
def UnresolvedFrom (l k : List ParkRecord) : Prop :=
  ∀ r ∈ k, r.isReady = false → ∃ q ∈ l, q.state = r.state ∧ q.ctx = r.ctx ∧ q.page = r.page

theorem UnresolvedFrom.of_subset {l k : List ParkRecord} (h : k ⊆ l) : UnresolvedFrom l k :=
  fun r hr _ => ⟨r, h hr, rfl, rfl, rfl⟩

theorem UnresolvedFrom.map {l : List ParkRecord} {f : ParkRecord → ParkRecord}
    (h : ∀ r, ((f r).isReady = false → (f r).state = r.state) ∧ (f r).ctx = r.ctx ∧ (f r).address = r.address) :
    UnresolvedFrom l (l.map f) := by
  intro r hr hn
  obtain ⟨q, hq, rfl⟩ := List.mem_map.mp hr
  obtain ⟨h1, h2, h3⟩ := h q
  exact ⟨q, hq, (h1 hn).symm, h2.symm, by simp [ParkRecord.page, h3]⟩

theorem ParkRecord.isReady_false_iff {r : ParkRecord} :
    r.isReady = false ↔ r.state = .unnoticed ∨ ∃ id, r.state = .waiting id := by
  unfold ParkRecord.isReady
  cases r.state <;> simp

/-- The laws carry over to a state with the same active pairs and no new unresolved record. -/
theorem missOk_carry {late : List MissId} {s t : State} (h : MissOk late s)
    (hm : ∀ id : MissId, t.misses[id].pair = s.misses[id].pair) (hp : UnresolvedFrom s.park t.park) : MissOk late t := by
  obtain ⟨hd, hw, hu, hf⟩ := h
  refine ⟨fun i j x hi hj => hd i j x ((hm i).symm.trans hi) ((hm j).symm.trans hj), fun r hr id hs => ?_,
    fun r hr hs id => ?_, fun r hr hs id hid => ?_⟩
  · obtain ⟨q, hq, hqs, hqc, hqp⟩ := hp r hr (ParkRecord.isReady_false_iff.mpr (.inr ⟨id, hs⟩))
    rw [hm, ← hqc, ← hqp]
    exact hw q hq id (hqs.trans hs)
  · obtain ⟨q, hq, hqs, hqc, hqp⟩ := hp r hr (ParkRecord.isReady_false_iff.mpr (.inl hs))
    rw [hm, ← hqc, ← hqp]
    exact hu q hq (hqs.trans hs) id
  · obtain ⟨q, hq, hqs, -, -⟩ := hp r hr (ParkRecord.isReady_false_iff.mpr (.inl hs))
    rw [hm]
    exact hf q hq (hqs.trans hs) id hid

theorem missOk_carry_same {late : List MissId} {s t : State} (h : MissOk late s) (hm : t.misses = s.misses)
    (hp : t.park = s.park) : MissOk late t :=
  missOk_carry h (fun _ => by rw [hm]) (hp ▸ UnresolvedFrom.of_subset (List.Subset.refl _))

/-- Where no record left waits on a freed id, freeing keeps the laws but for the ids that are then to be offered. -/
theorem missOk_freed {ids : List MissId} {s t : State} (h : MissOk [] s)
    (hm : ∀ id : MissId, t.misses[id].pair = if id ∈ ids then none else s.misses[id].pair)
    (hp : ∀ r ∈ t.park, r.isReady = false → r ∈ s.park)
    (hw : ∀ r ∈ t.park, ∀ id ∈ ids, r.state ≠ .waiting id) : MissOk ids t := by
  obtain ⟨hd, hwait, hu, hf⟩ := h
  have hfrom {id : MissId} {x : Ctx × Page} (hx : t.misses[id].pair = some x) : s.misses[id].pair = some x := by
    rw [hm] at hx
    split at hx
    · cases hx
    · exact hx
  refine ⟨fun i j x hi hj => hd i j x (hfrom hi) (hfrom hj), fun r hr id hs => ?_, fun r hr hs id hx => ?_,
    fun r hr hs id hid => ?_⟩
  · rw [hm, if_neg fun hid => hw r hr id hid hs]
    exact hwait r (hp r hr (ParkRecord.isReady_false_iff.mpr (.inr ⟨id, hs⟩))) id hs
  · exact hu r (hp r hr (ParkRecord.isReady_false_iff.mpr (.inl hs))) hs id (hfrom hx)
  · rw [hm, if_neg hid]
    exact hf r (hp r hr (ParkRecord.isReady_false_iff.mpr (.inl hs))) hs id (by simp)

/-! ## Freeing and offering -/

theorem State.freeMiss_misses_get (s : State) (id j : MissId) :
    (s.freeMiss id).misses[j] = if id = j then { s.misses[id] with active := none } else s.misses[j] :=
  getElem_set_fin ..

/-- Freed ids keep their generation; the others are as they were (R47). -/
theorem State.freeMisses_misses_get (s : State) (ids : List MissId) (j : MissId) :
    (s.freeMisses ids).misses[j] = if j ∈ ids then { s.misses[j] with active := none } else s.misses[j] := by
  unfold State.freeMisses
  induction ids generalizing s with
  | nil => simp
  | cons id ids ih =>
    rw [List.foldl_cons, ih, State.freeMiss_misses_get]
    by_cases h : id = j
    · subst h; simp
    · simp [h, Ne.symm h]

theorem State.freeMisses_pair (s : State) (ids : List MissId) (j : MissId) :
    (s.freeMisses ids).misses[j].pair = if j ∈ ids then none else s.misses[j].pair := by
  rw [State.freeMisses_misses_get]
  split <;> rfl

/-- The one case in which an offer does something (R48). -/
theorem State.offer_cases (s : State) (id : MissId) :
    (∃ r, s.misses[id].active = none ∧ s.park.find? ParkRecord.isUnnoticed = some r ∧
      s.offer id = (({ s with park := s.park.map (joinMiss id r.ctx r.page) }.allocMiss id r.ctx r.page (accessOf r.kind)
        r.mode).sendMissCopy id 0)) ∨
    ((s.misses[id].active ≠ none ∨ ∀ r ∈ s.park, r.state ≠ .unnoticed) ∧ s.offer id = s) := by
  unfold State.offer
  split
  · next r ha hr => exact .inl ⟨r, ha, hr, rfl⟩
  · next hn =>
    refine .inr ⟨?_, rfl⟩
    cases ha : s.misses[id].active with
    | some m => exact .inl (by simp)
    | none =>
      refine .inr fun r hr hu => ?_
      cases hf : s.park.find? ParkRecord.isUnnoticed with
      | none => exact List.find?_eq_none.mp hf r hr (ParkRecord.isUnnoticed_iff.mpr hu)
      | some q => exact hn q ha hf

theorem joinMiss_state (id : MissId) (c : Ctx) (p : Page) (r : ParkRecord) :
    (joinMiss id c p r).state = if r.state = .unnoticed ∧ r.ctx = c ∧ r.page = p then .waiting id else r.state := by
  unfold joinMiss
  simp only [ParkRecord.onPair, Bool.and_eq_true, ParkRecord.isUnnoticed_iff, beq_iff_eq]
  split <;> rfl

/-- An offered id is active afterwards, or nobody is UNNOTICED (R41, R48). -/
theorem State.offer_missOk {s : State} {id : MissId} {late : List MissId} (h : MissOk (id :: late) s) :
    MissOk late (s.offer id) := by
  obtain ⟨hd, hw, hu, hf⟩ := h
  obtain ⟨r, hnone, hr, heq⟩ | ⟨hidle, heq⟩ := s.offer_cases id
  · have hrmem := List.mem_of_find?_eq_some hr
    have hrun : r.state = .unnoticed := ParkRecord.isUnnoticed_iff.mp (List.find?_some hr)
    have hmiss (j : MissId) : (s.offer id).misses[j].pair = if id = j then some (r.ctx, r.page) else s.misses[j].pair := by
      rw [heq, State.sendMissCopy_misses, State.allocMiss_misses, getElem_set_fin]
      split <;> rfl
    have hpark : (s.offer id).park = s.park.map (joinMiss id r.ctx r.page) := by
      rw [heq, State.sendMissCopy_park, State.allocMiss_park]
    have hjoined {q' : ParkRecord} (hq : q' ∈ (s.offer id).park) : ∃ q ∈ s.park, joinMiss id r.ctx r.page q = q' ∧
        q'.ctx = q.ctx ∧ q'.page = q.page := by
      rw [hpark] at hq
      obtain ⟨q, hmem, rfl⟩ := List.mem_map.mp hq
      obtain ⟨-, hctx, haddr⟩ := joinMiss_fields id r.ctx r.page q
      exact ⟨q, hmem, rfl, hctx, congrArg pageOf haddr⟩
    have hidnone : s.misses[id].pair = none := by simp only [MissSlot.pair, hnone, Option.map_none]
    refine ⟨fun i j x hi hj => ?_, fun q hq j hs => ?_, fun q hq hs j hx => ?_, fun q hq hs j hj => ?_⟩
    · rw [hmiss] at hi hj
      split at hi <;> split at hj
      · next h1 h2 => exact h1.symm.trans h2
      · cases hi; exact absurd hj (hu r hrmem hrun j)
      · cases hj; exact absurd hi (hu r hrmem hrun i)
      · exact hd i j x hi hj
    · obtain ⟨q, hmem, rfl, hctx, hpage⟩ := hjoined hq
      rw [joinMiss_state] at hs
      rw [hctx, hpage, hmiss]
      split at hs
      · next hj => cases hs; rw [if_pos rfl, hj.2.1, hj.2.2]
      · have := hw q hmem j hs
        rw [if_neg, this]
        rintro rfl
        rw [hidnone] at this
        cases this
    · obtain ⟨q, hmem, rfl, hctx, hpage⟩ := hjoined hq
      rw [joinMiss_state] at hs
      rw [hctx, hpage, hmiss] at hx
      split at hs
      · cases hs
      · next hne =>
        split at hx
        · have := Prod.ext_iff.mp (Option.some.inj hx)
          exact hne ⟨hs, this.1.symm, this.2.symm⟩
        · exact hu q hmem hs j hx
    · obtain ⟨q, hmem, rfl, -, -⟩ := hjoined hq
      rw [joinMiss_state] at hs
      split at hs
      · cases hs
      · rw [hmiss]
        split
        · simp
        · next hne => exact hf q hmem hs j (by simp [Ne.symm hne, hj])
  · rw [heq]
    refine ⟨hd, hw, hu, fun q hq hs j hj hn => ?_⟩
    rcases hidle with hact | hnou
    · by_cases hji : j = id
      · subst hji; exact hact (Option.map_eq_none_iff.mp hn)
      · exact hf q hq hs j (by simp [hji, hj]) hn
    · exact hnou q hq hs

theorem State.offerAll_missOk {s : State} {ids : List MissId} (h : MissOk ids s) : MissOk [] (s.offerAll ids) := by
  unfold State.offerAll
  induction ids generalizing s with
  | nil => exact h
  | cons id ids ih => exact ih (State.offer_missOk h)

/-! ## Intake -/

theorem State.missFor_some {s : State} {c : Ctx} {p : Page} {id : MissId} (h : s.missFor c p = some id) :
    s.misses[id].pair = some (c, p) := by
  unfold State.missFor at h
  have := List.find?_some h
  exact any_onPair_iff.mp this

theorem State.missFor_none {s : State} {c : Ctx} {p : Page} (h : s.missFor c p = none) (id : MissId) :
    s.misses[id].pair ≠ some (c, p) := by
  intro hp
  have := mem_finRange_find h id
  rw [any_onPair_iff.mpr hp] at this
  cases this

theorem State.freeMissId_some {s : State} {id : MissId} (h : s.freeMissId = some id) : s.misses[id].active = none := by
  simpa using List.find?_some h

theorem State.freeMissId_none {s : State} (h : s.freeMissId = none) (id : MissId) : s.misses[id].pair ≠ none := by
  have := mem_finRange_find h id
  simpa only [MissSlot.pair, ne_eq, Option.map_eq_none_iff, Option.isNone_eq_false_iff,
    Option.isSome_iff_ne_none] using this

/-- A record parked READY, or WAITING on the active miss of its pair, or UNNOTICED of no active pair while all are. -/
theorem State.parkRequest_missOk {s : State} (h : MissOk [] s) (r : Request) (st : ParkState)
    (hw : ∀ id, st = .waiting id → s.misses[id].pair = some (r.ctx, r.page))
    (hu : st = .unnoticed → ∀ id : MissId, s.misses[id].pair ≠ some (r.ctx, r.page) ∧ s.misses[id].pair ≠ none) :
    MissOk [] (s.parkRequest r st) := by
  obtain ⟨hd, hwait, hun, hf⟩ := h
  refine ⟨hd, fun q hq id hs => ?_, fun q hq hs id => ?_, fun q hq hs id hid => ?_⟩
  all_goals rcases List.mem_append.mp hq with hq | hq
  · exact hwait q hq id hs
  · rw [List.mem_singleton.mp hq] at hs ⊢; exact hw id hs
  · exact hun q hq hs id
  · rw [List.mem_singleton.mp hq] at hs ⊢; exact (hu hs id).1
  · exact hf q hq hs id hid
  · rw [List.mem_singleton.mp hq] at hs; exact (hu hs id).2

theorem Declined.missOk {s t : State} {r : Request} (hd : Declined s r t) (h : MissOk [] s) : MissOk [] t := by
  rw [hd.frame]; exact h

theorem Admission.missOk {s t : State} {r : Request} (ha : Admission s r t) (h : MissOk [] s) : MissOk [] t := by
  have hit (w : WayId) : MissOk [] (s.hitBy r w) := h
  cases ha with
  | declined hd => exact hd.missOk h
  | hitDeclined w hd => exact hd.missOk (hit w)
  | forwardPost w x => exact missOk_carry_same (hit w) (State.sendFar_misses ..) (State.sendFar_park ..)
  | forwardRequest w x g => exact missOk_carry_same (hit w) (State.sendFar_misses ..) (State.sendFar_park ..)
  | parkedReady w x =>
    exact State.parkRequest_missOk (hit w) r _ (fun _ hst => by cases hst) fun hst => by cases hst
  | joined id _ _ active =>
    exact State.parkRequest_missOk h r _ (fun j hst => by cases hst; exact State.missFor_some active)
      fun hst => by cases hst
  | joinedUnnoticed _ _ inactive other =>
    obtain ⟨q, hq, hqu⟩ := List.any_eq_true.mp other
    have hqun := ParkRecord.isUnnoticed_iff.mp (Bool.and_eq_true_iff.mp hqu).1
    exact State.parkRequest_missOk h r _ (fun _ hst => by cases hst)
      fun _ id => ⟨State.missFor_none inactive id, h.2.2.2 q hq hqun id (by simp)⟩
  | allocated id _ _ inactive _ free =>
    have hfree : s.misses[id].pair = none := by simp only [MissSlot.pair, State.freeMissId_some free, Option.map_none]
    obtain ⟨hd, hw, -, hf⟩ := h
    have hnoun (q : ParkRecord) (hq : q ∈ s.park) : q.state ≠ .unnoticed := fun hs => hf q hq hs id (by simp) hfree
    refine missOk_carry_same (s := (s.parkRequest r (.waiting id)).allocMiss id r.ctx r.page (accessOf r.kind) r.mode)
      ?_ (State.sendMissCopy_misses ..) (State.sendMissCopy_park ..)
    have hmiss (j : MissId) : ((s.parkRequest r (.waiting id)).allocMiss id r.ctx r.page (accessOf r.kind)
        r.mode).misses[j].pair = if id = j then some (r.ctx, r.page) else s.misses[j].pair := by
      rw [State.allocMiss_misses, getElem_set_fin]
      split <;> rfl
    have hstate {q : ParkRecord} (hq : q ∈ (s.parkRequest r (.waiting id)).park) :
        q ∈ s.park ∨ q = parkedAs r (.waiting id) := by
      simpa [State.parkRequest] using hq
    refine ⟨fun i j x hi hj => ?_, fun q hq j hs => ?_, fun q hq hs => ?_, fun q hq hs => ?_⟩
    · rw [hmiss] at hi hj
      split at hi <;> split at hj
      · next h1 h2 => exact h1.symm.trans h2
      · cases hi; exact absurd hj (State.missFor_none inactive j)
      · cases hj; exact absurd hi (State.missFor_none inactive i)
      · exact hd i j x hi hj
    · rw [hmiss]
      rcases hstate hq with hq | rfl
      · have := hw q hq j hs
        rw [if_neg, this]
        rintro rfl
        rw [hfree] at this
        cases this
      · cases hs; exact if_pos rfl
    all_goals
      rcases hstate hq with hq | rfl
      · exact absurd hs (hnoun q hq)
      · cases hs
  | exhausted c _ _ inactive full =>
    exact State.parkRequest_missOk h r .unnoticed (fun _ hst => by cases hst)
      fun _ id => ⟨State.missFor_none inactive id, State.freeMissId_none full id⟩

theorem ParkRecord.heldFor_state (a : Agent) (r : ParkRecord) : (r.heldFor a).state = r.state := by
  unfold ParkRecord.heldFor
  split <;> rfl

theorem ParkRecord.markedBy_state {pat : Pattern} {k : SlotId} {r : ParkRecord} (h : (r.markedBy pat k).isReady = false) :
    (r.markedBy pat k).state = r.state := by
  rw [(r.markedBy_fields pat k).1] at h
  obtain hs | ⟨id, hs⟩ := ParkRecord.isReady_false_iff.mp h
  all_goals
    unfold ParkRecord.markedBy
    rw [hs]
    exact hs

theorem State.takeFence_missOk {s : State} (h : MissOk [] s) (a : Agent) (g : NearTag) : MissOk [] (s.takeFence a g) := by
  unfold State.takeFence
  split
  · exact missOk_carry_same h (by simp) (by simp)
  · split
    · refine missOk_carry h (fun _ => rfl) (UnresolvedFrom.map fun r => ⟨fun _ => r.heldFor_state a, ?_⟩)
      exact (r.heldFor_fields a).2
    · exact missOk_carry_same h (by simp) (by simp)

/-- With nothing parked and nothing active. -/
theorem missOk_empty {s : State} (hp : s.park = []) (hm : ∀ id : MissId, s.misses[id].pair = none) : MissOk [] s := by
  refine ⟨fun i j x hi => ?_, fun r hr => ?_, fun r hr => ?_, fun r hr => ?_⟩
  · rw [hm] at hi; cases hi
  all_goals rw [hp] at hr; cases hr

theorem missOk_restarted (s : State) (n m : NodeId) (powered : Bool) : MissOk [] (s.restarted n m powered) := by
  refine missOk_empty rfl fun id => ?_
  simp [State.restarted, State.powerOn, MissSlot.pair]

theorem NearDeed.missOk {s t : State} (hd : NearDeed s t) (h : MissOk [] s) : MissOk [] t := by
  cases hd with
  | idle => exact h
  | recorded w => exact missOk_carry_same h (by simp) (by simp)
  | malformed a g k d w => exact missOk_carry_same h (by simp) (by simp)
  | accepted r fits =>
    obtain hd | ⟨-, -, -, -, ha⟩ := s.accept_cases r
    · exact hd.missOk h
    · exact ha.missOk h
  | fenceBusy a g => exact missOk_carry_same h (by simp) (by simp)
  | fenceTaken a g => exact State.takeFence_missOk h a g
  | nearDown => exact missOk_carry h (by simp) (by simp [UnresolvedFrom])
  | nearSent => exact h
  | restarted n m powered => exact missOk_restarted s n m powered

/-! ## The other commands -/

theorem fillCleared_missOk {s : State} (h : MissOk [] s) (a : FillArgs) (w : WayId) :
    MissOk (s.missesMatched a.entry) (fillCleared s a w) := by
  have hmem {r : ParkRecord} (hr : r ∈ (fillCleared s a w).park) (hn : r.isReady = false) :
      r ∈ s.park ∧ a.entry.matchesPair r.ctx r.page = false := by
    rw [fillCleared, State.freeMisses_park] at hr
    exact mem_released_park (s := fillInstalled s a w) hr hn
  refine missOk_freed h (fun id => ?_) (fun r hr hn => (hmem hr hn).1) fun r hr id hid hs => ?_
  · rw [fillCleared, State.freeMisses_pair, State.sweep_misses]
    rfl
  · obtain ⟨hrs, hne⟩ := hmem hr (ParkRecord.isReady_false_iff.mpr (.inr ⟨id, hs⟩))
    obtain ⟨m, hm, hmatch⟩ := (Option.any_eq_true _ _).mp (List.mem_filter.mp hid).2
    have := h.2.1 r hrs id hs
    simp only [MissSlot.pair, hm, Option.map_some, Option.some.injEq, Prod.mk.injEq] at this
    rw [this.1, this.2, hne] at hmatch
    cases hmatch

theorem closeCleared_missOk {s : State} (h : MissOk [] s) (f : Frame) (c : Ctx) :
    MissOk (s.missesOf c) (closeCleared f c s) := by
  have hpark : (closeCleared f c s).park = s.park.filter fun r => !(r.ctx == c) := by
    rw [closeCleared, State.freeMisses_park, State.sweep_refuse_park]
    rfl
  refine missOk_freed h (fun id => ?_) (fun r hr _ => ?_) fun r hr id hid hs => ?_
  · rw [closeCleared, State.freeMisses_pair, State.sweep_misses]
    rfl
  · rw [hpark] at hr; exact List.mem_of_mem_filter hr
  · rw [hpark] at hr
    obtain ⟨hrs, hctx⟩ := List.mem_filter.mp hr
    obtain ⟨m, hm, hmc⟩ := (Option.any_eq_true _ _).mp (List.mem_filter.mp hid).2
    have := h.2.1 r hrs id hs
    simp only [MissSlot.pair, hm, Option.map_some, Option.some.injEq, Prod.mk.injEq] at this
    rw [this.1] at hmc
    simp [hmc] at hctx

theorem State.endMiss_missOk {s : State} (h : MissOk [] s) (id : MissId) (x : Reason) (d : Byte) :
    MissOk [id] (s.endMiss id x d) := by
  have hpark : (s.endMiss id x d).park = s.park.filter fun r => !r.waitsOn id := by
    rw [State.endMiss, State.freeMiss_park, State.sweep_refuse_park]
  refine missOk_freed h (fun j => ?_) (fun r hr _ => ?_) fun r hr j hj hs => ?_
  · rw [State.endMiss, State.freeMiss_misses_get, State.sweep_misses]
    simp only [List.mem_singleton, eq_comm (a := id)]
    split <;> rfl
  · rw [hpark] at hr; exact List.mem_of_mem_filter hr
  · rw [hpark] at hr
    rw [List.mem_singleton.mp hj] at hs
    have := (List.mem_filter.mp hr).2
    rw [ParkRecord.waitsOn_iff.mpr hs] at this
    cases this

/-- The arbiter takes READY records away and leaves the misses alone. -/
theorem State.runArbiter_missOk {s : State} (h : MissOk [] s) : MissOk [] s.runArbiter :=
  missOk_carry h (fun _ => by simp) (UnresolvedFrom.of_subset (State.runArbiter_park_subset s))

theorem State.afterEntry_missOk {s : State} (h : MissOk [] s) (o : OutEntry) : MissOk [] (s.afterEntry o) :=
  missOk_carry h (fun _ => by simp) (UnresolvedFrom.of_subset (State.afterEntry_park_subset s o))

theorem Deed.missOk {s t : State} (hd : Deed s t) (h : MissOk [] s) : MissOk [] t := by
  cases hd with
  | idle => exact h
  | recorded w => exact missOk_carry_same h (by simp) (by simp)
  | farAnswer f small => exact missOk_carry_same h (by simp) (by simp)
  | resent l stored => exact missOk_carry_same h (by simp) (by simp)
  | responseTaken g o code body entry waiting =>
    unfold State.takeResponse
    exact State.afterEntry_missOk (missOk_carry_same h (by simp) (by simp)) o
  | expiredEnds g o entry expired =>
    exact missOk_carry_same (State.runArbiter_missOk (s := s.setOut g none) h) (State.judgeDrain_misses _)
      (State.judgeDrain_park _)
  | replied f kind body small => exact missOk_carry_same h (by simp) (by simp)
  | countersCleared f kind body small => exact missOk_carry_same h (by simp) (by simp)
  | filled f a w up valid judged =>
    have hoffered := State.offerAll_missOk (missOk_carry_same (fillCleared_missOk h a w)
      (State.ack_misses _ f (fillFields s a w)) (State.ack_park ..))
    have hrecorded : MissOk [] (fillRecorded f a w s) :=
      missOk_carry_same hoffered (State.makeFaults_misses ..) (State.makeFaults_park ..)
    rw [fillWritten_eq]
    exact missOk_carry_same (State.runArbiter_missOk hrecorded) (by simp) (by simp)
  | denied f id d n m w live =>
    have hoffered := State.offer_missOk (missOk_carry_same (State.endMiss_missOk h id .noTranslation d)
      (State.ack_misses _ f [n]) (State.ack_park ..))
    exact missOk_carry_same hoffered (by simp) (by simp)
  | pinned f a =>
    unfold runPin
    dsimp only
    split
    · exact missOk_carry_same h (by simp) (by simp)
    · split <;> exact missOk_carry_same h (by simp) (by simp)
  | purged f a =>
    unfold runPurge
    split
    · exact missOk_carry_same h (by simp) (by simp)
    · next k _ =>
      refine missOk_carry h (fun _ => by simp) ?_
      simp only [State.completeSlot_park, State.ack_park, State.applyPurge_park]
      exact UnresolvedFrom.map fun r => ⟨ParkRecord.markedBy_state, (r.markedBy_fields a.1 k).2⟩
  | contextOpened f a =>
    unfold runOpenContext
    dsimp only
    split <;> exact missOk_carry_same h (by simp) (by simp)
  | contextClosed f c opened =>
    have hoffered := State.offerAll_missOk (missOk_carry_same (closeCleared_missOk h f c)
      (State.ack_misses _ f (closeFields s c)) (State.ack_park ..))
    have hrecorded : MissOk [] (closeRecorded f c s) :=
      missOk_carry_same hoffered (by simp [closeRecorded, closeOffered]) (by simp [closeRecorded, closeOffered])
    rw [closeOpen_eq]
    exact missOk_carry_same (State.runArbiter_missOk hrecorded) (by simp) (by simp)
  | quiesceTaken f =>
    unfold runQuiesce
    split <;> exact missOk_carry_same h (by simp) (by simp)
  | resumeTaken f => exact missOk_carry_same h (by simp [runResume]) (by simp [runResume])
  | paramSet f a range => exact missOk_carry_same h (by simp [runSetParam]) (by simp [runSetParam])
  | faultsCleared f => exact missOk_carry_same h (by simp [runClearFaults]) (by simp [runClearFaults])
  | handedOver f n =>
    unfold runHandover
    split <;> exact missOk_carry_same h (by simp) (by simp)
  | bridgeReset f =>
    refine missOk_empty (by simp [runResetBridge]) fun id => ?_
    simp [runResetBridge, MissSlot.pair]
  | missExpired id m w live =>
    exact missOk_carry_same (State.offer_missOk (State.endMiss_missOk h id .missTimeout 0)) (by simp) (by simp)
  | copySent id m next live due =>
    refine missOk_carry h (fun j => ?_) (UnresolvedFrom.of_subset (by simp))
    rw [State.sendMissCopy_misses, State.advanceCopy_misses, getElem_set_fin]
    split
    · next hj => subst hj; simp only [MissSlot.pair, live]; rfl
    · rfl
  | responseExpired g o entry waiting => exact State.afterEntry_missOk (missOk_carry_same h (by simp) (by simp)) o
  | farDown =>
    refine missOk_carry h (fun id => by simp) (UnresolvedFrom.of_subset ?_)
    simp only [State.judgeDrain_park, State.makeFault_park, State.farDrained_park, State.clearEntries_park,
      State.sweep_refuse_park]
    exact List.filter_subset_self _
  | nearUp powered => exact h
  | farUp powered => exact h
  | farSent => exact h
  | headForwarded u leaves =>
    have hmiss : u.misses = s.misses :=
      State.forwardHead_keeps State.misses (fun _ _ _ => rfl) (by simp) (by simp) (by simp) leaves
    refine missOk_carry h (fun id => by rw [State.judgeDrain_misses, hmiss]) (UnresolvedFrom.of_subset ?_)
    rw [State.judgeDrain_park]
    exact State.forwardHead_park_subset leaves
  | missOffered id =>
    obtain ⟨hd, hw, hu, hf⟩ := h
    exact State.offer_missOk ⟨hd, hw, hu, fun r hr hs j _ => hf r hr hs j (by simp)⟩
  | fenceJudged a => exact missOk_carry_same h (by simp) (by simp)
  | slotJudged k => exact missOk_carry_same h (by simp) (by simp)
  | closeJudged c => exact missOk_carry_same h (by simp) (by simp)
  | drainJudged => exact missOk_carry_same h (by simp) (by simp)

/-- Settles O53: every deed keeps the laws of the miss table. -/
theorem missLawsKept : Obligations.MissLawsKept :=
  step_keeps (fun _ _ h => h) (fun _ _ h => h) (fun _ _ _ h => h)
    (fun _ _ hd h => missLaws_iff.mpr (hd.missOk (missLaws_iff.mp h)))
    fun _ _ hd h => missLaws_iff.mpr (hd.missOk (missLaws_iff.mp h))

end Sys2Proof.Machine
end

section
/-! PROOF. What is owed on the near port: how many answers each near identity still waits for, and that every command
other than an arrival hands the near port exactly the answers it then no longer owes (R62, R77). -/

namespace Sys2Proof.Machine

open Sys2Proof.Safety

/-! ## The account -/

/-- The record is of this near identity. -/
def ParkRecord.isOf (x : Agent × NearTag) (r : ParkRecord) : Bool := r.agent == x.1 && r.tag == x.2

/-- The entry is live and of this near identity. -/
def OutEntry.liveOf (x : Agent × NearTag) (o : OutEntry) : Bool := o.live && (o.agent == x.1 && o.tag == x.2)

/-- The READ and WRITE records of a near identity. -/
def parkOwed (x : Agent × NearTag) (l : List ParkRecord) : Nat := l.countP fun r => r.kind != .post && r.isOf x

/-- The POST records of a near identity. -/
def parkPosts (x : Agent × NearTag) (l : List ParkRecord) : Nat := l.countP fun r => r.kind == .post && r.isOf x

/-- The live entries of a near identity. -/
def outsOwed (x : Agent × NearTag) (v : Vector (Option OutEntry) 128) : Nat :=
  v.toList.countP fun o => o.any (OutEntry.liveOf x)

/-- The pending fences of a near identity: one at most. -/
def fenceOwed (x : Agent × NearTag) (v : Vector (Option NearTag) 8) : Nat := if v[x.1] = some x.2 then 1 else 0

/-- The answers a near identity still waits for. -/
def State.owed (s : State) (x : Agent × NearTag) : Nat :=
  parkOwed x s.park + outsOwed x s.outs + fenceOwed x s.fences

theorem count_pairs {α : Type} (x : Agent × NearTag) (l : List α) (f : α → Agent × NearTag) :
    (l.map f).count x = l.countP fun a => (f a).1 == x.1 && (f a).2 == x.2 := by
  rw [List.count, List.countP_map]
  exact List.countP_congr fun a _ => by simp [Prod.ext_iff]

theorem count_liveEntries (x : Agent × NearTag) (v : Vector (Option OutEntry) 128) :
    ((v.toList.filterMap fun o => o.filter OutEntry.live).map fun o => (o.agent, o.tag)).count x = outsOwed x v := by
  rw [count_pairs, List.countP_filterMap]
  refine List.countP_congr fun o _ => ?_
  cases o with
  | none => simp
  | some o => cases h : o.live <;> simp [Option.filter, OutEntry.liveOf, h]

theorem count_fences (x : Agent × NearTag) (v : Vector (Option NearTag) 8) :
    ((List.finRange 8).filterMap fun a => v[a].map fun t => (a, t)).count x = fenceOwed x v := by
  rw [List.count, List.countP_filterMap]
  unfold fenceOwed
  split
  · next h =>
    rw [List.countP_congr (q := fun a => a == x.1)]
    · exact (List.nodup_finRange 8).count.trans (if_pos (List.mem_finRange _))
    · intro a _
      constructor
      · intro ha
        cases hv : v[a] with
        | none => rw [hv] at ha; cases ha
        | some t => rw [hv] at ha; simp_all [Prod.ext_iff]
      · intro ha
        rw [eq_of_beq ha, h]
        simp
  · next h =>
    rw [List.countP_eq_zero]
    intro a _ ha
    cases hv : v[a] with
    | none => rw [hv] at ha; cases ha
    | some t =>
      rw [hv] at ha
      obtain rfl : (a, t) = x := by simpa using ha
      exact h hv

theorem nonPosted_count (s : State) (x : Agent × NearTag) : (nonPosted s).count x = s.owed x := by
  rw [nonPosted, List.count_append, List.count_append, count_liveEntries, count_fences, count_pairs, List.countP_filter]
  unfold State.owed parkOwed
  congr 2
  exact List.countP_congr fun r _ => by simp [ParkRecord.isOf, and_comm]

theorem parkOwed_add_parkPosts (x : Agent × NearTag) (l : List ParkRecord) :
    parkOwed x l + parkPosts x l = l.countP (ParkRecord.isOf x) := by
  induction l with
  | nil => rfl
  | cons r l ih =>
    simp only [parkOwed, parkPosts, List.countP_cons] at ih ⊢
    cases r.kind <;> cases r.isOf x <;> simp <;> omega

/-- The identities in flight: what is owed, and the parked POSTs (R62). -/
theorem identities_count (s : State) (x : Agent × NearTag) :
    (identities s).count x = s.owed x + parkPosts x s.park := by
  rw [identities, List.count_append, List.count_append, count_liveEntries, count_fences, count_pairs]
  have hpark : (s.park.countP fun r => r.agent == x.1 && r.tag == x.2) = parkOwed x s.park + parkPosts x s.park :=
    (parkOwed_add_parkPosts x s.park).symm
  dsimp only
  rw [hpark, State.owed]
  omega

theorem identitiesDistinct_iff {s : State} :
    IdentitiesDistinct s ↔ ∀ x, s.owed x + parkPosts x s.park ≤ 1 := by
  rw [IdentitiesDistinct, List.nodup_iff_count_le_one]
  exact forall_congr' fun x => by rw [identities_count]

/-! ## How the account changes -/

theorem countP_set_add {α : Type} {n : Nat} (p : α → Bool) (v : Vector α n) (i : Fin n) (a : α) :
    (v.set i a).toList.countP p + (if p v[i] then 1 else 0) = v.toList.countP p + if p a then 1 else 0 := by
  have hlt : i.val < v.toList.length := by simp
  have hget : v.toList[i.val] = v[i] := by simp
  have hle : (if p v[i] then 1 else 0) ≤ v.toList.countP p := by
    split
    · next h => exact List.countP_pos_iff.mpr ⟨v[i], hget ▸ List.getElem_mem hlt, h⟩
    · exact Nat.zero_le _
  rw [Vector.toList_set, List.countP_set hlt, hget]
  omega

theorem outsOwed_set (x : Agent × NearTag) (v : Vector (Option OutEntry) 128) (g : BridgeTag) (o : Option OutEntry) :
    outsOwed x (v.set g o) + (if v[g].any (OutEntry.liveOf x) then 1 else 0) =
      outsOwed x v + if o.any (OutEntry.liveOf x) then 1 else 0 :=
  countP_set_add ..

theorem parkOwed_remove (x : Agent × NearTag) (before behind : List ParkRecord) (r : ParkRecord) :
    parkOwed x (before ++ r :: behind) =
      parkOwed x (before ++ behind) + if r.kind ≠ .post ∧ (r.agent, r.tag) = x then 1 else 0 := by
  have : (r.kind != .post && r.isOf x) = decide (r.kind ≠ .post ∧ (r.agent, r.tag) = x) := by
    simp [ParkRecord.isOf, Prod.ext_iff, bne, Bool.beq_eq_decide_eq]
  simp only [parkOwed, List.countP_append, List.countP_cons, this, decide_eq_true_eq]
  omega

theorem parkPosts_remove_le (x : Agent × NearTag) (before behind : List ParkRecord) (r : ParkRecord) :
    parkPosts x (before ++ behind) ≤ parkPosts x (before ++ r :: behind) := by
  simp only [parkPosts, List.countP_append, List.countP_cons]
  omega

/-- Two records of the same request. -/
abbrev SameRequest (q r : ParkRecord) : Prop := q.agent = r.agent ∧ q.tag = r.tag ∧ q.kind = r.kind

theorem parkOwed_map {f : ParkRecord → ParkRecord} (h : ∀ r, SameRequest (f r) r) (x : Agent × NearTag)
    (l : List ParkRecord) : parkOwed x (l.map f) = parkOwed x l ∧ parkPosts x (l.map f) = parkPosts x l := by
  constructor
  all_goals
    simp only [parkOwed, parkPosts, List.countP_map]
    refine List.countP_congr fun r _ => ?_
    obtain ⟨ha, ht, hk⟩ := h r
    simp [ParkRecord.isOf, ha, ht, hk]

theorem fenceOwed_clear (x : Agent × NearTag) {v : Vector (Option NearTag) 8} {a : Agent} {g : NearTag}
    (h : v[a] = some g) : fenceOwed x v = fenceOwed x (v.set a none) + if (a, g) = x then 1 else 0 := by
  obtain ⟨b, q⟩ := x
  unfold fenceOwed
  dsimp only
  rw [getElem_set_fin]
  by_cases hb : a = b
  · subst hb; simp [h]
  · simp [hb]

/-! ## Answers -/

/-- An answer's frame answers its own identity and no other (R77). -/
theorem answers_answerFrame (node : NodeId) (a : Agent) (g : NearTag) (y : Answer) (x : Agent × NearTag) :
    answers x.1 x.2 (answerFrame node a g y) = decide ((a, g) = x) := by
  have hbyte {k : Nat} (hk : k ≤ 256) (i j : Fin k) : (byteOf i.val == byteOf j.val) = decide (i = j) := by
    rw [Bool.beq_eq_decide_eq]
    refine decide_eq_decide.mpr ⟨fun h => ?_, fun h => by rw [h]⟩
    have := inRange_byteOf hk i
    rw [h, inRange_byteOf hk j] at this
    exact (Option.some.inj this).symm
  simp only [answers, answerFrame, headerFrom, hbyte (by decide : 8 ≤ 256), hbyte (by decide : 64 ≤ 256)]
  simp [Prod.ext_iff]

/-- The near port is handed exactly the answers that are then no longer owed (R77). -/
def Settles (s t : State) : Prop :=
  ∃ l, NearSends s t l ∧ (∀ x : Agent × NearTag, l.countP (answers x.1 x.2) + t.owed x = s.owed x) ∧
    ∀ x, parkPosts x t.park ≤ parkPosts x s.park

theorem nearSends_nil {s t : State} (h : t.near = s.near) : NearSends s t [] := by
  rw [NearSends, h]
  split <;> simp

theorem nearSends_trans {s t u : State} {l k : List Frame} (h : NearSends s t l) (hk : NearSends t u k) :
    NearSends s u (l ++ k) := by
  unfold NearSends at *
  rw [hk, h]
  cases hup : s.near.up <;> simp [hup]

theorem Settles.refl (s : State) : Settles s s :=
  ⟨[], nearSends_nil rfl, fun _ => Nat.zero_add _, fun _ => Nat.le_refl _⟩

theorem Settles.trans {s t u : State} (h : Settles s t) (hu : Settles t u) : Settles s u := by
  obtain ⟨l, hl, hlo, hlp⟩ := h
  obtain ⟨k, hk, hko, hkp⟩ := hu
  refine ⟨l ++ k, nearSends_trans hl hk, fun x => ?_, fun x => (hkp x).trans (hlp x)⟩
  rw [List.countP_append, ← hlo x, ← hko x, Nat.add_assoc]

/-- A change that neither sends on the near port nor touches what is owed. -/
theorem settles_quiet {s t : State} (hn : t.near = s.near) (hp : t.park = s.park) (ho : t.outs = s.outs)
    (hf : t.fences = s.fences) : Settles s t := by
  refine ⟨[], nearSends_nil hn, fun x => ?_, fun x => by rw [hp]⟩
  rw [State.owed, hp, ho, hf]
  exact Nat.zero_add _

/-- Nothing is sent, and each identity is owed as much as before. -/
theorem settles_moved {s t : State} (hn : t.near = s.near) (ho : ∀ x, t.owed x = s.owed x)
    (hp : ∀ x, parkPosts x t.park ≤ parkPosts x s.park) : Settles s t :=
  ⟨[], nearSends_nil hn, fun x => (Nat.zero_add _).trans (ho x), hp⟩

theorem State.answer_nearSends (s : State) (a : Agent) (g : NearTag) (y : Answer) :
    NearSends s (s.answer a g y) [answerFrame s.node a g y] := by
  unfold State.answer State.countAnswer State.sendNear State.countRefusal NearSends
  cases y <;> (dsimp only; split <;> rfl)

/-- One answer is handed over, and one answer less is owed to its identity. -/
theorem settles_answered {s t : State} (a : Agent) (g : NearTag) (y : Answer) (hn : NearSends s t [answerFrame s.node a g y])
    (ho : ∀ x, s.owed x = t.owed x + if (a, g) = x then 1 else 0)
    (hp : ∀ x, parkPosts x t.park ≤ parkPosts x s.park) : Settles s t := by
  refine ⟨[answerFrame s.node a g y], hn, fun x => ?_, hp⟩
  rw [ho x, List.countP_singleton, answers_answerFrame]
  simp only [decide_eq_true_eq]
  omega

/-! ## The operations -/

theorem State.judgeFence_settles (s : State) (a : Agent) : Settles s (s.judgeFence a) := by
  unfold State.judgeFence
  split
  · next g hg =>
    split
    · exact .refl s
    · refine settles_answered a g .done (State.answer_nearSends { s with fences := s.fences.set a none } a g .done) (fun x => ?_) fun x => by simp
      simp only [State.owed, State.answer_park, State.answer_outs, State.answer_fences, fenceOwed_clear x hg]
      omega
  · exact .refl s

theorem State.endHold_settles (s : State) (b : Bool) (a : Agent) : Settles s (s.endHold b a) := by
  unfold State.endHold
  split
  · exact s.judgeFence_settles a
  · exact .refl s

/-- A sweep step by step, with the park buffer that is left at each step. -/
theorem State.sweep_steps {P : State → Prop} {s : State} {fate : ParkRecord → Fate}
    (hkeep : ∀ (u : State) (kept rest : List ParkRecord) (r q : ParkRecord), r ∈ s.park → fate r = .keep q →
      P { u with park := kept ++ r :: rest } → P { u with park := kept ++ q :: rest })
    (hleave : ∀ (u : State) (kept rest : List ParkRecord) (r : ParkRecord) (y : Option Answer), r ∈ s.park →
      fate r = .leave y → P { u with park := kept ++ r :: rest } →
      P (({ u with park := kept ++ rest }.answerIf r.agent r.tag y).endHold r.held r.agent))
    (h : P s) : P (s.sweep fate) := by
  have hself (u : State) (l : List ParkRecord) (hl : u.park = l) (hu : P u) : P { u with park := l } := hl ▸ hu
  have main : ∀ (l kept : List ParkRecord) (u : State), (∀ r ∈ l, r ∈ s.park) → P { u with park := kept ++ l } →
      P (sweepFrom fate kept l u) := by
    intro l
    induction l with
    | nil => intro kept u _ hu; rwa [List.append_nil] at hu
    | cons r l ih =>
      intro kept u hl hu
      have hr : r ∈ s.park := hl r List.mem_cons_self
      have hrest : ∀ q ∈ l, q ∈ s.park := fun q hq => hl q (List.mem_cons_of_mem r hq)
      unfold sweepFrom
      split
      · next q hq =>
        refine ih _ _ hrest ?_
        rw [List.append_assoc]
        exact hkeep u kept l r q hr hq hu
      · next y hy =>
        refine ih _ _ hrest ?_
        exact hself _ _ (by simp) (hleave u kept l r y hr hy hu)
  exact main s.park [] s (fun _ => id) h

/-- A sweep that answers every READ and WRITE it takes away, and no POST, settles. -/
theorem State.sweep_settles (s : State) {fate : ParkRecord → Fate} (hkeep : ∀ r q, fate r = .keep q → SameRequest q r)
    (hleave : ∀ r y, fate r = .leave y → (y = none ↔ r.kind = .post)) : Settles s (s.sweep fate) := by
  refine State.sweep_steps (P := Settles s) (fun u kept rest r q _ hq h => h.trans ?_)
    (fun u kept rest r y _ hy h => h.trans (.trans ?_ (State.endHold_settles _ _ _))) (.refl s)
  · obtain ⟨ha, ht, hk⟩ := hkeep r q hq
    refine settles_moved rfl (fun x => ?_) fun x => ?_
    · simp only [State.owed, parkOwed_remove, ha, ht, hk]
    · simp [parkPosts, ParkRecord.isOf, List.countP_append, List.countP_cons, ha, ht, hk]
  · cases y with
    | none =>
      have hpost := (hleave r none hy).mp rfl
      refine settles_moved rfl (fun x => ?_) fun x => parkPosts_remove_le ..
      simp [State.owed, State.answerIf, parkOwed_remove, hpost]
    | some y =>
      have hnon : r.kind ≠ .post := fun hk => by cases (hleave r _ hy).mpr hk
      refine settles_answered r.agent r.tag y
        (State.answer_nearSends { u with park := kept ++ rest } r.agent r.tag y) (fun x => ?_) fun x => ?_
      · simp only [State.owed, State.answerIf, State.answer_park, State.answer_outs, State.answer_fences,
          parkOwed_remove, ne_eq, hnon, not_false_eq_true, true_and]
        omega
      · simp only [State.answerIf, State.answer_park]
        exact parkPosts_remove_le ..

theorem refusalTo_none {k : ReqKind} {x : Reason} {d : Byte} : refusalTo k x d = none ↔ k = .post := by
  cases k <;> simp [refusalTo]

theorem zeroAnswer_none {k : ReqKind} {n : Nat} : zeroAnswer k n = none ↔ k = .post := by
  cases k <;> simp [zeroAnswer]

theorem State.sweep_refuse_settles (s : State) (p : ParkRecord → Bool) (x : Reason) (d : Byte) :
    Settles s (s.sweep (refuseFate p x d)) := by
  refine s.sweep_settles (fun r q h => ?_) fun r y h => ?_
  all_goals
    unfold refuseFate at h
    split at h
    all_goals cases h
  · exact ⟨rfl, rfl, rfl⟩
  · exact refusalTo_none

theorem State.sweep_release_settles (s : State) (e : Entry) : Settles s (s.sweep (releaseFate e)) := by
  refine s.sweep_settles (fun r q h => ?_) fun r y h => ?_
  all_goals
    unfold releaseFate at h
    split at h
    · split at h
      all_goals cases h
      all_goals first | exact ⟨rfl, rfl, rfl⟩ | exact refusalTo_none | exact zeroAnswer_none
    · cases h
      try exact ⟨rfl, rfl, rfl⟩

theorem State.freeTag_some {s : State} {g : BridgeTag} (h : s.freeTag = some g) : s.outs[g] = none := by
  unfold State.freeTag at h
  have := List.find?_some h
  exact Option.isNone_iff_eq_none.mp this

theorem State.forwardHead_settles {s u : State} (h : s.forwardHead = some u) : Settles s u := by
  obtain ⟨before, r, x, m, behind, hpark, -, -, -, ⟨hpost, rfl⟩ | ⟨g, hnon, hfree, rfl⟩⟩ := State.forwardHead_cases h
  · refine .trans ?_ (State.endHold_settles _ _ _)
    refine settles_moved (by simp) (fun y => ?_) fun y => ?_
    · simp [State.owed, hpark, parkOwed_remove, hpost]
    · simp only [State.completeSlots_park, State.sendFar_park, hpark]
      exact parkPosts_remove_le ..
  · have hnone := State.freeTag_some hfree
    refine settles_moved (by simp) (fun y => ?_) fun y => ?_
    · have hset := outsOwed_set y s.outs g (some (newOutEntry s r.agent r.tag r.kind r.len r.ctx r.page x m r.held))
      have hlive : (some (newOutEntry s r.agent r.tag r.kind r.len r.ctx r.page x m r.held)).any (OutEntry.liveOf y) =
          decide ((r.agent, r.tag) = y) := by
        simp [OutEntry.liveOf, newOutEntry, OutEntry.live, Prod.ext_iff, Bool.beq_eq_decide_eq]
      rw [hnone, hlive] at hset
      simp only [State.owed, State.sendFar_park, State.sendFar_outs, State.sendFar_fences, hpark, parkOwed_remove, ne_eq,
        hnon, not_false_eq_true, true_and]
      simp only [Option.any_none, Bool.false_eq_true, if_false, decide_eq_true_eq] at hset
      omega
    · simp only [State.sendFar_park, hpark]
      exact parkPosts_remove_le ..

theorem State.runArbiter_settles (s : State) : Settles s s.runArbiter :=
  s.runArbiter_induct (Settles s) (fun h hs => hs.trans (State.forwardHead_settles h)) (.refl s)

theorem joinMiss_same (id : MissId) (c : Ctx) (p : Page) (r : ParkRecord) : SameRequest (joinMiss id c p r) r := by
  unfold joinMiss
  split <;> exact ⟨rfl, rfl, rfl⟩

theorem State.offer_settles (s : State) (id : MissId) : Settles s (s.offer id) := by
  obtain ⟨r, -, -, heq⟩ | ⟨-, heq⟩ := s.offer_cases id
  · have hmap := parkOwed_map (joinMiss_same id r.ctx r.page)
    rw [heq]
    refine settles_moved (by simp) (fun x => ?_) fun x => ?_
    · simp [State.owed, (hmap x s.park).1]
    · simp [(hmap x s.park).2]
  · rw [heq]; exact .refl s

theorem State.offerAll_settles (s : State) (ids : List MissId) : Settles s (s.offerAll ids) :=
  List.foldlRecOn (motive := Settles s) _ _ (.refl s) fun u h id _ => h.trans (u.offer_settles id)

theorem State.afterEntry_settles (s : State) (o : OutEntry) : Settles s (s.afterEntry o) := by
  unfold State.afterEntry
  have hslots : Settles s s.completeSlots := settles_quiet (by simp) (by simp) (by simp) (by simp)
  have hcloses (u : State) : Settles u u.completeCloses := settles_quiet (by simp) (by simp) (by simp) (by simp)
  have hdrain (u : State) : Settles u u.judgeDrain := settles_quiet (by simp) (by simp) (by simp) (by simp)
  exact hslots.trans ((State.endHold_settles _ o.held o.agent).trans
    ((hcloses _).trans ((State.runArbiter_settles _).trans (hdrain _))))

/-- A WAITING entry answered unless it is an orphan, and no longer live. -/
theorem settles_entryEnds {s t : State} {g : BridgeTag} {o : OutEntry} (entry : s.outs[g] = some o)
    (waiting : o.phase = .waiting) (y : Answer) {o' : Option OutEntry} (ended : ∀ x, o'.any (OutEntry.liveOf x) = false)
    (hn : t.near = (s.answerEntry o y).near) (hp : t.park = s.park) (ho : t.outs = s.outs.set g o')
    (hf : t.fences = s.fences) : Settles s t := by
  have hset (x : Agent × NearTag) := outsOwed_set x s.outs g o'
  cases horphan : o.orphan with
  | true =>
    refine settles_moved (by rw [hn, State.answerEntry, if_pos horphan]) (fun x => ?_) fun x => by rw [hp]
    have hlive : (some o).any (OutEntry.liveOf x) = false := by simp [OutEntry.liveOf, OutEntry.live, horphan]
    have := hset x
    rw [entry, hlive, ended] at this
    simp only [State.owed, hp, ho, hf]
    simp only [Bool.false_eq_true, if_false] at this
    omega
  | false =>
    refine settles_answered o.agent o.tag y ?_ (fun x => ?_) fun x => by rw [hp]
    · rw [NearSends, hn, State.answerEntry, if_neg (by simp [horphan])]
      exact s.answer_nearSends ..
    have hlive : (some o).any (OutEntry.liveOf x) = decide ((o.agent, o.tag) = x) := by
      simp [OutEntry.liveOf, OutEntry.live, horphan, waiting, Prod.ext_iff, Bool.beq_eq_decide_eq]
    have := hset x
    rw [entry, hlive, ended] at this
    simp only [State.owed, hp, ho, hf]
    simp only [Bool.false_eq_true, if_false, decide_eq_true_eq] at this
    omega

end Sys2Proof.Machine
end

section
/-! PROOF. Every non-posted near request is answered exactly once (O60), and no two in flight share their identity
(O54). -/

namespace Sys2Proof.Machine

open Sys2Proof.Safety

theorem ParkRecord.heldFor_same (a : Agent) (r : ParkRecord) : SameRequest (r.heldFor a) r := by
  unfold ParkRecord.heldFor
  split <;> exact ⟨rfl, rfl, rfl⟩

theorem ParkRecord.markedBy_same (pat : Pattern) (k : SlotId) (r : ParkRecord) : SameRequest (r.markedBy pat k) r := by
  unfold ParkRecord.markedBy
  split
  · split <;> exact ⟨rfl, rfl, rfl⟩
  · exact ⟨rfl, rfl, rfl⟩
  · exact ⟨rfl, rfl, rfl⟩

theorem outsOwed_map {f : OutEntry → OutEntry} {x : Agent × NearTag} (h : ∀ o, (f o).liveOf x = o.liveOf x)
    (v : Vector (Option OutEntry) 128) : outsOwed x (v.map (Option.map f)) = outsOwed x v := by
  unfold outsOwed
  rw [Vector.toList_map, List.countP_map]
  refine List.countP_congr fun o _ => ?_
  cases o <;> simp [h]

theorem OutEntry.markedBy_liveOf (pat : Pattern) (k : SlotId) (x : Agent × NearTag) (o : OutEntry) :
    (o.markedBy pat k).liveOf x = o.liveOf x := by
  unfold OutEntry.markedBy
  split <;> rfl

theorem OutEntry.heldFor_liveOf (a : Agent) (x : Agent × NearTag) (o : OutEntry) :
    (o.heldFor a).liveOf x = o.liveOf x := by
  unfold OutEntry.heldFor
  split <;> rfl

/-- Nothing is live once every entry is EXPIRED or an orphan. -/
theorem outsOwed_map_dead {f : OutEntry → OutEntry} (h : ∀ o, (f o).live = false) (x : Agent × NearTag)
    (v : Vector (Option OutEntry) 128) : outsOwed x (v.map (Option.map f)) = 0 := by
  unfold outsOwed
  rw [Vector.toList_map, List.countP_map, List.countP_eq_zero]
  intro o _
  cases o <;> simp [OutEntry.liveOf, h]

theorem OutEntry.afterReset_live (now : Time) (timeout : BitVec 16) (o : OutEntry) :
    (o.afterReset now timeout).live = false := by
  unfold OutEntry.afterReset
  split
  · simp [OutEntry.live]
  · next h => simp [OutEntry.live, h]

theorem OutEntry.orphaned_live (o : OutEntry) : o.orphaned.live = false := by
  unfold OutEntry.orphaned
  split
  · simp [OutEntry.live]
  · next h => exact Bool.eq_false_iff.mpr h

/-! ## RESET-BRIDGE -/

/-- The ABORTED refusals of these identities, in order. -/
def abortedFrames (node : NodeId) (ids : List (Agent × NearTag)) : List Frame :=
  ids.map fun x => answerFrame node x.1 x.2 (.refuse .aborted 0)

theorem State.refuseAborted_nearSends (s : State) (ids : List (Agent × NearTag)) :
    NearSends s (s.refuseAborted ids) (abortedFrames s.node ids) := by
  unfold State.refuseAborted
  induction ids generalizing s with
  | nil => exact nearSends_nil rfl
  | cons x ids ih =>
    have := nearSends_trans (s.answer_nearSends x.1 x.2 (.refuse .aborted 0)) (ih (s.answer x.1 x.2 (.refuse .aborted 0)))
    rwa [State.answer_node] at this

theorem abortedFrames_count (node : NodeId) (ids : List (Agent × NearTag)) (x : Agent × NearTag) :
    (abortedFrames node ids).countP (answers x.1 x.2) = ids.count x := by
  rw [abortedFrames, List.countP_map, List.count]
  refine List.countP_congr fun y _ => ?_
  simp [answers_answerFrame]

theorem runResetBridge_settles (s : State) (f : Frame) : Settles s (runResetBridge f () s) := by
  refine ⟨abortedFrames s.node (resetOrder s), ?_, fun x => ?_, fun x => ?_⟩
  · have := (s.ack f []).refuseAborted_nearSends (resetOrder s)
    simpa [runResetBridge, NearSends] using this
  · have hcount : (abortedFrames s.node (resetOrder s)).countP (answers x.1 x.2) = s.owed x := by
      rw [abortedFrames_count, (resetOrder_perm s).count_eq, ← nonPosted_count]
      rfl
    have houts := outsOwed_map_dead (OutEntry.afterReset_live s.time s.chan.params.responseTimeout) x s.outs
    rw [hcount]
    simp [State.owed, runResetBridge, parkOwed, fenceOwed, houts]
  · simp [runResetBridge, parkPosts]

/-! ## Far link down -/

theorem State.clearEntry_settles (s : State) (g : BridgeTag) : Settles s (s.clearEntry g) := by
  unfold State.clearEntry
  split
  · exact .refl s
  · next o entry =>
    have hset (x : Agent × NearTag) := outsOwed_set x s.outs g none
    split
    · next hlive =>
      refine .trans (settles_answered o.agent o.tag (.refuse .link 0)
        (State.answer_nearSends (s.setOut g none) o.agent o.tag (.refuse .link 0)) (fun x => ?_) fun x => ?_)
        (State.endHold_settles _ _ _)
      · have := hset x
        rw [entry] at this
        simp only [Option.any_some, OutEntry.liveOf, hlive, Bool.true_and, Option.any_none] at this
        simp [State.owed, Prod.ext_iff]
        simp at this
        omega
      · simp
    · next hdead =>
      refine settles_moved rfl (fun x => ?_) fun x => Nat.le_refl _
      have := hset x
      rw [entry] at this
      simp only [Option.any_some, OutEntry.liveOf, hdead, Bool.false_and, Option.any_none] at this
      simpa [State.owed, State.setOut] using this

theorem State.clearEntries_settles (s : State) : Settles s s.clearEntries :=
  List.foldlRecOn (motive := Settles s) _ _ (.refl s) fun u h g _ => h.trans (u.clearEntry_settles g)

/-! ## The steps that send nothing on the near port -/

theorem State.ack_settles (s : State) (f : Frame) (fields : List Byte) : Settles s (s.ack f fields) :=
  settles_quiet (by simp) (by simp) (by simp) (by simp)

theorem State.makeFault_settles (s : State) (w : FaultBody) : Settles s (s.makeFault w) :=
  settles_quiet (by simp) (by simp) (by simp) (by simp)

theorem State.makeFaults_settles (s : State) (ws : List FaultBody) : Settles s (s.makeFaults ws) :=
  settles_quiet (by simp) (by simp) (by simp) (by simp)

theorem State.judgeDrain_settles (s : State) : Settles s s.judgeDrain :=
  settles_quiet (by simp) (by simp) (by simp) (by simp)

theorem State.freeMisses_settles (s : State) (ids : List MissId) : Settles s (s.freeMisses ids) :=
  settles_quiet (by simp) (by simp) (by simp) (by simp)

theorem State.endMiss_settles (s : State) (id : MissId) (x : Reason) (d : Byte) : Settles s (s.endMiss id x d) :=
  (s.sweep_refuse_settles _ x d).trans (settles_quiet rfl rfl rfl rfl)

/-! ## Every command but an arrival -/

/-- Every command but an arrival settles, unless it brings the near link up. -/
theorem Deed.settles {s t : State} (hd : Deed s t)
    (noRise : t ≠ { s with near := { s.near with up := true } } ∨ s.near.up = true) : Settles s t := by
  have quiet {u v : State} (hn : v.near = u.near) (hp : v.park = u.park) (ho : v.outs = u.outs)
      (hf : v.fences = u.fences) : Settles u v := settles_quiet hn hp ho hf
  cases hd with
  | idle => exact .refl s
  | recorded w => exact quiet (by simp) (by simp) (by simp) (by simp)
  | farAnswer f small => exact quiet (by simp) (by simp) (by simp) (by simp)
  | resent l stored => exact quiet (by simp) (by simp) (by simp) (by simp)
  | responseTaken g o code body entry waiting =>
    unfold State.takeResponse
    dsimp only
    refine .trans ?_ (State.afterEntry_settles _ o)
    exact settles_entryEnds entry waiting (judgeResponse o.kind o.len code body).answer (o' := none) (fun _ => rfl)
      (by simp) (by simp) (by simp) (by simp)
  | expiredEnds g o entry expired =>
    refine .trans (t := s.setOut g none) ?_ (.trans (State.runArbiter_settles _) (State.judgeDrain_settles _))
    refine settles_moved rfl (fun x => ?_) fun x => Nat.le_refl _
    have hset := outsOwed_set x s.outs g none
    rw [entry] at hset
    simpa [State.owed, State.setOut, OutEntry.liveOf, OutEntry.live, expired] using hset
  | replied f kind body small => exact quiet (by simp) (by simp) (by simp) (by simp)
  | countersCleared f kind body small => exact quiet (by simp) (by simp) (by simp) (by simp)
  | filled f a w up valid judged =>
    rw [fillWritten_eq]
    have hcleared : Settles s (fillCleared s a w) :=
      (State.sweep_release_settles (fillInstalled s a w) a.entry).trans (State.freeMisses_settles _ _)
    have hoffered := (hcleared.trans (State.ack_settles _ f (fillFields s a w))).trans
      (State.offerAll_settles _ (s.missesMatched a.entry))
    have hrecorded : Settles s (fillRecorded f a w s) := hoffered.trans (State.makeFaults_settles _ _)
    exact (hrecorded.trans (State.runArbiter_settles _)).trans (State.judgeDrain_settles _)
  | denied f id d n m w live =>
    exact ((((s.endMiss_settles id .noTranslation d).trans (State.ack_settles _ f [n])).trans
      (State.offer_settles _ id)).trans (State.makeFault_settles _ w)).trans (State.judgeDrain_settles _)
  | pinned f a =>
    unfold runPin
    dsimp only
    split
    · exact quiet (by simp) (by simp) (by simp) (by simp)
    · split <;> exact quiet (by simp) (by simp) (by simp) (by simp)
  | purged f a =>
    unfold runPurge
    split
    · exact quiet (by simp) (by simp) (by simp) (by simp)
    · next k _ =>
      have hmap := parkOwed_map (ParkRecord.markedBy_same a.1 k)
      refine settles_moved (by simp) (fun x => ?_) fun x => ?_
      · have houts := outsOwed_map (OutEntry.markedBy_liveOf a.1 k x) s.outs
        simp [State.owed, (hmap x s.park).1, houts]
      · simp [(hmap x s.park).2]
  | contextOpened f a =>
    unfold runOpenContext
    dsimp only
    split <;> exact quiet (by simp) (by simp) (by simp) (by simp)
  | contextClosed f c opened =>
    rw [closeOpen_eq]
    have hcleared : Settles s (closeCleared f c s) :=
      (State.sweep_refuse_settles (closeInvalidated f c s) _ _ _).trans (State.freeMisses_settles _ _)
    have hoffered := (hcleared.trans (State.ack_settles _ f (closeFields s c))).trans
      (State.offerAll_settles _ (s.missesOf c))
    have hrecorded : Settles s (closeRecorded f c s) := hoffered.trans
      (quiet (by simp [closeRecorded, closeOffered]) (by simp [closeRecorded, closeOffered])
        (by simp [closeRecorded, closeOffered]) (by simp [closeRecorded, closeOffered]))
    exact (hrecorded.trans (State.runArbiter_settles _)).trans (State.judgeDrain_settles _)
  | quiesceTaken f =>
    unfold runQuiesce
    split <;> exact quiet (by simp) (by simp) (by simp) (by simp)
  | resumeTaken f =>
    unfold runResume
    exact quiet (by simp) (by simp) (by simp) (by simp)
  | paramSet f a range =>
    unfold runSetParam
    exact quiet (by simp) (by simp) (by simp) (by simp)
  | faultsCleared f =>
    unfold runClearFaults
    exact quiet (by simp) (by simp) (by simp) (by simp)
  | handedOver f n =>
    unfold runHandover
    split <;> exact quiet (by simp) (by simp) (by simp) (by simp)
  | bridgeReset f => exact runResetBridge_settles s f
  | missExpired id m w live =>
    exact (((s.endMiss_settles id .missTimeout 0).trans (State.offer_settles _ id)).trans
      (State.makeFault_settles _ w)).trans (State.judgeDrain_settles _)
  | copySent id m next live due => exact quiet (by simp) (by simp) (by simp) (by simp)
  | responseExpired g o entry waiting =>
    refine .trans ?_ (State.afterEntry_settles _ o)
    exact settles_entryEnds entry waiting (.refuse .responseTimeout 0) (o' := some o.timedOut) (fun _ => rfl)
      (by simp) (by simp) (by simp) (by simp)
  | farDown =>
    have hlost : Settles s { s with far := s.far.lost } := quiet rfl rfl rfl rfl
    have hdrained (u : State) : Settles u u.farDrained := quiet rfl rfl rfl rfl
    exact ((((hlost.trans (State.sweep_refuse_settles _ _ _ _)).trans (State.clearEntries_settles _)).trans
      (hdrained _)).trans (State.makeFault_settles _ _)).trans (State.judgeDrain_settles _)
  | nearUp powered =>
    rw [← noRise.resolve_left fun h => h rfl]
    exact .refl s
  | farUp powered => exact quiet rfl rfl rfl rfl
  | farSent => exact quiet rfl rfl rfl rfl
  | headForwarded u leaves => exact (State.forwardHead_settles leaves).trans (State.judgeDrain_settles u)
  | missOffered id => exact s.offer_settles id
  | fenceJudged a => exact (s.judgeFence_settles a).trans (State.judgeDrain_settles _)
  | slotJudged k => exact quiet (by simp) (by simp) (by simp) (by simp)
  | closeJudged c => exact quiet (by simp) (by simp) (by simp) (by simp)
  | drainJudged => exact s.judgeDrain_settles

/-- Settles O60: the account of what is owed falls by exactly the answers handed to the near port. -/
theorem answeredExactlyOnce : Obligations.AnsweredExactlyOnce := by
  unfold Obligations.AnsweredExactlyOnce
  intro c s t distinct up hc hexec
  obtain ⟨u, hu, ctr, hdeed⟩ := exec_deed hc s
  rw [hexec] at hu
  cases hu
  obtain ⟨l, hnear, howed, -⟩ : Settles s t := hdeed.settles (.inr up)
  refine ⟨l, by rw [hnear, if_pos up], fun a g hmem => ?_⟩
  have hone : s.owed (a, g) = 1 := by
    have := identitiesDistinct_iff.mp distinct (a, g)
    have := List.count_pos_iff.mpr hmem
    rw [nonPosted_count] at this
    omega
  have hbalance : l.countP (answers a g) + t.owed (a, g) = 1 := (howed (a, g)).trans hone
  split
  · next h =>
    have := List.count_pos_iff.mpr h
    rw [nonPosted_count] at this
    omega
  · next h =>
    have := List.count_eq_zero.mpr h
    rw [nonPosted_count] at this
    omega

/-! ## Arrivals: one identity more at most, and a fresh one -/

/-- The requests of a near identity in flight (R62). -/
def State.carried (s : State) (x : Agent × NearTag) : Nat := s.owed x + parkPosts x s.park

theorem State.carried_eq (s : State) (x : Agent × NearTag) :
    s.carried x = s.park.countP (ParkRecord.isOf x) + outsOwed x s.outs + fenceOwed x s.fences := by
  rw [State.carried, State.owed, ← parkOwed_add_parkPosts]
  omega

theorem Settles.carried_le {s t : State} (h : Settles s t) (x : Agent × NearTag) : t.carried x ≤ s.carried x := by
  obtain ⟨l, -, howed, hposts⟩ := h
  have := howed x
  have := hposts x
  unfold State.carried
  omega

/-- At most one request of this identity comes into flight, and none of another. -/
def Admits (x : Agent × NearTag) (s t : State) : Prop := ∀ y, t.carried y ≤ s.carried y + if x = y then 1 else 0

theorem admits_quiet {s t : State} (x : Agent × NearTag) (hp : t.park = s.park) (ho : t.outs = s.outs)
    (hf : t.fences = s.fences) : Admits x s t := fun y => by
  rw [State.carried_eq, State.carried_eq, hp, ho, hf]
  exact Nat.le_add_right _ _

theorem State.carried_fresh {s : State} {a : Agent} {g : NearTag} (h : s.inFlight a g = false) : s.carried (a, g) = 0 := by
  unfold State.inFlight at h
  obtain ⟨⟨hpark, houts⟩, hfence⟩ := by simpa only [Bool.or_eq_false_iff] using h
  have hp : s.park.countP (ParkRecord.isOf (a, g)) = 0 :=
    List.countP_eq_zero.mpr fun r hr => List.any_eq_false.mp hpark r hr
  have ho : outsOwed (a, g) s.outs = 0 := by
    refine List.countP_eq_zero.mpr fun o ho hl => List.any_eq_false.mp houts o ho ?_
    cases o with
    | none => cases hl
    | some o => simpa [OutEntry.liveOf, and_assoc] using hl
  have hf : fenceOwed (a, g) s.fences = 0 := if_neg fun he => by
    rw [he, beq_self_eq_true] at hfence
    cases hfence
  rw [State.carried_eq, hp, ho, hf]

theorem State.parkRequest_admits (s : State) (r : Request) (st : ParkState) :
    Admits (r.agent, r.tag) s (s.parkRequest r st) := fun y => by
  have : (parkedAs r st).isOf y = decide ((r.agent, r.tag) = y) := by
    simp [ParkRecord.isOf, parkedAs, Prod.ext_iff, Bool.beq_eq_decide_eq]
  simp only [State.carried_eq, State.parkRequest, List.countP_append, List.countP_singleton, this, decide_eq_true_eq]
  omega

theorem outsOwed_add (y : Agent × NearTag) (v : Vector (Option OutEntry) 128) (g : BridgeTag) {o : OutEntry}
    {x : Agent × NearTag} (h : (o.agent, o.tag) = x) :
    outsOwed y (v.set g (some o)) ≤ outsOwed y v + if x = y then 1 else 0 := by
  have hset := outsOwed_set y v g (some o)
  have hle : (if (some o).any (OutEntry.liveOf y) then 1 else 0) ≤ if x = y then 1 else 0 := by
    by_cases hx : x = y
    · rw [if_pos hx]; split <;> omega
    · rw [if_neg]
      · exact Nat.zero_le _
      · intro hl
        simp only [Option.any_some, OutEntry.liveOf, Bool.and_eq_true, beq_iff_eq] at hl
        exact hx (h.symm.trans (Prod.ext hl.2.1 hl.2.2))
  omega

theorem fenceOwed_add (y : Agent × NearTag) (v : Vector (Option NearTag) 8) (a : Agent) (g : NearTag) :
    fenceOwed y (v.set a (some g)) ≤ fenceOwed y v + if (a, g) = y then 1 else 0 := by
  obtain ⟨b, q⟩ := y
  unfold fenceOwed
  dsimp only
  rw [getElem_set_fin]
  by_cases hb : a = b
  · subst hb
    simp only [if_true, Option.some.injEq, Prod.mk.injEq, true_and]
    omega
  · simp [hb]

theorem State.takeFence_admits (s : State) (a : Agent) (g : NearTag) : Admits (a, g) s (s.takeFence a g) := by
  unfold State.takeFence
  split
  · exact admits_quiet _ (by simp) (by simp) (by simp)
  · split
    · intro y
      have hpark : (s.park.map (ParkRecord.heldFor a)).countP (ParkRecord.isOf y) = s.park.countP (ParkRecord.isOf y) := by
        rw [← parkOwed_add_parkPosts, ← parkOwed_add_parkPosts, (parkOwed_map (ParkRecord.heldFor_same a) y s.park).1,
          (parkOwed_map (ParkRecord.heldFor_same a) y s.park).2]
      have hfence := fenceOwed_add y s.fences a g
      simp only [State.carried_eq, hpark, outsOwed_map (OutEntry.heldFor_liveOf a y)]
      omega
    · exact admits_quiet _ (by simp) (by simp) (by simp)

theorem Admission.admits {s t : State} {r : Request} (h : Admission s r t) : Admits (r.agent, r.tag) s t := by
  have quiet {u v : State} (hp : v.park = u.park) (ho : v.outs = u.outs) (hf : v.fences = u.fences) :
      Admits (r.agent, r.tag) u v := admits_quiet _ hp ho hf
  have declined {u v : State} (hd : Declined u r v) : Admits (r.agent, r.tag) u v :=
    quiet (congrArg State.park hd.frame :) (congrArg State.outs hd.frame :) (congrArg State.fences hd.frame :)
  cases h with
  | declined hd => exact declined hd
  | hitDeclined w hd => exact declined (u := s.hitBy r w) hd
  | forwardPost w x => exact quiet (by simp [State.forwardPost]; rfl) (by simp [State.forwardPost]; rfl) (by simp [State.forwardPost]; rfl)
  | forwardRequest w x g =>
    intro y
    have := outsOwed_add y s.outs g (o := newOutEntry (s.hitBy r w) r.agent r.tag r.kind r.len r.ctx r.page x [] false)
      (x := (r.agent, r.tag)) rfl
    simp only [State.carried_eq, State.forwardRequest, State.sendFar_park, State.sendFar_outs, State.sendFar_fences]
    dsimp only [State.hitBy, State.setCache] at this ⊢
    omega
  | parkedReady w x => exact (s.hitBy r w).parkRequest_admits r _
  | joined id => exact s.parkRequest_admits r _
  | joinedUnnoticed => exact s.parkRequest_admits r _
  | allocated id =>
    intro y
    have := s.parkRequest_admits r (.waiting id) y
    simpa only [State.carried_eq, State.sendMissCopy_park, State.sendMissCopy_outs, State.sendMissCopy_fences,
      State.allocMiss_park, State.allocMiss_outs, State.allocMiss_fences] using this
  | exhausted c => exact s.parkRequest_admits r _

/-- One request of a fresh identity at most comes into flight. -/
theorem Admits.distinct {s t : State} {a : Agent} {g : NearTag} (h : Admits (a, g) s t) (fresh : s.inFlight a g = false)
    (hs : ∀ x, s.carried x ≤ 1) (x : Agent × NearTag) : t.carried x ≤ 1 := by
  have := h x
  split at this
  · next hx => subst hx; rw [State.carried_fresh fresh] at this; exact this
  · exact this.trans (hs x)

theorem State.carried_restarted (s : State) (n m : NodeId) (powered : Bool) (x : Agent × NearTag) :
    (s.restarted n m powered).carried x = 0 := by
  simp [State.carried_eq, State.restarted, State.powerOn, outsOwed, fenceOwed, Vector.toList_replicate]

theorem NearDeed.distinct {s t : State} (hd : NearDeed s t) (hs : ∀ x, s.carried x ≤ 1) (x : Agent × NearTag) :
    t.carried x ≤ 1 := by
  have lessened {t : State} (hp : t.park = s.park) (ho : t.outs = s.outs) (hf : t.fences = s.fences) :
      t.carried x ≤ 1 := by
    rw [State.carried_eq, hp, ho, hf, ← State.carried_eq]
    exact hs x
  cases hd with
  | idle => exact hs x
  | recorded w => exact lessened (by simp) (by simp) (by simp)
  | malformed a g k d w => exact lessened (by simp) (by simp) (by simp)
  | accepted r fits fresh =>
    obtain hd | ⟨-, -, -, -, ha⟩ := s.accept_cases r
    · rw [hd.frame]; exact lessened rfl rfl rfl
    · exact ha.admits.distinct fresh hs x
  | fenceBusy a g => exact lessened (by simp) (by simp) (by simp)
  | fenceTaken a g running fresh => exact (s.takeFence_admits a g).distinct fresh hs x
  | nearDown =>
    have houts := outsOwed_map_dead OutEntry.orphaned_live x s.outs
    simp [State.carried_eq, State.nearLost, houts, fenceOwed]
  | nearSent => exact lessened rfl rfl rfl
  | restarted n m powered => rw [State.carried_restarted]; exact Nat.zero_le 1

/-- Settles O54: only an arrival brings an identity into flight, and only one that is not in flight. -/
theorem identitiesStayDistinct : Obligations.IdentitiesStayDistinct := by
  have settled {s t : State} (h : Settles s t) (hs : IdentitiesDistinct s) : IdentitiesDistinct t :=
    identitiesDistinct_iff.mpr fun x => (h.carried_le x).trans (identitiesDistinct_iff.mp hs x)
  refine step_keeps (fun _ _ h => h) (fun _ _ h => h) (fun _ _ _ h => h)
    (fun _ _ hd h => identitiesDistinct_iff.mpr (hd.distinct (identitiesDistinct_iff.mp h))) fun s t hd h => ?_
  by_cases hrise : t = { s with near := { s.near with up := true } }
  · rw [hrise]; exact h
  · exact settled (hd.settles (.inl hrise)) h

end Sys2Proof.Machine
end

section
/-! PROOF. The laws of the fences (O55): an agent's fence is pending exactly while something of the agent is held, and only
live entries are (R78 to R81). -/

namespace Sys2Proof.Machine

open Sys2Proof.Safety

/-! ## What is held -/

/-- Some park record of the agent is fence-held. -/
def parkHolds (l : List ParkRecord) (a : Agent) : Bool := l.any fun r => r.held && r.agent == a

/-- Some outstanding entry satisfies a test. -/
def anyEntry (p : OutEntry → Bool) (v : Vector (Option OutEntry) 128) : Bool := v.toList.any fun o => o.any p

/-- Some outstanding entry of the agent is fence-held. -/
def outsHold (v : Vector (Option OutEntry) 128) (a : Agent) : Bool := anyEntry (fun e => e.held && e.agent == a) v

theorem heldBy_eq (s : State) (a : Agent) : s.heldBy a = (parkHolds s.park a || outsHold s.outs a) :=
  rfl

/-- Only live entries are held (R79, R94). -/
def HeldLive (v : Vector (Option OutEntry) 128) : Prop := ∀ (g : BridgeTag) (o : OutEntry), v[g] = some o → o.held = true → o.live = true

/-- The laws of the fences, while some fences may be pending with nothing held. -/
def FenceOk (late : Agent → Prop) (s : State) : Prop :=
  (∀ a, s.heldBy a = true → s.fences[a].isSome = true) ∧
    (∀ a, ¬late a → s.fences[a].isSome = true → s.heldBy a = true) ∧ HeldLive s.outs

/-- No fence is late. -/
def noFence : Agent → Prop := fun _ => False

theorem parkHolds_iff {l : List ParkRecord} {a : Agent} : parkHolds l a = true ↔ ∃ r ∈ l, r.held = true ∧ r.agent = a := by
  simp [parkHolds]

theorem anyEntry_iff {p : OutEntry → Bool} {v : Vector (Option OutEntry) 128} :
    anyEntry p v = true ↔ ∃ (g : BridgeTag) (o : OutEntry), v[g] = some o ∧ p o = true := by
  unfold anyEntry
  rw [List.any_eq_true]
  constructor
  · rintro ⟨o, ho, h⟩
    obtain ⟨e, rfl, he⟩ := (Option.any_eq_true _ _).mp h
    obtain ⟨i, hi, hget⟩ := List.getElem_of_mem ho
    have hlt : i < 128 := by simpa using hi
    exact ⟨⟨i, hlt⟩, e, by simpa using hget, he⟩
  · rintro ⟨g, o, hg, ho⟩
    refine ⟨some o, ?_, ho⟩
    rw [← hg]
    exact Vector.mem_toList_iff.mpr (Vector.getElem_mem _)

/-- An entry replaced: another entry satisfies the test, or the new one. -/
theorem anyEntry_set {p : OutEntry → Bool} {v : Vector (Option OutEntry) 128} {g : BridgeTag} {o : Option OutEntry} :
    anyEntry p (v.set g o) = true ↔
      (∃ (j : BridgeTag) (e : OutEntry), j ≠ g ∧ v[j] = some e ∧ p e = true) ∨ ∃ e, o = some e ∧ p e = true := by
  rw [anyEntry_iff]
  constructor
  · rintro ⟨j, e, hj, he⟩
    rw [getElem_set_fin] at hj
    split at hj
    · exact .inr ⟨e, hj, he⟩
    · next hne => exact .inl ⟨j, e, Ne.symm hne, hj, he⟩
  · rintro (⟨j, e, hne, hj, he⟩ | ⟨e, ho, he⟩)
    · exact ⟨j, e, by rw [getElem_set_fin, if_neg (Ne.symm hne)]; exact hj, he⟩
    · exact ⟨g, e, by rw [getElem_set_fin, if_pos rfl]; exact ho, he⟩

/-- A FREE tag taken. -/
theorem anyEntry_take {v : Vector (Option OutEntry) 128} {g : BridgeTag} (free : v[g] = none) (p : OutEntry → Bool)
    (o : OutEntry) : anyEntry p (v.set g (some o)) = (anyEntry p v || p o) := by
  rw [Bool.eq_iff_iff, anyEntry_set, Bool.or_eq_true, anyEntry_iff]
  constructor
  · rintro (⟨j, e, -, hj, he⟩ | ⟨e, he, hh⟩)
    · exact .inl ⟨j, e, hj, he⟩
    · cases he; exact .inr hh
  · rintro (⟨j, e, hj, he⟩ | hh)
    · refine .inl ⟨j, e, ?_, hj, he⟩
      rintro rfl
      rw [free] at hj
      cases hj
    · exact .inr ⟨o, rfl, hh⟩

theorem anyEntry_map {f : OutEntry → OutEntry} {p : OutEntry → Bool} (h : ∀ o, p (f o) = p o)
    (v : Vector (Option OutEntry) 128) : anyEntry p (v.map (Option.map f)) = anyEntry p v := by
  simp only [anyEntry, Vector.toList_map, List.any_map]
  congr 1
  funext o
  cases o <;> simp [h]

/-- An entry gone that did not satisfy the test. -/
theorem anyEntry_drop {p : OutEntry → Bool} {v : Vector (Option OutEntry) 128} {g : BridgeTag} {o : OutEntry}
    (entry : v[g] = some o) (ho : p o = false) : anyEntry p (v.set g none) = anyEntry p v := by
  rw [Bool.eq_iff_iff, anyEntry_set, anyEntry_iff]
  constructor
  · rintro (⟨j, e, -, hj, he⟩ | ⟨e, he, -⟩)
    · exact ⟨j, e, hj, he⟩
    · cases he
  · rintro ⟨j, e, hj, he⟩
    refine .inl ⟨j, e, ?_, hj, he⟩
    rintro rfl
    rw [entry] at hj
    cases hj
    rw [ho] at he
    cases he

theorem outsHold_iff {v : Vector (Option OutEntry) 128} {a : Agent} :
    outsHold v a = true ↔ ∃ (g : BridgeTag) (o : OutEntry), v[g] = some o ∧ o.held = true ∧ o.agent = a := by
  simp only [outsHold, anyEntry_iff, Bool.and_eq_true, beq_iff_eq]

theorem fenceLaws_iff {s : State} : FenceLaws s ↔ FenceOk noFence s := by
  have hheld (a : Agent) := heldBy_eq s a
  constructor
  · rintro ⟨⟨hp, ho⟩, hf⟩
    refine ⟨fun a ha => ?_, fun a _ => hf a, fun g o hg hh => (ho g o hg hh).1⟩
    rw [heldBy_eq, Bool.or_eq_true] at ha
    rcases ha with ha | ha
    · obtain ⟨r, hr, hh, rfl⟩ := parkHolds_iff.mp ha
      exact hp r hr hh
    · obtain ⟨g, o, hg, hh, rfl⟩ := outsHold_iff.mp ha
      exact (ho g o hg hh).2
  · rintro ⟨hp, hf, hl⟩
    refine ⟨⟨fun r hr hh => hp _ ?_, fun g o hg hh => ⟨hl g o hg hh, hp _ ?_⟩⟩, fun a => hf a id⟩
    · rw [heldBy_eq, parkHolds_iff.mpr ⟨r, hr, hh, rfl⟩, Bool.true_or]
    · rw [heldBy_eq, outsHold_iff.mpr ⟨g, o, hg, hh, rfl⟩, Bool.or_true]

/-! ## How what is held changes -/

theorem parkHolds_remove (before behind : List ParkRecord) (r : ParkRecord) (a : Agent) :
    parkHolds (before ++ r :: behind) a = (parkHolds (before ++ behind) a || (r.held && r.agent == a)) := by
  simp only [parkHolds, List.any_append, List.any_cons]
  cases (r.held && r.agent == a) <;> simp

/-- Two records with the same agent and hold. -/
abbrev SameHold (q r : ParkRecord) : Prop := q.held = r.held ∧ q.agent = r.agent

theorem parkHolds_map {f : ParkRecord → ParkRecord} (h : ∀ r, SameHold (f r) r) (l : List ParkRecord) (a : Agent) :
    parkHolds (l.map f) a = parkHolds l a := by
  simp only [parkHolds, List.any_map]
  congr 1
  funext r
  simp [(h r).1, (h r).2]

theorem outsHold_map {f : OutEntry → OutEntry} (h : ∀ o, (f o).held = o.held ∧ (f o).agent = o.agent)
    (v : Vector (Option OutEntry) 128) (a : Agent) : outsHold (v.map (Option.map f)) a = outsHold v a :=
  anyEntry_map (fun o => by rw [(h o).1, (h o).2]) v

/-- An entry replaced: what is held is held by another entry, or by the new one. -/
theorem outsHold_set {v : Vector (Option OutEntry) 128} {g : BridgeTag} {o : Option OutEntry} {a : Agent} :
    outsHold (v.set g o) a = true ↔
      (∃ (j : BridgeTag) (e : OutEntry), j ≠ g ∧ v[j] = some e ∧ e.held = true ∧ e.agent = a) ∨
        ∃ e, o = some e ∧ e.held = true ∧ e.agent = a := by
  simp only [outsHold, anyEntry_set, Bool.and_eq_true, beq_iff_eq]

/-- A FREE tag taken: what was held is, and the new entry's hold. -/
theorem outsHold_take {v : Vector (Option OutEntry) 128} {g : BridgeTag} (free : v[g] = none) (o : OutEntry) (a : Agent) :
    outsHold (v.set g (some o)) a = (outsHold v a || (o.held && o.agent == a)) :=
  anyEntry_take free _ o

theorem HeldLive.set {v : Vector (Option OutEntry) 128} (h : HeldLive v) (g : BridgeTag) {o : Option OutEntry}
    (ho : ∀ e, o = some e → e.held = true → e.live = true) : HeldLive (v.set g o) := by
  intro j e hj
  rw [getElem_set_fin] at hj
  split at hj
  · exact ho e hj
  · exact h j e hj

theorem HeldLive.map {v : Vector (Option OutEntry) 128} {f : OutEntry → OutEntry}
    (h : ∀ (g : BridgeTag) (o : OutEntry), v[g] = some o → (f o).held = true → (f o).live = true) : HeldLive (v.map (Option.map f)) := by
  intro g e hg
  rw [getElem_map_fin] at hg
  obtain ⟨o, ho, rfl⟩ := Option.map_eq_some_iff.mp hg
  exact h g o ho

/-- The fences stand, and nothing is held that was not. -/
theorem fenceOk_carry {late late' : Agent → Prop} {s t : State} (h : FenceOk late s) (hf : t.fences = s.fences)
    (hless : ∀ a, t.heldBy a = true → s.heldBy a = true)
    (hmore : ∀ a, ¬late' a → ¬late a ∧ (s.heldBy a = true → t.heldBy a = true)) (hl : HeldLive t.outs) :
    FenceOk late' t := by
  obtain ⟨hp, hfence, -⟩ := h
  refine ⟨fun a ha => ?_, fun a hn ha => ?_, hl⟩
  · rw [hf]; exact hp a (hless a ha)
  · rw [hf] at ha
    obtain ⟨hnl, hkeep⟩ := hmore a hn
    exact hkeep (hfence a hnl ha)

theorem fenceOk_same {late : Agent → Prop} {s t : State} (h : FenceOk late s) (hp : t.park = s.park)
    (ho : t.outs = s.outs) (hf : t.fences = s.fences) : FenceOk late t := by
  have hheld (a : Agent) : t.heldBy a = s.heldBy a := by rw [heldBy_eq, heldBy_eq, hp, ho]
  exact fenceOk_carry h hf (fun a ha => hheld a ▸ ha) (fun a hn => ⟨hn, fun ha => (hheld a).trans ha⟩) (ho ▸ h.2.2)

/-- With nothing held and no fence pending. -/
theorem fenceOk_none {s : State} (hp : s.park = []) (ho : ∀ (g : BridgeTag) (o : OutEntry), s.outs[g] = some o → o.held = false)
    (hf : ∀ a : Agent, s.fences[a] = none) : FenceOk noFence s := by
  have hno (g : BridgeTag) (o : OutEntry) (hg : s.outs[g] = some o) (hh : o.held = true) : False := by
    rw [ho g o hg] at hh; cases hh
  refine ⟨fun a ha => ?_, fun a _ ha => ?_, fun g o hg hh => (hno g o hg hh).elim⟩
  · rw [heldBy_eq, hp] at ha
    obtain ⟨g, o, hg, hh, -⟩ := outsHold_iff.mp ha
    exact (hno g o hg hh).elim
  · rw [hf] at ha; cases ha

/-! ## The judgment of a fence -/

/-- The agent's fence alone may be late, and only where its work was held. -/
def fenceOf (held : Bool) (a : Agent) : Agent → Prop := fun c => held = true ∧ c = a

theorem State.judgeFence_fenceOk {s : State} {a : Agent} (h : FenceOk (· = a) s) : FenceOk noFence (s.judgeFence a) := by
  obtain ⟨hp, hf, hl⟩ := h
  unfold State.judgeFence
  split
  · next g hg =>
    split
    · next hheld =>
      refine ⟨hp, fun c _ hc => ?_, hl⟩
      by_cases hca : c = a
      · rw [hca]; exact hheld
      · exact hf c hca hc
    · next hfree =>
      refine fenceOk_same (s := { s with fences := s.fences.set a none }) ⟨fun c hc => ?_, fun c _ hc => ?_, hl⟩
        (State.answer_park ..) (State.answer_outs ..) (State.answer_fences ..)
      all_goals
        dsimp only at hc ⊢
        rw [getElem_set_fin] at *
      · rw [if_neg]
        · exact hp c hc
        · rintro rfl; exact hfree hc
      · split at hc
        · cases hc
        · next hca => exact hf c (Ne.symm hca) hc
  · next hnone =>
    refine ⟨hp, fun c _ hc => ?_, hl⟩
    by_cases hca : c = a
    · rw [hca, hnone] at hc; cases hc
    · exact hf c hca hc

theorem State.endHold_fenceOk {s : State} {b : Bool} {a : Agent} (h : FenceOk (fenceOf b a) s) :
    FenceOk noFence (s.endHold b a) := by
  obtain ⟨hp, hf, hl⟩ := h
  unfold State.endHold
  cases b with
  | true => exact State.judgeFence_fenceOk ⟨hp, fun c hc => hf c fun hl => hc hl.2, hl⟩
  | false => exact ⟨hp, fun c _ => hf c fun hl => (by cases hl.1), hl⟩

/-- A park record gone: its fence alone may be late. -/
theorem fenceOk_removed {s t : State} {before behind : List ParkRecord} {r : ParkRecord} (h : FenceOk noFence s)
    (hs : s.park = before ++ r :: behind) (ht : t.park = before ++ behind) (ho : t.outs = s.outs)
    (hf : t.fences = s.fences) : FenceOk (fenceOf r.held r.agent) t := by
  have hheld (a : Agent) : s.heldBy a = (t.heldBy a || (r.held && r.agent == a)) := by
    rw [heldBy_eq, heldBy_eq, hs, ht, ho, parkHolds_remove]
    cases (r.held && r.agent == a) <;> simp
  refine fenceOk_carry h hf (fun a ha => by rw [hheld, ha, Bool.true_or]) (fun a hn => ⟨id, fun ha => ?_⟩) (ho ▸ h.2.2)
  rw [hheld, Bool.or_eq_true, Bool.and_eq_true, beq_iff_eq] at ha
  exact ha.resolve_right fun hr => hn ⟨hr.1, hr.2.symm⟩

/-- An entry gone, or no longer held: its fence alone may be late. -/
theorem fenceOk_entryEnds {s t : State} {g : BridgeTag} {o : OutEntry} (h : FenceOk noFence s) (entry : s.outs[g] = some o)
    {o' : Option OutEntry} (bare : ∀ e, o' = some e → e.held = false) (hp : t.park = s.park) (ho : t.outs = s.outs.set g o')
    (hf : t.fences = s.fences) : FenceOk (fenceOf o.held o.agent) t := by
  have hbare {e : OutEntry} (he : o' = some e) (hh : e.held = true) : False := by rw [bare e he] at hh; cases hh
  refine fenceOk_carry h hf (fun a ha => ?_) (fun a hn => ⟨id, fun ha => ?_⟩)
    (ho ▸ h.2.2.set g fun e he hh => (hbare he hh).elim)
  · rw [heldBy_eq, Bool.or_eq_true, hp, ho, outsHold_set] at ha
    rw [heldBy_eq, Bool.or_eq_true, outsHold_iff]
    rcases ha with ha | ⟨j, e, -, hj, he⟩ | ⟨e, he, hh, -⟩
    · exact .inl ha
    · exact .inr ⟨j, e, hj, he⟩
    · exact (hbare he hh).elim
  · rw [heldBy_eq, Bool.or_eq_true, outsHold_iff] at ha
    rw [heldBy_eq, Bool.or_eq_true, hp, ho, outsHold_set]
    rcases ha with ha | ⟨j, e, hj, hh, hea⟩
    · exact .inl ha
    · refine .inr (.inl ⟨j, e, ?_, hj, hh, hea⟩)
      rintro rfl
      rw [entry] at hj
      cases hj
      exact hn ⟨hh, hea.symm⟩

/-- An entry that is not live is not held, and goes without a judgment. -/
theorem fenceOk_deadEnds {s t : State} {g : BridgeTag} {o : OutEntry} (h : FenceOk noFence s) (entry : s.outs[g] = some o)
    (dead : o.live = false) (hp : t.park = s.park) (ho : t.outs = s.outs.set g none) (hf : t.fences = s.fences) :
    FenceOk noFence t := by
  have hheld : o.held = false := by
    cases hh : o.held with
    | false => rfl
    | true => rw [h.2.2 g o entry hh] at dead; cases dead
  obtain ⟨h1, h2, h3⟩ := fenceOk_entryEnds h entry (o' := none) (fun _ he => by cases he) hp ho hf
  refine ⟨h1, fun a _ => h2 a fun hl => ?_, h3⟩
  rw [hheld] at hl
  cases hl.1

/-! ## The operations -/

theorem State.sweep_fenceOk {s : State} (h : FenceOk noFence s) {fate : ParkRecord → Fate}
    (hkeep : ∀ r q, fate r = .keep q → SameHold q r) : FenceOk noFence (s.sweep fate) := by
  refine State.sweep_steps (P := FenceOk noFence) (fun u kept rest r q _ hq hu => ?_) (fun u kept rest r y _ _ hu => ?_) h
  · obtain ⟨hh, ha⟩ := hkeep r q hq
    have heq (a : Agent) : ({ u with park := kept ++ q :: rest } : State).heldBy a =
        ({ u with park := kept ++ r :: rest } : State).heldBy a := by
      simp only [heldBy_eq, parkHolds_remove, hh, ha]
    exact fenceOk_carry hu rfl (fun a ha => heq a ▸ ha) (fun a hn => ⟨hn, fun ha => (heq a).trans ha⟩) hu.2.2
  · exact State.endHold_fenceOk (fenceOk_removed hu rfl (by simp) (by simp) (by simp))

theorem refuseFate_keep {p : ParkRecord → Bool} {x : Reason} {d : Byte} {r q : ParkRecord}
    (h : refuseFate p x d r = .keep q) : q = r := by
  unfold refuseFate at h
  split at h
  · cases h
  · cases h; rfl

theorem releaseFate_keep {e : Entry} {r q : ParkRecord} (h : releaseFate e r = .keep q) :
    q = r ∨ q = { r with state := .ready (translate e r.address) [] } := by
  unfold releaseFate at h
  split at h
  · split at h
    · cases h
    · cases h
    · cases h; exact .inr rfl
  · cases h; exact .inl rfl

theorem State.sweep_refuse_fenceOk {s : State} (h : FenceOk noFence s) (p : ParkRecord → Bool) (x : Reason) (d : Byte) :
    FenceOk noFence (s.sweep (refuseFate p x d)) :=
  State.sweep_fenceOk h fun r q hq => by rw [refuseFate_keep hq]; exact ⟨rfl, rfl⟩

theorem State.sweep_release_fenceOk {s : State} (h : FenceOk noFence s) (e : Entry) :
    FenceOk noFence (s.sweep (releaseFate e)) :=
  State.sweep_fenceOk h fun r q hq => by obtain rfl | rfl := releaseFate_keep hq <;> exact ⟨rfl, rfl⟩

theorem State.forwardHead_fenceOk {s u : State} (leaves : s.forwardHead = some u) (h : FenceOk noFence s) :
    FenceOk noFence u := by
  obtain ⟨before, r, x, m, behind, hpark, -, -, -, ⟨-, rfl⟩ | ⟨g, -, hfree, rfl⟩⟩ := State.forwardHead_cases leaves
  · exact State.endHold_fenceOk (fenceOk_removed h hpark (by simp) (by simp) (by simp))
  · refine fenceOk_carry h (State.sendFar_fences ..) (fun a ha => ?_) (fun a hn => ⟨hn, fun ha => ?_⟩) ?_
    all_goals
      simp only [heldBy_eq, hpark, parkHolds_remove, State.sendFar_park, State.sendFar_outs,
        outsHold_take (State.freeTag_some hfree), newOutEntry, Bool.or_assoc] at *
    · rwa [Bool.or_comm (r.held && _)]
    · rwa [Bool.or_comm (outsHold _ _)]
    · exact h.2.2.set g fun e he _ => by cases he; rfl

theorem State.runArbiter_fenceOk {s : State} (h : FenceOk noFence s) : FenceOk noFence s.runArbiter :=
  s.runArbiter_induct (FenceOk noFence) (fun hl => State.forwardHead_fenceOk hl) h

theorem State.afterEntry_fenceOk {s : State} {o : OutEntry} (h : FenceOk (fenceOf o.held o.agent) s) :
    FenceOk noFence (s.afterEntry o) := by
  have hended : FenceOk noFence (s.completeSlots.endHold o.held o.agent) :=
    State.endHold_fenceOk (fenceOk_same h (by simp) (by simp) (by simp))
  exact fenceOk_same (State.runArbiter_fenceOk (fenceOk_same hended (State.completeCloses_park _) (State.completeCloses_outs _)
    (State.completeCloses_fences _)))
    (State.judgeDrain_park _) (State.judgeDrain_outs _) (State.judgeDrain_fences _)

theorem State.clearEntry_fenceOk {s : State} (h : FenceOk noFence s) (g : BridgeTag) : FenceOk noFence (s.clearEntry g) := by
  unfold State.clearEntry
  split
  · exact h
  · next o entry =>
    split
    · exact State.endHold_fenceOk (fenceOk_entryEnds h entry (o' := none) (fun _ he => by cases he) (by simp) (by simp)
        (by simp))
    · next dead => exact fenceOk_deadEnds h entry (Bool.eq_false_iff.mpr dead) rfl rfl rfl

theorem State.clearEntries_fenceOk {s : State} (h : FenceOk noFence s) : FenceOk noFence s.clearEntries :=
  List.foldlRecOn (motive := FenceOk noFence) _ State.clearEntry h fun _ h g _ => State.clearEntry_fenceOk h g

theorem State.farDrained_fenceOk {s : State} (h : FenceOk noFence s) : FenceOk noFence s.farDrained :=
  fenceOk_same h rfl rfl rfl

/-- What is held stays so where records and entries keep their agents, holds and liveness. -/
theorem fenceOk_map {s t : State} (h : FenceOk noFence s) {f : ParkRecord → ParkRecord} {k : OutEntry → OutEntry}
    (hr : ∀ r, SameHold (f r) r) (hk : ∀ o, (k o).held = o.held ∧ (k o).agent = o.agent ∧ (k o).live = o.live)
    (hp : t.park = s.park.map f) (ho : t.outs = s.outs.map (Option.map k)) (hf : t.fences = s.fences) :
    FenceOk noFence t := by
  have heq (a : Agent) : t.heldBy a = s.heldBy a := by
    rw [heldBy_eq, heldBy_eq, hp, ho, parkHolds_map hr, outsHold_map fun o => ⟨(hk o).1, (hk o).2.1⟩]
  refine fenceOk_carry h hf (fun a ha => heq a ▸ ha) (fun a hn => ⟨hn, fun ha => (heq a).trans ha⟩) ?_
  rw [ho]
  refine HeldLive.map fun g o hg => ?_
  obtain ⟨hh, -, hl⟩ := hk o
  rw [hh, hl]
  exact h.2.2 g o hg

theorem fenceOk_parkMap {s t : State} (h : FenceOk noFence s) {f : ParkRecord → ParkRecord} (hr : ∀ r, SameHold (f r) r)
    (hp : t.park = s.park.map f) (ho : t.outs = s.outs) (hf : t.fences = s.fences) : FenceOk noFence t :=
  fenceOk_map h hr (k := id) (fun _ => ⟨rfl, rfl, rfl⟩) hp (by rw [ho, Option.map_id_fun, Vector.map_id]) hf

theorem joinMiss_hold (id : MissId) (c : Ctx) (p : Page) (r : ParkRecord) : SameHold (joinMiss id c p r) r := by
  unfold joinMiss
  split <;> exact ⟨rfl, rfl⟩

theorem ParkRecord.markedBy_hold (pat : Pattern) (k : SlotId) (r : ParkRecord) : SameHold (r.markedBy pat k) r := by
  unfold ParkRecord.markedBy
  split
  · split <;> exact ⟨rfl, rfl⟩
  · exact ⟨rfl, rfl⟩
  · exact ⟨rfl, rfl⟩

theorem OutEntry.markedBy_hold (pat : Pattern) (k : SlotId) (o : OutEntry) :
    (o.markedBy pat k).held = o.held ∧ (o.markedBy pat k).agent = o.agent ∧ (o.markedBy pat k).live = o.live := by
  unfold OutEntry.markedBy
  split <;> exact ⟨rfl, rfl, rfl⟩

theorem State.offer_fenceOk {s : State} (h : FenceOk noFence s) (id : MissId) : FenceOk noFence (s.offer id) := by
  obtain ⟨r, -, -, heq⟩ | ⟨-, heq⟩ := s.offer_cases id
  · rw [heq]
    exact fenceOk_parkMap h (joinMiss_hold id r.ctx r.page) (by simp) (by simp) (by simp)
  · rw [heq]; exact h

theorem State.offerAll_fenceOk {s : State} (h : FenceOk noFence s) (ids : List MissId) : FenceOk noFence (s.offerAll ids) :=
  List.foldlRecOn (motive := FenceOk noFence) _ State.offer h fun _ h id _ => State.offer_fenceOk h id

theorem State.endMiss_fenceOk {s : State} (h : FenceOk noFence s) (id : MissId) (x : Reason) (d : Byte) :
    FenceOk noFence (s.endMiss id x d) :=
  State.sweep_refuse_fenceOk h _ x d

/-! ## Near arrivals -/

theorem State.parkRequest_fenceOk {s : State} (h : FenceOk noFence s) (r : Request) (st : ParkState) :
    FenceOk noFence (s.parkRequest r st) := by
  have heq (a : Agent) : (s.parkRequest r st).heldBy a = s.heldBy a := by
    simp [heldBy_eq, State.parkRequest, parkHolds, parkedAs]
  exact fenceOk_carry h rfl (fun a ha => heq a ▸ ha) (fun a hn => ⟨hn, fun ha => (heq a).trans ha⟩) h.2.2

theorem Admission.fenceOk {s t : State} {r : Request} (ha : Admission s r t) (h : FenceOk noFence s) :
    FenceOk noFence t := by
  have hit (w : WayId) : FenceOk noFence (s.hitBy r w) := h
  cases ha with
  | declined hd => rw [hd.frame]; exact h
  | hitDeclined w hd => rw [hd.frame]; exact h
  | forwardPost w x =>
    exact fenceOk_same (hit w) (State.sendFar_park ..) (State.sendFar_outs ..) (State.sendFar_fences ..)
  | forwardRequest w x g _ _ free =>
    have heq (a : Agent) : ((s.hitBy r w).forwardRequest r x g).heldBy a = s.heldBy a := by
      simp only [heldBy_eq, State.forwardRequest, State.sendFar_park, State.sendFar_outs]
      refine congrArg _ ((outsHold_take (State.freeTag_some free) _ a).trans ?_)
      simp [newOutEntry]
    refine fenceOk_carry (hit w) (State.sendFar_fences ..) (fun a ha => heq a ▸ ha)
      (fun a hn => ⟨hn, fun ha => (heq a).trans ha⟩) ?_
    simp only [State.forwardRequest, State.sendFar_outs]
    exact h.2.2.set g fun e he _ => by cases he; rfl
  | parkedReady w x => exact State.parkRequest_fenceOk (hit w) r _
  | joined id => exact State.parkRequest_fenceOk h r _
  | joinedUnnoticed => exact State.parkRequest_fenceOk h r _
  | allocated id =>
    exact fenceOk_same (State.parkRequest_fenceOk h r (.waiting id)) (by simp) (by simp) (by simp)
  | exhausted c => exact State.parkRequest_fenceOk h r _

theorem ParkRecord.heldFor_held (a : Agent) (r : ParkRecord) :
    (r.heldFor a).held = (r.held || r.agent == a) ∧ (r.heldFor a).agent = r.agent := by
  unfold ParkRecord.heldFor
  split <;> simp_all

theorem OutEntry.heldFor_held (a : Agent) (o : OutEntry) :
    (o.heldFor a).held = (o.held || (o.live && o.agent == a)) ∧ (o.heldFor a).agent = o.agent ∧
      (o.heldFor a).live = o.live := by
  unfold OutEntry.heldFor
  split
  · next h => exact ⟨by rw [h.1, h.2]; simp, rfl, rfl⟩
  · next h =>
    refine ⟨?_, rfl, rfl⟩
    cases hl : o.live <;> simp_all

/-- A pending fence holds its agent's park records and live entries, and no other agent's (R79). -/
theorem State.takeFence_fenceOk {s : State} (h : FenceOk noFence s) (a : Agent) (g : NearTag) :
    FenceOk noFence (s.takeFence a g) := by
  unfold State.takeFence
  split
  · exact fenceOk_same h (by simp) (by simp) (by simp)
  · split
    · next busy =>
      obtain ⟨hp, hf, hl⟩ := h
      have hpark (c : Agent) : parkHolds (s.park.map (ParkRecord.heldFor a)) c = true ↔
          parkHolds s.park c = true ∨ (c = a ∧ ∃ r ∈ s.park, r.agent = a) := by
        simp only [parkHolds_iff, List.mem_map]
        constructor
        · rintro ⟨-, ⟨r, hr, rfl⟩, hh, hc⟩
          rw [(r.heldFor_held a).1, Bool.or_eq_true, beq_iff_eq] at hh
          rw [(r.heldFor_held a).2] at hc
          rcases hh with hh | hh
          · exact .inl ⟨r, hr, hh, hc⟩
          · exact .inr ⟨hc.symm.trans hh, r, hr, hh⟩
        · rintro (⟨r, hr, hh, hc⟩ | ⟨rfl, r, hr, hc⟩)
          · exact ⟨_, ⟨r, hr, rfl⟩, by rw [(r.heldFor_held a).1, hh, Bool.true_or], by rw [(r.heldFor_held a).2, hc]⟩
          · exact ⟨_, ⟨r, hr, rfl⟩, by rw [(r.heldFor_held c).1, hc]; simp, by rw [(r.heldFor_held c).2, hc]⟩
      have houts (c : Agent) : outsHold (s.outs.map (Option.map (OutEntry.heldFor a))) c = true ↔
          outsHold s.outs c = true ∨ (c = a ∧ ∃ (j : BridgeTag) (o : OutEntry), s.outs[j] = some o ∧ o.live = true ∧
            o.agent = a) := by
        simp only [outsHold_iff, getElem_map_fin, Option.map_eq_some_iff]
        constructor
        · rintro ⟨j, -, ⟨o, ho, rfl⟩, hh, hc⟩
          obtain ⟨hheld, hagent, -⟩ := o.heldFor_held a
          rw [hheld, Bool.or_eq_true, Bool.and_eq_true, beq_iff_eq] at hh
          rw [hagent] at hc
          rcases hh with hh | ⟨hlive, hoa⟩
          · exact .inl ⟨j, o, ho, hh, hc⟩
          · exact .inr ⟨hc.symm.trans hoa, j, o, ho, hlive, hoa⟩
        · rintro (⟨j, o, ho, hh, hc⟩ | ⟨rfl, j, o, ho, hlive, hc⟩)
          · obtain ⟨hheld, hagent, -⟩ := o.heldFor_held a
            exact ⟨j, _, ⟨o, ho, rfl⟩, by rw [hheld, hh, Bool.true_or], hagent.trans hc⟩
          · obtain ⟨hheld, hagent, -⟩ := o.heldFor_held c
            exact ⟨j, _, ⟨o, ho, rfl⟩, by rw [hheld, hlive, hc]; simp, hagent.trans hc⟩
      refine ⟨fun c hc => ?_, fun c _ hc => ?_, HeldLive.map fun j o ho hh => ?_⟩
      · rw [getElem_set_fin]
        split
        · rfl
        · next hne =>
          rw [heldBy_eq, Bool.or_eq_true, hpark, houts] at hc
          refine hp c ?_
          rw [heldBy_eq, Bool.or_eq_true]
          rcases hc with (hc | hc) | hc | hc
          · exact .inl hc
          · exact absurd hc.1.symm hne
          · exact .inr hc
          · exact absurd hc.1.symm hne
      · rw [heldBy_eq, Bool.or_eq_true, hpark, houts]
        rw [getElem_set_fin] at hc
        split at hc
        · next hca =>
          subst hca
          unfold State.busyAgent at busy
          rw [Bool.or_eq_true] at busy
          rcases busy with busy | busy
          · obtain ⟨r, hr, hra⟩ := List.any_eq_true.mp busy
            exact .inl (.inr ⟨rfl, r, hr, eq_of_beq hra⟩)
          · obtain ⟨j, e, hj, he⟩ := anyEntry_iff.mp busy
            exact .inr (.inr ⟨rfl, j, e, hj, by simpa using he⟩)
        · have := hf c id hc
          rw [heldBy_eq, Bool.or_eq_true] at this
          exact this.imp .inl .inl
      · obtain ⟨hheld, -, hlive⟩ := o.heldFor_held a
        rw [hlive]
        rw [hheld, Bool.or_eq_true, Bool.and_eq_true] at hh
        exact hh.elim (hl j o ho) And.left
    · exact fenceOk_same h (by simp) (by simp) (by simp)

theorem fenceOk_restarted (s : State) (n m : NodeId) (powered : Bool) : FenceOk noFence (s.restarted n m powered) := by
  refine fenceOk_none rfl (fun g o hg => ?_) fun a => by simp [State.restarted, State.powerOn]
  simp [State.restarted, State.powerOn] at hg

theorem NearDeed.fenceOk {s t : State} (hd : NearDeed s t) (h : FenceOk noFence s) : FenceOk noFence t := by
  cases hd with
  | idle => exact h
  | recorded w => exact fenceOk_same h (by simp) (by simp) (by simp)
  | malformed a g k d w => exact fenceOk_same h (by simp) (by simp) (by simp)
  | accepted r fits fresh =>
    obtain hd | ⟨-, -, -, -, ha⟩ := s.accept_cases r
    · rw [hd.frame]; exact h
    · exact ha.fenceOk h
  | fenceBusy a g => exact fenceOk_same h (by simp) (by simp) (by simp)
  | fenceTaken a g => exact State.takeFence_fenceOk h a g
  | nearDown =>
    refine fenceOk_none (by simp [State.nearLost]) (fun g o hg => ?_) fun a => by simp [State.nearLost]
    simp only [State.judgeDrain_outs, State.makeFault_outs, State.completeSlots_outs, State.nearLost] at hg
    rw [getElem_map_fin] at hg
    obtain ⟨e, he, rfl⟩ := Option.map_eq_some_iff.mp hg
    unfold OutEntry.orphaned
    split
    · rfl
    · next dead => exact Bool.eq_false_iff.mpr fun hh => dead (h.2.2 g e he hh)
  | nearSent => exact h
  | restarted n m powered => exact fenceOk_restarted s n m powered

/-! ## The other commands -/

theorem runResetBridge_fenceOk {s : State} (h : FenceOk noFence s) (f : Frame) : FenceOk noFence (runResetBridge f () s) := by
  refine fenceOk_none (by simp [runResetBridge]) (fun g o hg => ?_) fun a => by simp [runResetBridge]
  simp only [runResetBridge, State.makeFault_outs, State.resetTables, State.refuseAborted_outs, State.ack_outs] at hg
  rw [getElem_map_fin] at hg
  obtain ⟨e, he, rfl⟩ := Option.map_eq_some_iff.mp hg
  unfold OutEntry.afterReset
  split
  · rfl
  · next expired =>
    refine Bool.eq_false_iff.mpr fun hh => ?_
    have := h.2.2 g e he hh
    simp [OutEntry.live, expired] at this

theorem Deed.fenceOk {s t : State} (hd : Deed s t) (h : FenceOk noFence s) : FenceOk noFence t := by
  have same {u v : State} (h : FenceOk noFence u) (hp : v.park = u.park) (ho : v.outs = u.outs)
      (hf : v.fences = u.fences) : FenceOk noFence v := fenceOk_same h hp ho hf
  have drained {u : State} (h : FenceOk noFence u) : FenceOk noFence u.judgeDrain := same h (by simp) (by simp) (by simp)
  have faulted {u : State} (h : FenceOk noFence u) (w : FaultBody) : FenceOk noFence (u.makeFault w) :=
    same h (by simp) (by simp) (by simp)
  have acked {u : State} (h : FenceOk noFence u) (f : Frame) (l : List Byte) : FenceOk noFence (u.ack f l) :=
    same h (by simp) (by simp) (by simp)
  cases hd with
  | idle => exact h
  | recorded w => exact faulted h w
  | farAnswer f small => exact same h (by simp) (by simp) (by simp)
  | resent l stored => exact same h (by simp) (by simp) (by simp)
  | responseTaken g o code body entry waiting =>
    unfold State.takeResponse
    dsimp only
    exact State.afterEntry_fenceOk (fenceOk_entryEnds h entry (o' := none) (fun _ he => by cases he) (by simp) (by simp)
      (by simp))
  | expiredEnds g o entry expired =>
    have ended : FenceOk noFence (s.setOut g none) :=
      fenceOk_deadEnds h entry (by simp [OutEntry.live, expired]) rfl rfl rfl
    exact drained (State.runArbiter_fenceOk ended)
  | replied f kind body small => exact same h (by simp) (by simp) (by simp)
  | countersCleared f kind body small => exact same h (by simp) (by simp) (by simp)
  | filled f a w up valid judged =>
    rw [fillWritten_eq]
    have cleared : FenceOk noFence (fillCleared s a w) :=
      same (State.sweep_release_fenceOk (s := fillInstalled s a w) h a.entry) (State.freeMisses_park ..)
        (State.freeMisses_outs ..) (State.freeMisses_fences ..)
    have recorded : FenceOk noFence (fillRecorded f a w s) :=
      same (State.offerAll_fenceOk (acked cleared f (fillFields s a w)) _) (State.makeFaults_park ..)
        (State.makeFaults_outs ..) (State.makeFaults_fences ..)
    exact drained (State.runArbiter_fenceOk recorded)
  | denied f id d n m w live =>
    exact drained (faulted (State.offer_fenceOk (acked (State.endMiss_fenceOk h id .noTranslation d) f [n]) id) w)
  | pinned f a =>
    unfold runPin
    dsimp only
    split
    · exact same h (by simp) (by simp) (by simp)
    · split <;> exact same h (by simp) (by simp) (by simp)
  | purged f a =>
    unfold runPurge
    split
    · exact same h (by simp) (by simp) (by simp)
    · next k _ =>
      exact fenceOk_map h (ParkRecord.markedBy_hold a.1 k) (OutEntry.markedBy_hold a.1 k) (by simp) (by simp) (by simp)
  | contextOpened f a =>
    unfold runOpenContext
    dsimp only
    split <;> exact same h (by simp) (by simp) (by simp)
  | contextClosed f c opened =>
    rw [closeOpen_eq]
    have cleared : FenceOk noFence (closeCleared f c s) :=
      same (State.sweep_refuse_fenceOk (s := closeInvalidated f c s) h _ _ _) (State.freeMisses_park ..)
        (State.freeMisses_outs ..) (State.freeMisses_fences ..)
    have recorded : FenceOk noFence (closeRecorded f c s) :=
      same (State.offerAll_fenceOk (acked cleared f (closeFields s c)) (s.missesOf c))
        (by simp [closeRecorded, closeOffered]) (by simp [closeRecorded, closeOffered])
        (by simp [closeRecorded, closeOffered])
    exact drained (State.runArbiter_fenceOk recorded)
  | quiesceTaken f =>
    unfold runQuiesce
    split <;> exact same h (by simp) (by simp) (by simp)
  | resumeTaken f => exact same h (by simp [runResume]) (by simp [runResume]) (by simp [runResume])
  | paramSet f a range => exact same h (by simp [runSetParam]) (by simp [runSetParam]) (by simp [runSetParam])
  | faultsCleared f => exact same h (by simp [runClearFaults]) (by simp [runClearFaults]) (by simp [runClearFaults])
  | handedOver f n =>
    unfold runHandover
    split <;> exact same h (by simp) (by simp) (by simp)
  | bridgeReset f => exact runResetBridge_fenceOk h f
  | missExpired id m w live =>
    exact drained (faulted (State.offer_fenceOk (State.endMiss_fenceOk h id .missTimeout 0) id) w)
  | copySent id m next live due => exact same h (by simp) (by simp) (by simp)
  | responseExpired g o entry waiting =>
    exact State.afterEntry_fenceOk (fenceOk_entryEnds h entry (o' := some o.timedOut) (fun _ he => by cases he; rfl)
      (by simp) (by simp) (by simp))
  | farDown =>
    have swept := State.sweep_refuse_fenceOk (s := { s with far := s.far.lost }) h ParkRecord.isReady .link 0
    exact drained (faulted (State.farDrained_fenceOk (State.clearEntries_fenceOk swept)) (farDownFault s))
  | nearUp powered => exact h
  | farUp powered => exact h
  | farSent => exact h
  | headForwarded u leaves => exact drained (State.forwardHead_fenceOk leaves h)
  | missOffered id => exact State.offer_fenceOk h id
  | fenceJudged a =>
    exact drained (State.judgeFence_fenceOk ⟨h.1, fun c _ => h.2.1 c id, h.2.2⟩)
  | slotJudged k => exact same h (by simp) (by simp) (by simp)
  | closeJudged c => exact same h (by simp) (by simp) (by simp)
  | drainJudged => exact drained h

/-- Settles O55: every end of a hold is followed by the judgment of its fence. -/
theorem fenceLawsKept : Obligations.FenceLawsKept :=
  step_keeps (fun _ _ h => h) (fun _ _ h => h) (fun _ _ _ h => h)
    (fun _ _ hd h => fenceLaws_iff.mpr (hd.fenceOk (fenceLaws_iff.mp h)))
    fun _ _ hd h => fenceLaws_iff.mpr (hd.fenceOk (fenceLaws_iff.mp h))

end Sys2Proof.Machine
end

section
/-! PROOF. The laws of the ready list (O56): a head that could leave has left, and while the far link is DOWN nothing is
READY or outstanding (R58, R70, R72, R73, R95, R96). -/

namespace Sys2Proof.Machine

open Sys2Proof.Safety

/-! ## The head of the ready list -/

/-- The kind of the head of the ready list (R72). -/
def headKind (l : List ParkRecord) : Option ReqKind := (l.find? ParkRecord.isReady).map ParkRecord.kind

/-- Which tags are in use, and by what kind of request. -/
def SameKinds (v w : Vector (Option OutEntry) 128) : Prop :=
  ∀ g : BridgeTag, v[g].map OutEntry.kind = w[g].map OutEntry.kind

theorem splitReady_head {l before behind : List ParkRecord} {r : ParkRecord} {x : Translation} {m : List SlotId}
    (h : splitReady l = some (before, r, x, m, behind)) : headKind l = some r.kind := by
  obtain ⟨rfl, hr, hb⟩ := splitReady_some h
  have hready : r.isReady = true := by simp [ParkRecord.isReady, hr]
  have hnone : before.find? ParkRecord.isReady = none := List.find?_eq_none.mpr fun q hq => by simp [hb q hq]
  rw [headKind, List.find?_append, hnone, Option.none_or, List.find?_cons_of_pos hready, Option.map_some]

theorem headKind_none {l : List ParkRecord} : headKind l = none ↔ l.any ParkRecord.isReady = false := by
  simp [headKind]

/-- A head stands still exactly while the far link is DOWN, or as a READ or WRITE with no tag FREE (R73). -/
theorem forwardHead_none_iff {s : State} : s.forwardHead = none ↔
    ∀ k, headKind s.park = some k → s.far.up = true → k ≠ .post ∧ s.freeTag = none := by
  unfold State.forwardHead
  split
  · next h =>
    have := headKind_none.mpr (splitReady_none.mp h)
    exact iff_of_true rfl fun k hk => by rw [this] at hk; cases hk
  · next before r x m behind h =>
    rw [splitReady_head h]
    split
    · next hdown => exact iff_of_true rfl fun k _ hup => by rw [hdown] at hup; cases hup
    · next hup =>
      have hup : s.far.up = true := by simpa using hup
      split
      · next hpost => exact iff_of_false (by simp) fun h => (h _ rfl hup).1 hpost
      · next hnon =>
        split
        · next hfree => exact iff_of_true rfl fun k hk _ => by cases hk; exact ⟨hnon, hfree⟩
        · next g hg => exact iff_of_false (by simp) fun h => by rw [(h _ rfl hup).2] at hg; cases hg

theorem freeTag_none_iff {s : State} : s.freeTag = none ↔ ∀ g : BridgeTag, s.outs[g] ≠ none := by
  unfold State.freeTag
  rw [List.find?_eq_none]
  simp only [List.mem_finRange, forall_true_left, Option.isNone_iff_eq_none, ne_eq]

theorem SameKinds.none_iff {v w : Vector (Option OutEntry) 128} (h : SameKinds v w) (g : BridgeTag) :
    v[g] = none ↔ w[g] = none := by
  rw [← Option.map_eq_none_iff (f := OutEntry.kind), h g, Option.map_eq_none_iff]

theorem SameKinds.refl (v : Vector (Option OutEntry) 128) : SameKinds v v := fun _ => rfl

theorem sameKinds_map {f : OutEntry → OutEntry} (h : ∀ o, (f o).kind = o.kind) (v : Vector (Option OutEntry) 128) :
    SameKinds (v.map (Option.map f)) v := by
  intro g
  rw [getElem_map_fin]
  cases v[g] <;> simp [h]

theorem headKind_map {f : ParkRecord → ParkRecord} (h : ∀ r, (f r).isReady = r.isReady ∧ (f r).kind = r.kind)
    (l : List ParkRecord) : headKind (l.map f) = headKind l := by
  unfold headKind
  rw [List.find?_map, Option.map_map]
  congr 1
  · funext r; exact (h r).2
  · congr 1
    funext r
    exact (h r).1

theorem headKind_filter {p : ParkRecord → Bool} (h : ∀ r, r.isReady = true → p r = true) (l : List ParkRecord) :
    headKind (l.filter p) = headKind l := by
  unfold headKind
  rw [List.find?_filter]
  congr 2
  funext r
  cases hr : r.isReady
  · simp
  · simp [h r hr]

theorem headKind_concat (l : List ParkRecord) (r : ParkRecord) :
    headKind (l ++ [r]) = (headKind l).or (if r.isReady then some r.kind else none) := by
  unfold headKind
  rw [List.find?_append, Option.map_or, List.find?_singleton]
  congr 1
  split <;> simp_all

/-! ## The laws -/

/-- The laws but for the head's standing still: what the arbiter's run needs. -/
def OutsOk (s : State) : Prop :=
  (s.far.up = false → headKind s.park = none ∧ ∀ g : BridgeTag, s.outs[g] = none) ∧ OutsNonPosted s

theorem readyLaws_iff {s : State} : ReadyLaws s ↔ s.forwardHead = none ∧ OutsOk s := by
  unfold OutsOk
  simp only [headKind_none]
  exact Iff.rfl

theorem outsOk_carry {s t : State} (h : OutsOk s) (hu : t.far.up = s.far.up)
    (hp : headKind s.park = none → headKind t.park = none) (ho : SameKinds t.outs s.outs) : OutsOk t := by
  obtain ⟨hdown, hpost⟩ := h
  refine ⟨fun hd => ?_, fun g o hg => ?_⟩
  · rw [hu] at hd
    exact ⟨hp (hdown hd).1, fun g => (ho.none_iff g).mpr ((hdown hd).2 g)⟩
  · have := ho g
    rw [hg] at this
    obtain ⟨e, he, hk⟩ := Option.map_eq_some_iff.mp this.symm
    exact hk ▸ hpost g e he

/-- The laws carry over where the head's kind and the tags in use stay. -/
theorem readyLaws_carry {s t : State} (h : ReadyLaws s) (hu : t.far.up = s.far.up) (hp : headKind t.park = headKind s.park)
    (ho : SameKinds t.outs s.outs) : ReadyLaws t := by
  rw [readyLaws_iff] at h ⊢
  refine ⟨forwardHead_none_iff.mpr fun k hk hup => ?_, outsOk_carry h.2 hu (fun hn => hp.trans hn) ho⟩
  obtain ⟨hpost, hfree⟩ := forwardHead_none_iff.mp h.1 k (hp ▸ hk) (hu ▸ hup)
  exact ⟨hpost, freeTag_none_iff.mpr fun g hg => freeTag_none_iff.mp hfree g ((ho.none_iff g).mp hg)⟩

theorem readyLaws_same {s t : State} (h : ReadyLaws s) (hu : t.far.up = s.far.up) (hp : t.park = s.park)
    (ho : t.outs = s.outs) : ReadyLaws t :=
  readyLaws_carry h hu (by rw [hp]) (by rw [ho]; exact .refl _)

theorem outsOk_same {s t : State} (h : OutsOk s) (hu : t.far.up = s.far.up) (hp : t.park = s.park)
    (ho : t.outs = s.outs) : OutsOk t :=
  outsOk_carry h hu (fun hn => by rw [hp]; exact hn) (by rw [ho]; exact .refl _)

/-- An entry replaced by none, or by one of its own kind. -/
theorem outsOk_set {s t : State} {g : BridgeTag} {o : OutEntry} (h : OutsOk s) (entry : s.outs[g] = some o)
    {o' : Option OutEntry} (hk : ∀ e, o' = some e → e.kind = o.kind) (hu : t.far.up = s.far.up)
    (ho : t.outs = s.outs.set g o') : OutsOk t := by
  obtain ⟨hdown, hpost⟩ := h
  refine ⟨fun hd => ?_, fun j e hj => ?_⟩
  · rw [hu] at hd
    rw [(hdown hd).2 g] at entry
    cases entry
  · rw [ho, getElem_set_fin] at hj
    split at hj
    · rw [hk e hj]; exact hpost g o entry
    · exact hpost j e hj

/-- With nothing READY. -/
theorem readyLaws_idle {s : State} (hn : headKind s.park = none) (h : OutsOk s) : ReadyLaws s :=
  readyLaws_iff.mpr ⟨forwardHead_none_iff.mpr fun k hk => (by rw [hn] at hk; cases hk), h⟩

/-! ## The arbiter -/

theorem State.forwardHead_outsOk {s u : State} (leaves : s.forwardHead = some u) (h : OutsOk s) : OutsOk u := by
  have hup : u.far.up = s.far.up :=
    State.forwardHead_keeps (fun s => s.far.up) (fun _ _ _ => rfl) (by simp) (by simp) (by simp) leaves
  obtain ⟨before, r, x, m, behind, -, -, -, up, ⟨-, rfl⟩ | ⟨g, hnon, -, rfl⟩⟩ := State.forwardHead_cases leaves
  all_goals
    refine ⟨fun hd => (by rw [hup, up] at hd; cases hd), fun j e hj => ?_⟩
  · simp only [State.endHold_outs, State.completeSlots_outs, State.sendFar_outs] at hj
    exact h.2 j e hj
  · rw [State.sendFar_outs] at hj
    dsimp only at hj
    rw [getElem_set_fin] at hj
    split at hj
    · cases hj; exact hnon
    · exact h.2 j e hj

/-- The arbiter's run leaves a head that cannot leave (R72). -/
theorem State.runArbiter_readyLaws {s : State} (h : OutsOk s) : ReadyLaws s.runArbiter :=
  readyLaws_iff.mpr ⟨forwardUpTo_settles _ s (Nat.le_refl _),
    s.runArbiter_induct OutsOk (fun hl => State.forwardHead_outsOk hl) h⟩

theorem State.judgeDrain_readyLaws {s : State} (h : ReadyLaws s) : ReadyLaws s.judgeDrain :=
  readyLaws_same h (by simp) (by simp) (by simp)

theorem State.afterEntry_readyLaws {s : State} (h : OutsOk s) (o : OutEntry) : ReadyLaws (s.afterEntry o) := by
  have closed : OutsOk (s.completeSlots.endHold o.held o.agent).completeCloses :=
    outsOk_same h (by simp) (by simp) (by simp)
  unfold State.afterEntry
  exact State.judgeDrain_readyLaws (State.runArbiter_readyLaws closed)

/-! ## Misses -/

theorem joinMiss_head (id : MissId) (c : Ctx) (p : Page) (r : ParkRecord) :
    (joinMiss id c p r).isReady = r.isReady ∧ (joinMiss id c p r).kind = r.kind :=
  ⟨(joinMiss_fields id c p r).1, (joinMiss_same id c p r).2.2⟩

theorem State.offer_readyLaws {s : State} (h : ReadyLaws s) (id : MissId) : ReadyLaws (s.offer id) := by
  obtain ⟨r, -, -, heq⟩ | ⟨-, heq⟩ := s.offer_cases id
  · rw [heq]
    exact readyLaws_carry h (by simp) (by simpa using headKind_map (joinMiss_head id r.ctx r.page) s.park)
      (by simpa using SameKinds.refl s.outs)
  · rw [heq]; exact h

theorem State.offerAll_outsOk {s : State} (h : OutsOk s) (ids : List MissId) : OutsOk (s.offerAll ids) := by
  refine List.foldlRecOn (motive := OutsOk) _ State.offer h fun u h id _ => ?_
  obtain ⟨r, -, -, heq⟩ | ⟨-, heq⟩ := u.offer_cases id
  · rw [heq]
    exact outsOk_carry h (by simp) (fun hn => by simpa [headKind_map (joinMiss_head id r.ctx r.page)] using hn)
      (by simpa using SameKinds.refl u.outs)
  · rw [heq]; exact h

theorem State.endMiss_readyLaws {s : State} (h : ReadyLaws s) (id : MissId) (x : Reason) (d : Byte) :
    ReadyLaws (s.endMiss id x d) := by
  refine readyLaws_carry h (by simp [State.endMiss]) ?_ (by simpa [State.endMiss] using SameKinds.refl s.outs)
  simp only [State.endMiss, State.freeMiss_park, State.sweep_refuse_park]
  refine headKind_filter (fun r hr => ?_) _
  cases hw : r.waitsOn id with
  | false => rfl
  | true =>
    have hs := ParkRecord.waitsOn_iff.mp hw
    simp [ParkRecord.isReady, hs] at hr

/-! ## Near arrivals -/

theorem Declined.far_up {s t : State} {r : Request} (hd : Declined s r t) : t.far.up = s.far.up := by
  cases hd with
  | turnAway x d => unfold State.turnAway; split <;> simp
  | turnAwayWith x k d => simp [State.turnAwayWith]
  | refused hk x d => simp
  | lost hk w => simp
  | zero => simp

theorem Declined.readyLaws {s t : State} {r : Request} (hd : Declined s r t) (h : ReadyLaws s) : ReadyLaws t :=
  readyLaws_same h hd.far_up (congrArg State.park hd.frame :) (congrArg State.outs hd.frame :)

theorem Admission.readyLaws {s t : State} {r : Request} (ha : Admission s r t) (up : s.far.up = true) (h : ReadyLaws s) :
    ReadyLaws t := by
  have hit (w : WayId) : ReadyLaws (s.hitBy r w) := readyLaws_same h rfl rfl rfl
  have unready (st : ParkState) (hst : (parkedAs r st).isReady = false) : ReadyLaws (s.parkRequest r st) :=
    readyLaws_carry h rfl (by simp [State.parkRequest, headKind_concat, hst]) (.refl _)
  cases ha with
  | declined hd => exact hd.readyLaws h
  | hitDeclined w hd => exact hd.readyLaws (hit w)
  | forwardPost w x => exact readyLaws_same (hit w) (by simp [State.forwardPost]) (State.sendFar_park ..) (State.sendFar_outs ..)
  | forwardRequest w x g idle nonPosted free =>
    refine readyLaws_idle ?_ ⟨fun hd => ?_, fun j e hj => ?_⟩
    · rw [State.forwardRequest, State.sendFar_park]
      exact headKind_none.mpr idle
    · rw [State.forwardRequest, State.sendFar_far_up] at hd
      rw [show s.far.up = false from hd] at up
      cases up
    · rw [State.forwardRequest, State.sendFar_outs] at hj
      dsimp only at hj
      rw [getElem_set_fin] at hj
      split at hj
      · cases hj; exact nonPosted
      · exact h.2.2 j e hj
  | parkedReady w x room stuck =>
    obtain ⟨hstuck, hdown, hpost⟩ := readyLaws_iff.mp h
    refine readyLaws_iff.mpr ⟨forwardHead_none_iff.mpr fun k hk hup => ?_, fun hd => ?_, hpost⟩
    · change headKind (s.park ++ [parkedAs r (.ready x [])]) = some k at hk
      rw [headKind_concat] at hk
      cases hs : headKind s.park with
      | some j =>
        rw [hs] at hk
        exact forwardHead_none_iff.mp hstuck k (hs.trans hk) up
      | none =>
        rw [hs] at hk
        cases hk
        refine stuck.resolve_left fun hready => ?_
        rw [State.readyExists, headKind_none.mp hs] at hready
        cases hready
    · rw [show s.far.up = false from hd] at up
      cases up
  | joined id => exact unready _ rfl
  | joinedUnnoticed => exact unready _ rfl
  | allocated id =>
    exact readyLaws_same (unready (.waiting id) rfl) (by simp) (by simp) (by simp)
  | exhausted c => exact readyLaws_same (unready .unnoticed rfl) rfl rfl rfl

theorem State.takeFence_readyLaws {s : State} (h : ReadyLaws s) (a : Agent) (g : NearTag) : ReadyLaws (s.takeFence a g) := by
  have hrec (r : ParkRecord) : (r.heldFor a).isReady = r.isReady ∧ (r.heldFor a).kind = r.kind :=
    ⟨(r.heldFor_fields a).1, (ParkRecord.heldFor_same a r).2.2⟩
  have hent (o : OutEntry) : (o.heldFor a).kind = o.kind := by
    unfold OutEntry.heldFor
    split <;> rfl
  unfold State.takeFence
  split
  · exact readyLaws_same h (by simp) (by simp) (by simp)
  · split
    · exact readyLaws_carry h rfl (headKind_map hrec s.park) (sameKinds_map hent s.outs)
    · exact readyLaws_same h (by simp) (by simp) (by simp)

theorem readyLaws_restarted (s : State) (n m : NodeId) (powered : Bool) : ReadyLaws (s.restarted n m powered) := by
  have hnone (g : BridgeTag) : (s.restarted n m powered).outs[g] = none := by
    simp [State.restarted, State.powerOn]
  exact readyLaws_idle rfl ⟨fun _ => ⟨rfl, hnone⟩, fun g o hg => by rw [hnone g] at hg; cases hg⟩

theorem NearDeed.readyLaws {s t : State} (hd : NearDeed s t) (h : ReadyLaws s) : ReadyLaws t := by
  cases hd with
  | idle => exact h
  | recorded w => exact readyLaws_same h (by simp) (by simp) (by simp)
  | malformed a g k d w => exact readyLaws_same h (by simp) (by simp) (by simp)
  | accepted r fits fresh =>
    obtain hd | ⟨-, up, -, -, ha⟩ := s.accept_cases r
    · exact hd.readyLaws h
    · exact ha.readyLaws up h
  | fenceBusy a g => exact readyLaws_same h (by simp) (by simp) (by simp)
  | fenceTaken a g => exact State.takeFence_readyLaws h a g
  | nearDown =>
    have hent (o : OutEntry) : o.orphaned.kind = o.kind := by
      unfold OutEntry.orphaned
      split <;> rfl
    have lost : ReadyLaws s.nearLost :=
      readyLaws_idle rfl (outsOk_carry (readyLaws_iff.mp h).2 rfl (fun _ => rfl) (sameKinds_map hent s.outs))
    exact readyLaws_same lost (by simp) (by simp) (by simp)
  | nearSent => exact readyLaws_same h rfl rfl rfl
  | restarted n m powered => exact readyLaws_restarted s n m powered

/-! ## The other commands -/

theorem ParkRecord.markedBy_head (pat : Pattern) (k : SlotId) (r : ParkRecord) :
    (r.markedBy pat k).isReady = r.isReady ∧ (r.markedBy pat k).kind = r.kind :=
  ⟨(r.markedBy_fields pat k).1, (ParkRecord.markedBy_same pat k r).2.2⟩

theorem OutEntry.markedBy_kind (pat : Pattern) (k : SlotId) (o : OutEntry) : (o.markedBy pat k).kind = o.kind := by
  unfold OutEntry.markedBy
  split <;> rfl

theorem OutEntry.afterReset_kind (now : Time) (timeout : BitVec 16) (o : OutEntry) :
    (o.afterReset now timeout).kind = o.kind := by
  unfold OutEntry.afterReset
  split <;> rfl

theorem fillCleared_outsOk {s : State} (h : OutsOk s) (up : s.far.up = true) (a : FillArgs) (w : WayId) :
    OutsOk (fillCleared s a w) := by
  have hup : (fillCleared s a w).far = s.far := by simp [fillCleared, fillInstalled]
  have houts : (fillCleared s a w).outs = s.outs := by simp [fillCleared, fillInstalled]
  refine ⟨fun hd => (by rw [hup, up] at hd; cases hd), fun g o hg => ?_⟩
  rw [houts] at hg
  exact h.2 g o hg

theorem closeCleared_outsOk {s : State} (h : OutsOk s) (f : Frame) (c : Ctx) : OutsOk (closeCleared f c s) := by
  have houts : (closeCleared f c s).outs = s.outs := by simp [closeCleared, closeInvalidated]
  refine outsOk_carry h (by simp [closeCleared, closeInvalidated]) (fun hn => ?_) (houts ▸ .refl _)
  have hpark : (closeCleared f c s).park = s.park.filter fun r => !(r.ctx == c) := by
    rw [closeCleared, State.freeMisses_park, State.sweep_refuse_park]
    rfl
  rw [headKind_none, List.any_eq_false] at hn ⊢
  rw [hpark]
  exact fun r hr => hn r (List.mem_of_mem_filter hr)

theorem farDown_readyLaws (s : State) : ReadyLaws (({ s with far := s.far.lost }.sweep
    (refuseFate ParkRecord.isReady .link 0)).clearEntries).farDrained := by
  generalize hv : { s with far := s.far.lost }.sweep (refuseFate ParkRecord.isReady .link 0) = v
  have hpark : v.park = s.park.filter fun r => !r.isReady := by rw [← hv, State.sweep_refuse_park]
  have hn : headKind v.clearEntries.farDrained.park = none := by
    rw [State.farDrained_park, State.clearEntries_park, hpark, headKind_none, List.any_eq_false]
    exact fun r hr => by simpa using (List.mem_filter.mp hr).2
  have houts (g : BridgeTag) : v.clearEntries.farDrained.outs[g] = none := by
    rw [State.farDrained_outs]
    exact v.clearEntries_outs g
  exact readyLaws_idle hn ⟨fun _ => ⟨hn, houts⟩, fun g o hg => by rw [houts] at hg; cases hg⟩

theorem Deed.readyLaws {s t : State} (hd : Deed s t) (h : ReadyLaws s) : ReadyLaws t := by
  have same {u v : State} (h : ReadyLaws u) (hu : v.far.up = u.far.up) (hp : v.park = u.park) (ho : v.outs = u.outs) :
      ReadyLaws v := readyLaws_same h hu hp ho
  have faulted {u : State} (h : ReadyLaws u) (w : FaultBody) : ReadyLaws (u.makeFault w) :=
    same h (by simp) (by simp) (by simp)
  have outsOk : OutsOk s := (readyLaws_iff.mp h).2
  cases hd with
  | idle => exact h
  | recorded w => exact faulted h w
  | farAnswer f small => exact same h (by simp) (by simp) (by simp)
  | resent l stored => exact same h (by simp) (by simp) (by simp)
  | responseTaken g o code body entry waiting =>
    unfold State.takeResponse
    dsimp only
    exact State.afterEntry_readyLaws (outsOk_set outsOk entry (o' := none) (fun _ he => by cases he) (by simp)
      (by simp)) o
  | expiredEnds g o entry expired =>
    have ended : OutsOk (s.setOut g none) := outsOk_set outsOk entry (o' := none) (fun _ he => by cases he) rfl rfl
    exact State.judgeDrain_readyLaws (State.runArbiter_readyLaws ended)
  | replied f kind body small => exact same h (by simp) (by simp) (by simp)
  | countersCleared f kind body small => exact same h (State.reply_far_up ..) (State.reply_park ..) (State.reply_outs ..)
  | filled f a w up valid judged =>
    rw [fillWritten_eq]
    have acked : OutsOk ((fillCleared s a w).ack f (fillFields s a w)) :=
      outsOk_same (fillCleared_outsOk outsOk up a w) (by simp) (by simp) (by simp)
    have recorded : OutsOk (fillRecorded f a w s) :=
      outsOk_same (State.offerAll_outsOk acked (s.missesMatched a.entry)) (State.makeFaults_far_up ..)
        (State.makeFaults_park ..) (State.makeFaults_outs ..)
    exact State.judgeDrain_readyLaws (State.runArbiter_readyLaws recorded)
  | denied f id d n m w live =>
    have acked : ReadyLaws ((s.endMiss id .noTranslation d).ack f [n]) :=
      same (State.endMiss_readyLaws h id .noTranslation d) (by simp) (by simp) (by simp)
    exact State.judgeDrain_readyLaws (faulted (State.offer_readyLaws acked id) w)
  | pinned f a =>
    unfold runPin
    dsimp only
    split
    · exact same h (by simp) (by simp) (by simp)
    · split <;> exact same h (by simp) (by simp) (by simp)
  | purged f a =>
    unfold runPurge
    split
    · exact same h (by simp) (by simp) (by simp)
    · next k _ =>
      exact readyLaws_carry h (by simp) (by simpa using headKind_map (ParkRecord.markedBy_head a.1 k) s.park)
        (by simpa using sameKinds_map (OutEntry.markedBy_kind a.1 k) s.outs)
  | contextOpened f a =>
    unfold runOpenContext
    dsimp only
    split <;> exact same h (by simp) (by simp) (by simp)
  | contextClosed f c opened =>
    rw [closeOpen_eq]
    have acked : OutsOk ((closeCleared f c s).ack f (closeFields s c)) :=
      outsOk_same (closeCleared_outsOk outsOk f c) (by simp) (by simp) (by simp)
    have recorded : OutsOk (closeRecorded f c s) :=
      outsOk_same (State.offerAll_outsOk acked (s.missesOf c)) (by simp [closeRecorded, closeOffered])
        (by simp [closeRecorded, closeOffered]) (by simp [closeRecorded, closeOffered])
    exact State.judgeDrain_readyLaws (State.runArbiter_readyLaws recorded)
  | quiesceTaken f =>
    unfold runQuiesce
    split <;> exact same h (by simp) (by simp) (by simp)
  | resumeTaken f => exact same h (by simp [runResume]) (by simp [runResume]) (by simp [runResume])
  | paramSet f a range => exact same h (by simp [runSetParam]) (by simp [runSetParam]) (by simp [runSetParam])
  | faultsCleared f => exact same h (by simp [runClearFaults]) (by simp [runClearFaults]) (by simp [runClearFaults])
  | handedOver f n =>
    unfold runHandover
    split <;> exact same h (by simp) (by simp) (by simp)
  | bridgeReset f =>
    have hn : headKind (runResetBridge f () s).park = none := by simp [runResetBridge, headKind]
    refine readyLaws_idle hn (outsOk_carry outsOk (by simp [runResetBridge]) (fun _ => hn) ?_)
    simpa [runResetBridge] using
      sameKinds_map (OutEntry.afterReset_kind s.time s.chan.params.responseTimeout) s.outs
  | missExpired id m w live =>
    exact State.judgeDrain_readyLaws (faulted (State.offer_readyLaws (State.endMiss_readyLaws h id .missTimeout 0) id) w)
  | copySent id m next live due => exact same h (by simp) (by simp) (by simp)
  | responseExpired g o entry waiting =>
    exact State.afterEntry_readyLaws (outsOk_set outsOk entry (o' := some o.timedOut) (fun _ he => by cases he; rfl)
      (by simp) (by simp)) o
  | farDown => exact State.judgeDrain_readyLaws (faulted (farDown_readyLaws s) (farDownFault s))
  | nearUp powered => exact same h rfl rfl rfl
  | farUp powered =>
    cases hup : s.far.up with
    | true => exact same h hup.symm rfl rfl
    | false =>
      exact readyLaws_idle (outsOk.1 hup).1 ⟨fun hd => (by cases hd), outsOk.2⟩
  | farSent =>
    refine same h ?_ rfl rfl
    dsimp only
    unfold PortState.sendOne
    split <;> rfl
  | headForwarded u leaves =>
    rw [h.1] at leaves
    cases leaves
  | missOffered id => exact State.offer_readyLaws h id
  | fenceJudged a => exact same h (by simp) (by simp) (by simp)
  | slotJudged k => exact same h (by simp) (by simp) (by simp)
  | closeJudged c => exact same h (by simp) (by simp) (by simp)
  | drainJudged => exact State.judgeDrain_readyLaws h

/-- Settles O56: whatever may let a head leave runs the arbiter. -/
theorem readyLawsKept : Obligations.ReadyLawsKept :=
  step_keeps (fun _ _ h => readyLaws_same h rfl rfl rfl) (fun _ _ h => readyLaws_same h rfl rfl rfl)
    (fun _ _ _ h => readyLaws_same h rfl rfl rfl) (fun _ _ hd h => hd.readyLaws h) fun _ _ hd h => hd.readyLaws h

end Sys2Proof.Machine
end

section
/-! PROOF. The laws of the purge list (O57): a slot is in use exactly while something carries its mark (R91, R105). -/

namespace Sys2Proof.Machine

open Sys2Proof.Safety

/-! ## Carriers -/

/-- Some park record carries the slot's mark. -/
def parkMarked (l : List ParkRecord) (k : SlotId) : Bool := l.any fun r => r.marks.contains k

/-- The entry is WAITING and carries the slot's mark (R105). -/
def OutEntry.carries (k : SlotId) (o : OutEntry) : Bool := o.phase == .waiting && o.marks.contains k

/-- Something carries the slot's mark (R105). -/
def State.marked (s : State) (k : SlotId) : Bool := parkMarked s.park k || anyEntry (OutEntry.carries k) s.outs

theorem carriers_pos_iff (s : State) (k : SlotId) : 0 < s.carriers k ↔ s.marked k = true := by
  unfold State.carriers State.marked parkMarked anyEntry OutEntry.carries
  rw [Nat.add_pos_iff_pos_or_pos, List.countP_pos_iff, List.countP_pos_iff, Bool.or_eq_true, List.any_eq_true,
    List.any_eq_true]

theorem carriers_zero_iff (s : State) (k : SlotId) : s.carriers k = 0 ↔ s.marked k = false := by
  rw [← Bool.not_eq_true, ← carriers_pos_iff, Nat.pos_iff_ne_zero, not_not]

/-- An EXPIRED entry is bare of marks and hold (R91). -/
def BareExpired (v : Vector (Option OutEntry) 128) : Prop :=
  ∀ (g : BridgeTag) (o : OutEntry), v[g] = some o → o.phase = .expired → o.marks = [] ∧ o.held = false

/-- The laws of the purge list, while some slots in use may have no carrier. -/
def MarksOk (late : SlotId → Prop) (s : State) : Prop :=
  (∀ k, s.marked k = true → s.slots[k].isSome = true) ∧
    (∀ k, ¬late k → s.slots[k].isSome = true → s.marked k = true) ∧ BareExpired s.outs

/-- No slot is late. -/
def noSlot : SlotId → Prop := fun _ => False

/-- Every slot may be late. -/
def anySlot : SlotId → Prop := fun _ => True

theorem purgeLaws_iff {s : State} : PurgeLaws s ↔ MarksOk noSlot s := by
  unfold PurgeLaws MarksLaw MarksOk
  simp only [carriers_pos_iff]
  constructor
  · exact fun ⟨hm, he⟩ => ⟨fun k => (hm k).mpr, fun k _ => (hm k).mp, he⟩
  · exact fun ⟨h1, h2, he⟩ => ⟨fun k => ⟨h2 k id, h1 k⟩, he⟩

/-! ## How the carriers change -/

theorem parkMarked_remove (before behind : List ParkRecord) (r : ParkRecord) (k : SlotId) :
    parkMarked (before ++ r :: behind) k = (parkMarked (before ++ behind) k || r.marks.contains k) := by
  simp only [parkMarked, List.any_append, List.any_cons]
  cases r.marks.contains k <;> simp

theorem parkMarked_map {f : ParkRecord → ParkRecord} (h : ∀ r, (f r).marks = r.marks) (l : List ParkRecord) (k : SlotId) :
    parkMarked (l.map f) k = parkMarked l k := by
  simp only [parkMarked, List.any_map]
  congr 1
  funext r
  simp [h r]

/-- Records that are not READY carry no mark (R107). -/
theorem ParkRecord.marks_of_unready {r : ParkRecord} (h : r.isReady = false) : r.marks = [] := by
  obtain hs | ⟨id, hs⟩ := ParkRecord.isReady_false_iff.mp h
  all_goals rw [ParkRecord.marks, hs]

theorem BareExpired.set {v : Vector (Option OutEntry) 128} (h : BareExpired v) (g : BridgeTag) {o : Option OutEntry}
    (ho : ∀ e, o = some e → e.phase = .expired → e.marks = [] ∧ e.held = false) : BareExpired (v.set g o) := by
  intro j e hj
  rw [getElem_set_fin] at hj
  split at hj
  · exact ho e hj
  · exact h j e hj

theorem BareExpired.map {v : Vector (Option OutEntry) 128} {f : OutEntry → OutEntry}
    (h : ∀ (g : BridgeTag) (o : OutEntry), v[g] = some o → (f o).phase = .expired → (f o).marks = [] ∧ (f o).held = false) :
    BareExpired (v.map (Option.map f)) := by
  intro g e hg
  rw [getElem_map_fin] at hg
  obtain ⟨o, ho, rfl⟩ := Option.map_eq_some_iff.mp hg
  exact h g o ho

/-- The slots stand, and nothing is marked that was not. -/
theorem marksOk_carry {late late' : SlotId → Prop} {s t : State} (h : MarksOk late s) (hs : t.slots = s.slots)
    (hless : ∀ k, t.marked k = true → s.marked k = true)
    (hmore : ∀ k, ¬late' k → ¬late k ∧ (s.marked k = true → t.marked k = true)) (he : BareExpired t.outs) :
    MarksOk late' t := by
  obtain ⟨h1, h2, -⟩ := h
  refine ⟨fun k hk => ?_, fun k hn hk => ?_, he⟩
  · rw [hs]; exact h1 k (hless k hk)
  · rw [hs] at hk
    obtain ⟨hnl, hkeep⟩ := hmore k hn
    exact hkeep (h2 k hnl hk)

theorem marksOk_eq {late : SlotId → Prop} {s t : State} (h : MarksOk late s) (hs : t.slots = s.slots)
    (hm : ∀ k, t.marked k = s.marked k) (he : BareExpired t.outs) : MarksOk late t :=
  marksOk_carry h hs (fun k hk => hm k ▸ hk) (fun k hn => ⟨hn, fun hk => (hm k).trans hk⟩) he

theorem marksOk_same {late : SlotId → Prop} {s t : State} (h : MarksOk late s) (hp : t.park = s.park)
    (ho : t.outs = s.outs) (hs : t.slots = s.slots) : MarksOk late t :=
  marksOk_eq h hs (fun k => by rw [State.marked, State.marked, hp, ho]) (ho ▸ h.2.2)

/-- Carriers gone: any slot may be late. -/
theorem marksOk_fewer {s t : State} (h : MarksOk noSlot s) (hs : t.slots = s.slots)
    (hless : ∀ k, t.marked k = true → s.marked k = true) (he : BareExpired t.outs) : MarksOk anySlot t :=
  marksOk_carry h hs hless (fun _ hn => absurd trivial hn) he

/-- With no slot in use and nothing marked. -/
theorem marksOk_none {s : State} (hs : ∀ k : SlotId, s.slots[k] = none) (hm : ∀ k, s.marked k = false)
    (he : BareExpired s.outs) : MarksOk noSlot s := by
  refine ⟨fun k hk => ?_, fun k _ hk => ?_, he⟩
  · rw [hm k] at hk; cases hk
  · rw [hs k] at hk; cases hk

/-! ## Completion (R109) -/

theorem State.completeSlot_marked (s : State) (k j : SlotId) : (s.completeSlot k).marked j = s.marked j := by
  rw [State.marked, State.completeSlot_park, State.completeSlot_outs]
  rfl

theorem State.completeSlot_slots (s : State) (k : SlotId) :
    (s.completeSlot k).slots = if s.marked k = false then s.slots.set k none else s.slots := by
  unfold State.completeSlot
  split
  · by_cases hm : s.carriers k = 0
    · rw [if_pos hm, if_pos ((carriers_zero_iff s k).mp hm), State.notice_slots]
    · rw [if_neg hm, if_neg fun h => hm ((carriers_zero_iff s k).mpr h)]
  · next hn =>
    split
    · rw [← hn]; exact (Vector.set_getElem_self ..).symm
    · rfl

theorem State.completeSlot_slots_get (s : State) (k j : SlotId) :
    (s.completeSlot k).slots[j] = if k = j ∧ s.marked k = false then none else s.slots[j] := by
  have hset : (s.slots.set k none)[j] = if k = j then none else s.slots[j] := getElem_set_fin ..
  rw [State.completeSlot_slots]
  cases s.marked k with
  | true => simp only [Bool.true_eq_false, if_false, and_false]
  | false => simpa only [if_true, and_true] using hset

/-- A slot is free after its completion, or it has a carrier. -/
theorem State.completeSlot_marksOk {s : State} {late : SlotId → Prop} {k : SlotId} (h : MarksOk (fun j => j = k ∨ late j) s) :
    MarksOk late (s.completeSlot k) := by
  obtain ⟨h1, h2, he⟩ := h
  refine ⟨fun j hj => ?_, fun j hn hj => ?_, by rw [State.completeSlot_outs]; exact he⟩
  all_goals rw [State.completeSlot_marked] at *
  · rw [State.completeSlot_slots_get, if_neg]
    · exact h1 j hj
    · rintro ⟨rfl, hm⟩; rw [hm] at hj; cases hj
  · rw [State.completeSlot_slots_get] at hj
    split at hj
    · cases hj
    · next hne =>
      by_cases hjk : j = k
      · subst hjk
        simpa using hne
      · exact h2 j (fun hl => hl.elim hjk hn) hj

theorem State.completeSlots_marksOk {s : State} (h : MarksOk anySlot s) : MarksOk noSlot s.completeSlots := by
  have main : ∀ (l : List SlotId) (u : State), MarksOk (fun j => j ∈ l) u → MarksOk noSlot (l.foldl State.completeSlot u) := by
    intro l
    induction l with
    | nil => exact fun u ⟨h1, h2, he⟩ => ⟨h1, fun k _ => h2 k (by simp), he⟩
    | cons k l ih =>
      exact fun u ⟨h1, h2, he⟩ => ih _ (State.completeSlot_marksOk ⟨h1, fun j hn => h2 j (by simpa using hn), he⟩)
  obtain ⟨h1, -, he⟩ := h
  exact main _ s ⟨h1, fun k hn => absurd (List.mem_finRange k) hn, he⟩

/-! ## The operations -/

/-- A sweep that only changes and takes away records that carry no mark, then and afterwards. -/
theorem State.sweep_marksOk {s : State} (h : MarksOk noSlot s) {fate : ParkRecord → Fate}
    (hkeep : ∀ r q, fate r = .keep q → q.marks = r.marks) (hleave : ∀ r y, fate r = .leave y → r.marks = []) :
    MarksOk noSlot (s.sweep fate) := by
  refine State.sweep_steps (P := MarksOk noSlot) (fun u kept rest r q _ hq hu => ?_) (fun u kept rest r y _ hy hu => ?_) h
  · refine marksOk_eq hu rfl (fun k => ?_) hu.2.2
    simp only [State.marked, parkMarked_remove, hkeep r q hq]
  · refine marksOk_eq hu (by simp) (fun k => ?_) (by simpa using hu.2.2)
    simp [State.marked, parkMarked_remove, hleave r y hy]

theorem State.sweep_release_marksOk {s : State} (h : MarksOk noSlot s) (e : Entry) :
    MarksOk noSlot (s.sweep (releaseFate e)) := by
  have unready {r : ParkRecord} (hr : r.releasedBy e = true) : r.marks = [] :=
    ParkRecord.marks_of_unready (by simpa using (Bool.and_eq_true_iff.mp hr).1)
  refine State.sweep_marksOk h (fun r q hq => ?_) fun r y hy => ?_
  all_goals unfold releaseFate at *
  · split at hq
    · next hr =>
      split at hq
      · cases hq
      · cases hq
      · cases hq; rw [unready hr]; rfl
    · cases hq; rfl
  · split at hy
    · next hr => exact unready hr
    · cases hy

theorem State.endMiss_marksOk {s : State} (h : MarksOk noSlot s) (id : MissId) (x : Reason) (d : Byte) :
    MarksOk noSlot (s.endMiss id x d) := by
  have swept : MarksOk noSlot (s.sweep (refuseFate (fun r => r.waitsOn id) x d)) := by
    refine State.sweep_marksOk h (fun r q hq => by rw [refuseFate_keep hq]) fun r y hy => ?_
    unfold refuseFate at hy
    split at hy
    · next hw => exact ParkRecord.marks_of_unready (ParkRecord.isReady_false_iff.mpr (.inr ⟨id, ParkRecord.waitsOn_iff.mp hw⟩))
    · cases hy
  exact marksOk_same swept rfl rfl rfl

theorem ParkRecord.marks_of_ready {r : ParkRecord} {x : Translation} {m : List SlotId} (h : r.state = .ready x m) :
    r.marks = m := by
  rw [ParkRecord.marks, h]

/-- A park record gone: any slot may be late. -/
theorem marksOk_removed {s t : State} {before behind : List ParkRecord} {r : ParkRecord} (h : MarksOk noSlot s)
    (hp : s.park = before ++ r :: behind) (ht : t.park = before ++ behind) (ho : t.outs = s.outs)
    (hs : t.slots = s.slots) : MarksOk anySlot t := by
  refine marksOk_fewer h hs (fun k hk => ?_) (ho ▸ h.2.2)
  rw [State.marked, Bool.or_eq_true, ht, ho] at hk
  rw [State.marked, Bool.or_eq_true, hp, parkMarked_remove]
  exact hk.imp_left fun hk => by rw [hk, Bool.true_or]

theorem State.forwardHead_marksOk {s u : State} (leaves : s.forwardHead = some u) (h : MarksOk noSlot s) :
    MarksOk noSlot u := by
  obtain ⟨before, r, x, m, behind, hpark, hr, -, -, ⟨-, rfl⟩ | ⟨g, -, hfree, rfl⟩⟩ := State.forwardHead_cases leaves
  · have sent : MarksOk anySlot ({ s with park := before ++ behind }.sendFar
        (requestFrame s.node r.kind r.mode r.len r.payload x 0)) :=
      marksOk_removed h hpark (State.sendFar_park ..) (State.sendFar_outs ..) (State.sendFar_slots ..)
    exact marksOk_same (State.completeSlots_marksOk sent) (State.endHold_park ..) (State.endHold_outs ..)
      (State.endHold_slots ..)
  · refine marksOk_eq h (State.sendFar_slots ..) (fun k => ?_) ?_
    · simp only [State.marked, State.sendFar_park, State.sendFar_outs, hpark, parkMarked_remove,
        anyEntry_take (State.freeTag_some hfree), ParkRecord.marks_of_ready hr]
      simp only [OutEntry.carries, newOutEntry, beq_self_eq_true, Bool.true_and, Bool.or_assoc]
      rw [Bool.or_comm (anyEntry _ _)]
    · rw [State.sendFar_outs]
      exact h.2.2.set g fun e he hx => by cases he; cases hx

theorem State.runArbiter_marksOk {s : State} (h : MarksOk noSlot s) : MarksOk noSlot s.runArbiter :=
  s.runArbiter_induct (MarksOk noSlot) (fun hl => State.forwardHead_marksOk hl) h

theorem State.afterEntry_marksOk {s : State} (h : MarksOk anySlot s) (o : OutEntry) : MarksOk noSlot (s.afterEntry o) := by
  have closed : MarksOk noSlot (s.completeSlots.endHold o.held o.agent).completeCloses :=
    marksOk_same (State.completeSlots_marksOk h) (by simp) (by simp) (by simp)
  unfold State.afterEntry
  exact marksOk_same (State.runArbiter_marksOk closed) (State.judgeDrain_park _) (State.judgeDrain_outs _)
    (State.judgeDrain_slots _)

/-- A WAITING entry gone, or bare. -/
theorem marksOk_entryEnds {s t : State} {g : BridgeTag} (h : MarksOk noSlot s) {o' : Option OutEntry}
    (bare : ∀ e, o' = some e → e.marks = [] ∧ e.held = false) (hp : t.park = s.park) (ho : t.outs = s.outs.set g o')
    (hs : t.slots = s.slots) : MarksOk anySlot t := by
  refine marksOk_fewer h hs (fun k hk => ?_) (ho ▸ h.2.2.set g fun e he _ => bare e he)
  rw [State.marked, Bool.or_eq_true, hp, ho, anyEntry_set] at hk
  rw [State.marked, Bool.or_eq_true, anyEntry_iff]
  rcases hk with hk | ⟨j, e, -, hj, he⟩ | ⟨e, he, hc⟩
  · exact .inl hk
  · exact .inr ⟨j, e, hj, he⟩
  · simp [OutEntry.carries, (bare e he).1] at hc

theorem joinMiss_marks (id : MissId) (c : Ctx) (p : Page) (r : ParkRecord) : (joinMiss id c p r).marks = r.marks := by
  unfold joinMiss
  split
  · next h =>
    have hu := ParkRecord.isUnnoticed_iff.mp (Bool.and_eq_true_iff.mp h).1
    simp [ParkRecord.marks, hu]
  · rfl

theorem State.offer_marksOk {s : State} {late : SlotId → Prop} (h : MarksOk late s) (id : MissId) :
    MarksOk late (s.offer id) := by
  obtain ⟨r, -, -, heq⟩ | ⟨-, heq⟩ := s.offer_cases id
  · rw [heq]
    refine marksOk_eq h (by simp) (fun k => ?_) (by simpa using h.2.2)
    simp [State.marked, parkMarked_map (joinMiss_marks id r.ctx r.page)]
  · rw [heq]; exact h

theorem State.offerAll_marksOk {s : State} {late : SlotId → Prop} (h : MarksOk late s) (ids : List MissId) :
    MarksOk late (s.offerAll ids) :=
  List.foldlRecOn (motive := MarksOk late) _ State.offer h fun _ h id _ => State.offer_marksOk h id

/-! ## PURGE -/

theorem addMark_contains (k j : SlotId) (m : List SlotId) : (addMark k m).contains j = (j == k || m.contains j) := by
  rw [Bool.eq_iff_iff, List.contains_iff_mem, addMark, List.mem_filter]
  simp [List.mem_finRange]

theorem ParkRecord.markedBy_carries {pat : Pattern} {k j : SlotId} {r : ParkRecord} :
    (r.markedBy pat k).marks.contains j = true →  r.marks.contains j = true ∨ j = k := by
  unfold ParkRecord.markedBy
  split
  · next x m hs =>
    split
    · intro h
      rw [ParkRecord.marks_of_ready rfl, addMark_contains, Bool.or_eq_true, beq_iff_eq] at h
      rw [ParkRecord.marks_of_ready hs]
      exact h.symm
    · exact .inl
  · exact .inl
  · exact .inl

theorem ParkRecord.markedBy_keeps {pat : Pattern} {k j : SlotId} {r : ParkRecord} (h : r.marks.contains j = true) :
    (r.markedBy pat k).marks.contains j = true := by
  unfold ParkRecord.markedBy
  split
  · next x m hs =>
    split
    · rw [ParkRecord.marks_of_ready hs] at h
      rw [ParkRecord.marks_of_ready rfl, addMark_contains, h, Bool.or_true]
    · exact h
  · exact h
  · exact h

theorem OutEntry.markedBy_carries {pat : Pattern} {k j : SlotId} {o : OutEntry} :
    (o.markedBy pat k).carries j = true → o.carries j = true ∨ j = k := by
  unfold OutEntry.markedBy
  split
  · simp only [OutEntry.carries, addMark_contains, Bool.and_eq_true, Bool.or_eq_true, beq_iff_eq]
    rintro ⟨hw, h | h⟩
    · exact .inr h
    · exact .inl ⟨hw, h⟩
  · exact .inl

theorem OutEntry.markedBy_keeps {pat : Pattern} {k j : SlotId} {o : OutEntry} (h : o.carries j = true) :
    (o.markedBy pat k).carries j = true := by
  unfold OutEntry.markedBy
  split
  · simp only [OutEntry.carries, addMark_contains, Bool.and_eq_true, Bool.or_eq_true] at h ⊢
    exact ⟨h.1, .inr h.2⟩
  · exact h

theorem State.applyPurge_marked_of {s : State} {pat : Pattern} {ip : Bool} {q : Byte} {k j : SlotId}
    (h : (s.applyPurge pat ip q k).marked j = true) : s.marked j = true ∨ j = k := by
  rw [State.marked, State.applyPurge_park, State.applyPurge_outs, Bool.or_eq_true] at h
  rw [State.marked, Bool.or_eq_true]
  rcases h with h | h
  · obtain ⟨q, hr, hc⟩ := List.any_eq_true.mp h
    obtain ⟨r, hmem, rfl⟩ := List.mem_map.mp hr
    exact (ParkRecord.markedBy_carries hc).imp_left fun hc => .inl (List.any_eq_true.mpr ⟨r, hmem, hc⟩)
  · obtain ⟨g, e, hg, hc⟩ := anyEntry_iff.mp h
    rw [getElem_map_fin] at hg
    obtain ⟨o, ho, rfl⟩ := Option.map_eq_some_iff.mp hg
    exact (OutEntry.markedBy_carries hc).imp_left fun hc => .inr (anyEntry_iff.mpr ⟨g, o, ho, hc⟩)

theorem State.applyPurge_marked_keeps {s : State} {pat : Pattern} {ip : Bool} {q : Byte} {k j : SlotId}
    (h : s.marked j = true) : (s.applyPurge pat ip q k).marked j = true := by
  unfold State.marked at *
  rw [Bool.or_eq_true] at *
  rcases h with h | h
  · obtain ⟨r, hr, hc⟩ := List.any_eq_true.mp h
    exact .inl (List.any_eq_true.mpr ⟨_, List.mem_map_of_mem hr, ParkRecord.markedBy_keeps hc⟩)
  · obtain ⟨g, o, hg, hc⟩ := anyEntry_iff.mp h
    refine .inr (anyEntry_iff.mpr ⟨g, o.markedBy pat k, ?_, OutEntry.markedBy_keeps hc⟩)
    simp only [State.applyPurge_outs]
    rw [getElem_map_fin, hg, Option.map_some]

theorem State.freeSlot_some {s : State} {k : SlotId} (h : s.freeSlot = some k) : s.slots[k] = none := by
  unfold State.freeSlot at h
  have := List.find?_some h
  exact Option.isNone_iff_eq_none.mp this

theorem State.applyPurge_marksOk {s : State} (h : MarksOk noSlot s) (pat : Pattern) (ip : Bool) (q : Byte) (k : SlotId) :
    MarksOk (fun j => j = k ∨ noSlot j) (s.applyPurge pat ip q k) := by
  obtain ⟨h1, h2, he⟩ := h
  refine ⟨fun j hj => ?_, fun j hn hj => ?_, ?_⟩
  · rw [State.applyPurge_slots, getElem_set_fin]
    split
    · rfl
    · next hne => exact h1 j ((State.applyPurge_marked_of hj).resolve_right (Ne.symm hne))
  · rw [State.applyPurge_slots, getElem_set_fin, if_neg fun hk => hn (.inl hk.symm)] at hj
    exact State.applyPurge_marked_keeps (h2 j id hj)
  · rw [State.applyPurge_outs]
    refine BareExpired.map fun g o hg hx => ?_
    unfold OutEntry.markedBy at hx ⊢
    split at hx
    · next hw => rw [hw.1] at hx; cases hx
    · next hw => rw [if_neg hw]; exact he g o hg hx

theorem runPurge_marksOk {s : State} (h : MarksOk noSlot s) (f : Frame) (a : Pattern × Bool) :
    MarksOk noSlot (runPurge f a s) := by
  unfold runPurge
  split
  · exact marksOk_same h (by simp) (by simp) (by simp)
  · next k _ =>
    exact State.completeSlot_marksOk (marksOk_same (State.applyPurge_marksOk h a.1 a.2 f.hdr.seq k) (State.ack_park ..)
      (State.ack_outs ..) (State.ack_slots ..))

/-! ## Near arrivals -/

theorem State.parkRequest_marksOk {s : State} (h : MarksOk noSlot s) (r : Request) {st : ParkState}
    (hst : (parkedAs r st).marks = []) : MarksOk noSlot (s.parkRequest r st) :=
  marksOk_eq h rfl (fun k => by simp [State.marked, State.parkRequest, parkMarked, hst]) h.2.2

theorem Admission.marksOk {s t : State} {r : Request} (ha : Admission s r t) (h : MarksOk noSlot s) :
    MarksOk noSlot t := by
  have hit (w : WayId) : MarksOk noSlot (s.hitBy r w) := h
  cases ha with
  | declined hd => rw [hd.frame]; exact h
  | hitDeclined w hd => rw [hd.frame]; exact h
  | forwardPost w x =>
    exact marksOk_same (hit w) (State.sendFar_park ..) (State.sendFar_outs ..) (State.sendFar_slots ..)
  | forwardRequest w x g _ _ free =>
    refine marksOk_eq (hit w) (State.sendFar_slots ..) (fun k => ?_) ?_
    · simp only [State.marked, State.forwardRequest, State.sendFar_park, State.sendFar_outs]
      refine congrArg _ ((anyEntry_take (State.freeTag_some free) _ _).trans ?_)
      simp only [OutEntry.carries, newOutEntry, List.contains_nil, Bool.and_false, Bool.or_false]
      rfl
    · rw [State.forwardRequest, State.sendFar_outs]
      exact h.2.2.set g fun e he hx => by cases he; cases hx
  | parkedReady w x => exact State.parkRequest_marksOk (hit w) r rfl
  | joined id => exact State.parkRequest_marksOk h r rfl
  | joinedUnnoticed => exact State.parkRequest_marksOk h r rfl
  | allocated id =>
    exact marksOk_same (State.parkRequest_marksOk h r (st := .waiting id) rfl) (by simp) (by simp) (by simp)
  | exhausted c => exact State.parkRequest_marksOk h r (st := .unnoticed) rfl

theorem State.takeFence_marksOk {s : State} (h : MarksOk noSlot s) (a : Agent) (g : NearTag) :
    MarksOk noSlot (s.takeFence a g) := by
  have hrec (r : ParkRecord) : (r.heldFor a).marks = r.marks := by
    unfold ParkRecord.heldFor
    split <;> rfl
  have hent (k : SlotId) (o : OutEntry) : (o.heldFor a).carries k = o.carries k := by
    unfold OutEntry.heldFor
    split <;> rfl
  unfold State.takeFence
  split
  · exact marksOk_same h (by simp) (by simp) (by simp)
  · split
    · refine marksOk_eq h rfl (fun k => ?_) (BareExpired.map fun g o hg hx => ?_)
      · simp only [State.marked, parkMarked_map hrec, anyEntry_map (hent k)]
      · unfold OutEntry.heldFor at hx ⊢
        split at hx
        · next hl => simp [OutEntry.live, show o.phase = .expired from hx] at hl
        · next hl => rw [if_neg hl]; exact h.2.2 g o hg hx
    · exact marksOk_same h (by simp) (by simp) (by simp)

theorem marksOk_restarted (s : State) (n m : NodeId) (powered : Bool) : MarksOk noSlot (s.restarted n m powered) := by
  refine marksOk_none (fun k => by simp [State.restarted, State.powerOn]) (fun k => ?_) fun g o hg => ?_
  · simp [State.marked, State.restarted, State.powerOn, parkMarked, anyEntry, Vector.toList_replicate]
  · simp [State.restarted, State.powerOn] at hg

theorem NearDeed.marksOk {s t : State} (hd : NearDeed s t) (h : MarksOk noSlot s) : MarksOk noSlot t := by
  cases hd with
  | idle => exact h
  | recorded w => exact marksOk_same h (by simp) (by simp) (by simp)
  | malformed a g k d w => exact marksOk_same h (by simp) (by simp) (by simp)
  | accepted r fits fresh =>
    obtain hd | ⟨-, -, -, -, ha⟩ := s.accept_cases r
    · rw [hd.frame]; exact h
    · exact ha.marksOk h
  | fenceBusy a g => exact marksOk_same h (by simp) (by simp) (by simp)
  | fenceTaken a g => exact State.takeFence_marksOk h a g
  | nearDown =>
    have hent (k : SlotId) (o : OutEntry) : o.orphaned.carries k = o.carries k := by
      unfold OutEntry.orphaned
      split <;> rfl
    have lost : MarksOk anySlot s.nearLost := by
      refine marksOk_fewer h rfl (fun k hk => ?_) (BareExpired.map fun g o hg hx => ?_)
      · simp only [State.marked, State.nearLost, anyEntry_map (hent k)] at hk
        rw [State.marked, Bool.or_eq_true]
        exact .inr hk
      · unfold OutEntry.orphaned at hx ⊢
        split at hx
        · next hl => simp [OutEntry.live, show o.phase = .expired from hx] at hl
        · next hl => rw [if_neg hl]; exact h.2.2 g o hg hx
    exact marksOk_same (State.completeSlots_marksOk lost) (by simp) (by simp) (by simp)
  | nearSent => exact h
  | restarted n m powered => exact marksOk_restarted s n m powered

/-! ## The other commands -/

theorem bareExpired_none {v : Vector (Option OutEntry) 128} (h : ∀ g : BridgeTag, v[g] = none) : BareExpired v :=
  fun g o hg => by rw [h g] at hg; cases hg

theorem anyEntry_false {p : OutEntry → Bool} {v : Vector (Option OutEntry) 128}
    (h : ∀ (g : BridgeTag) (o : OutEntry), v[g] = some o → p o = false) : anyEntry p v = false := by
  refine Bool.eq_false_iff.mpr fun ht => ?_
  obtain ⟨g, o, hg, ho⟩ := anyEntry_iff.mp ht
  rw [h g o hg] at ho
  cases ho

theorem runResetBridge_marksOk {s : State} (h : MarksOk noSlot s) (f : Frame) : MarksOk noSlot (runResetBridge f () s) := by
  have bare (g : BridgeTag) (o : OutEntry) (hg : (runResetBridge f () s).outs[g] = some o) :
      o.phase = .expired ∧ o.marks = [] ∧ o.held = false := by
    simp only [runResetBridge, State.makeFault_outs, State.resetTables, State.refuseAborted_outs, State.ack_outs] at hg
    rw [getElem_map_fin] at hg
    obtain ⟨e, he, rfl⟩ := Option.map_eq_some_iff.mp hg
    unfold OutEntry.afterReset
    split
    · exact ⟨rfl, rfl, rfl⟩
    · next expired => exact ⟨expired, h.2.2 g e he expired⟩
  refine marksOk_none (fun k => by simp [runResetBridge]) (fun k => ?_) fun g o hg _ => (bare g o hg).2
  rw [State.marked, anyEntry_false fun g o hg => by simp [OutEntry.carries, (bare g o hg).1]]
  simp [runResetBridge, parkMarked]

theorem closeCleared_marksOk {s : State} (h : MarksOk noSlot s) (f : Frame) (c : Ctx) : MarksOk anySlot (closeCleared f c s) := by
  have hpark : (closeCleared f c s).park = s.park.filter fun r => !(r.ctx == c) := by
    rw [closeCleared, State.freeMisses_park, State.sweep_refuse_park]
    rfl
  have houts : (closeCleared f c s).outs = s.outs := by simp [closeCleared, closeInvalidated]
  refine marksOk_fewer h (by simp [closeCleared, closeInvalidated]) (fun k hk => ?_) (houts ▸ h.2.2)
  rw [State.marked, Bool.or_eq_true, hpark, houts] at hk
  rw [State.marked, Bool.or_eq_true]
  refine hk.imp_left fun hk => ?_
  obtain ⟨r, hr, hc⟩ := List.any_eq_true.mp hk
  exact List.any_eq_true.mpr ⟨r, List.mem_of_mem_filter hr, hc⟩

theorem farDown_marksOk (s : State) : MarksOk noSlot (({ s with far := s.far.lost }.sweep
    (refuseFate ParkRecord.isReady .link 0)).clearEntries).farDrained := by
  generalize hv : { s with far := s.far.lost }.sweep (refuseFate ParkRecord.isReady .link 0) = v
  have hpark : v.park = s.park.filter fun r => !r.isReady := by rw [← hv, State.sweep_refuse_park]
  have houts (g : BridgeTag) : v.clearEntries.farDrained.outs[g] = none := by
    rw [State.farDrained_outs]
    exact v.clearEntries_outs g
  refine marksOk_none (fun k => by simp) (fun k => ?_) (bareExpired_none houts)
  rw [State.marked, anyEntry_false fun g o hg => (by rw [houts] at hg; cases hg), State.farDrained_park,
    State.clearEntries_park, hpark, Bool.or_false, parkMarked, List.any_eq_false]
  intro r hr
  rw [ParkRecord.marks_of_unready (by simpa using (List.mem_filter.mp hr).2)]
  simp

theorem Deed.marksOk {s t : State} (hd : Deed s t) (h : MarksOk noSlot s) : MarksOk noSlot t := by
  have same {u v : State} (h : MarksOk noSlot u) (hp : v.park = u.park) (ho : v.outs = u.outs)
      (hs : v.slots = u.slots) : MarksOk noSlot v := marksOk_same h hp ho hs
  have drained {u : State} (h : MarksOk noSlot u) : MarksOk noSlot u.judgeDrain := same h (by simp) (by simp) (by simp)
  have faulted {u : State} (h : MarksOk noSlot u) (w : FaultBody) : MarksOk noSlot (u.makeFault w) :=
    same h (by simp) (by simp) (by simp)
  have acked {u : State} (h : MarksOk noSlot u) (f : Frame) (l : List Byte) : MarksOk noSlot (u.ack f l) :=
    same h (by simp) (by simp) (by simp)
  cases hd with
  | idle => exact h
  | recorded w => exact faulted h w
  | farAnswer f small => exact same h (by simp) (by simp) (by simp)
  | resent l stored => exact same h (by simp) (by simp) (by simp)
  | responseTaken g o code body entry waiting =>
    unfold State.takeResponse
    dsimp only
    exact State.afterEntry_marksOk (marksOk_entryEnds (g := g) h (o' := none) (fun _ he => by cases he) (by simp) (by simp)
      (by simp)) o
  | expiredEnds g o entry expired =>
    have ended : MarksOk noSlot (s.setOut g none) := by
      refine marksOk_eq h rfl (fun k => ?_) (h.2.2.set g fun _ he => by cases he)
      rw [State.marked, State.setOut_outs, anyEntry_drop entry (by simp [OutEntry.carries, expired])]
      rfl
    exact drained (State.runArbiter_marksOk ended)
  | replied f kind body small => exact same h (by simp) (by simp) (by simp)
  | countersCleared f kind body small => exact same h (by simp) (by simp) (by simp)
  | filled f a w up valid judged =>
    rw [fillWritten_eq]
    have cleared : MarksOk noSlot (fillCleared s a w) :=
      same (State.sweep_release_marksOk (s := fillInstalled s a w) h a.entry) (State.freeMisses_park ..)
        (State.freeMisses_outs ..) (State.freeMisses_slots ..)
    have recorded : MarksOk noSlot (fillRecorded f a w s) :=
      same (State.offerAll_marksOk (acked cleared f (fillFields s a w)) (s.missesMatched a.entry)) (State.makeFaults_park ..)
        (State.makeFaults_outs ..) (State.makeFaults_slots ..)
    exact drained (State.runArbiter_marksOk recorded)
  | denied f id d n m w live =>
    exact drained (faulted (State.offer_marksOk (acked (State.endMiss_marksOk h id .noTranslation d) f [n]) id) w)
  | pinned f a =>
    unfold runPin
    dsimp only
    split
    · exact same h (by simp) (by simp) (by simp)
    · split <;> exact same h (by simp) (by simp) (by simp)
  | purged f a => exact runPurge_marksOk h f a
  | contextOpened f a =>
    unfold runOpenContext
    dsimp only
    split <;> exact same h (by simp) (by simp) (by simp)
  | contextClosed f c opened =>
    rw [closeOpen_eq]
    have acked : MarksOk anySlot ((closeCleared f c s).ack f (closeFields s c)) :=
      marksOk_same (closeCleared_marksOk h f c) (by simp) (by simp) (by simp)
    have offered : MarksOk noSlot (closeOffered f c s) :=
      State.completeSlots_marksOk (State.offerAll_marksOk acked (s.missesOf c))
    have recorded : MarksOk noSlot (closeRecorded f c s) :=
      same offered (by simp [closeRecorded]) (by simp [closeRecorded]) (by simp [closeRecorded])
    exact drained (State.runArbiter_marksOk recorded)
  | quiesceTaken f =>
    unfold runQuiesce
    split <;> exact same h (by simp) (by simp) (by simp)
  | resumeTaken f => exact same h (by simp [runResume]) (by simp [runResume]) (by simp [runResume])
  | paramSet f a range => exact same h (by simp [runSetParam]) (by simp [runSetParam]) (by simp [runSetParam])
  | faultsCleared f => exact same h (by simp [runClearFaults]) (by simp [runClearFaults]) (by simp [runClearFaults])
  | handedOver f n =>
    unfold runHandover
    split <;> exact same h (by simp) (by simp) (by simp)
  | bridgeReset f => exact runResetBridge_marksOk h f
  | missExpired id m w live =>
    exact drained (faulted (State.offer_marksOk (State.endMiss_marksOk h id .missTimeout 0) id) w)
  | copySent id m next live due => exact same h (by simp) (by simp) (by simp)
  | responseExpired g o entry waiting =>
    exact State.afterEntry_marksOk (marksOk_entryEnds (g := g) h (o' := some o.timedOut)
      (fun _ he => by cases he; exact ⟨rfl, rfl⟩) (by simp) (by simp) (by simp)) o
  | farDown => exact drained (faulted (farDown_marksOk s) (farDownFault s))
  | nearUp powered => exact h
  | farUp powered => exact h
  | farSent => exact h
  | headForwarded u leaves => exact drained (State.forwardHead_marksOk leaves h)
  | missOffered id => exact State.offer_marksOk h id
  | fenceJudged a => exact same h (by simp) (by simp) (by simp)
  | slotJudged k =>
    exact State.completeSlot_marksOk ⟨h.1, fun j _ => h.2.1 j id, h.2.2⟩
  | closeJudged c => exact same h (by simp) (by simp) (by simp)
  | drainJudged => exact drained h

/-- Settles O57: whatever takes a carrier away judges the slots, and PURGE its own. -/
theorem purgeLawsKept : Obligations.PurgeLawsKept :=
  step_keeps (fun _ _ h => h) (fun _ _ h => h) (fun _ _ _ h => h)
    (fun _ _ hd h => purgeLaws_iff.mpr (hd.marksOk (purgeLaws_iff.mp h)))
    fun _ _ hd h => purgeLaws_iff.mpr (hd.marksOk (purgeLaws_iff.mp h))

end Sys2Proof.Machine
end

section
/-! PROOF. The laws of the contexts (O58): a CLOSED context carries nothing, a CLOSING one only WAITING entries, and at
least one (R117, R122 to R126). -/

namespace Sys2Proof.Machine

open Sys2Proof.Safety

/-! ## Invalidation -/

theorem CacheSet.drop_ways (named : Entry → Bool) (t : CacheSet) (v w : WayId) :
    (t.drop named v).ways[w] =
      if v = w ∧ (t.ways[w].valid && named t.ways[w]) = true then t.ways[w].invalidated else t.ways[w] := by
  by_cases h : (t.ways[v].valid && named t.ways[v]) = true
  · have hset : (t.ways.set v t.ways[v].invalidated)[w] = if v = w then t.ways[v].invalidated else t.ways[w] :=
      getElem_set_fin ..
    have hdrop : t.drop named v = { ways := t.ways.set v t.ways[v].invalidated, order := moveBack v t.order } := if_pos h
    rw [hdrop]
    refine hset.trans ?_
    by_cases hv : v = w
    · subst hv; rw [if_pos rfl, if_pos ⟨rfl, h⟩]
    · rw [if_neg hv, if_neg fun hc => hv hc.1]
  · have hdrop : t.drop named v = t := if_neg h
    rw [hdrop, if_neg]
    rintro ⟨rfl, hc⟩
    exact h hc

/-- What an invalidation does with each way of a set (R3, R13). -/
theorem CacheSet.dropAll_ways (named : Entry → Bool) (t : CacheSet) (w : WayId) :
    (t.dropAll named).ways[w] =
      if (t.ways[w].valid && named t.ways[w]) = true then t.ways[w].invalidated else t.ways[w] := by
  have main : ∀ (l : List WayId) (t : CacheSet), (l.foldl (CacheSet.drop named) t).ways[w] =
      if w ∈ l ∧ (t.ways[w].valid && named t.ways[w]) = true then t.ways[w].invalidated else t.ways[w] := by
    intro l
    induction l with
    | nil => intro t; simp only [List.foldl_nil, List.not_mem_nil, false_and, if_false]
    | cons v l ih =>
      intro t
      rw [List.foldl_cons, ih, CacheSet.drop_ways]
      by_cases hv : v = w ∧ (t.ways[w].valid && named t.ways[w]) = true
      · have hgone : ¬(w ∈ l ∧ (t.ways[w].invalidated.valid && named t.ways[w].invalidated) = true) :=
          fun hc => by cases hc.2
        have hmem : w ∈ v :: l := by rw [hv.1]; exact List.mem_cons_self
        rw [if_pos hv, if_neg hgone, if_pos ⟨hmem, hv.2⟩]
      · rw [if_neg hv]
        refine if_congr ?_ rfl rfl
        simp only [List.mem_cons]
        constructor
        · exact fun ⟨hl, hc⟩ => ⟨.inr hl, hc⟩
        · rintro ⟨rfl | hl, hc⟩
          · exact absurd ⟨rfl, hc⟩ hv
          · exact ⟨hl, hc⟩
  refine (main _ t).trans (if_congr ?_ rfl rfl)
  simp only [List.mem_finRange, true_and]

/-- Every valid way of the second cache was valid with the same scope in the first. -/
def ScopesFrom (v u : Vector CacheSet 64) : Prop :=
  ∀ (t : SetId) (w : WayId), u[t].ways[w].valid = true → v[t].ways[w].valid = true ∧ v[t].ways[w].scope = u[t].ways[w].scope

theorem ScopesFrom.refl (c : Vector CacheSet 64) : ScopesFrom c c := fun _ _ h => ⟨h, rfl⟩

theorem scopesFrom_invalidate (named : Entry → Bool) (c : Vector CacheSet 64) : ScopesFrom c (invalidateCache named c) := by
  intro t w h
  rw [invalidateCache, getElem_map_fin, CacheSet.dropAll_ways] at *
  split at h
  · cases h
  · next hn => rw [if_neg hn]; exact ⟨h, rfl⟩

theorem scopesFrom_purged (pat : Pattern) (ip : Bool) (c : Vector CacheSet 64) : ScopesFrom c (purgedCache pat ip c) := by
  unfold purgedCache
  split
  · intro t w h
    rw [getElem_map_fin, CacheSet.emptied, getElem_map_fin] at *
    split at h
    · cases h
    · next hn => exact absurd h hn
  · exact scopesFrom_invalidate _ c

theorem scopesFrom_set {v : Vector CacheSet 64} {i : SetId} {s : CacheSet}
    (h : ∀ w : WayId, s.ways[w].valid = true → v[i].ways[w].valid = true ∧ v[i].ways[w].scope = s.ways[w].scope) :
    ScopesFrom v (v.set i s) := by
  intro t w hw
  rw [getElem_set_fin] at *
  split at hw
  · next hi => subst hi; rw [if_pos rfl]; exact h w hw
  · next hi => rw [if_neg hi]; exact ⟨hw, rfl⟩

/-! ## The laws -/

/-- No non-global entry, no park record and no active miss is of the context. -/
def CtxEmpty (s : State) (c : Ctx) : Prop :=
  (∀ (t : SetId) (w : WayId), s.cache[t].ways[w].valid = true → s.cache[t].ways[w].scope ≠ .context c) ∧
    (∀ r ∈ s.park, r.ctx ≠ c) ∧ ∀ (id : MissId) (m : Miss), s.misses[id].active = some m → m.ctx ≠ c

/-- The laws of the contexts, while some CLOSING contexts may have nothing WAITING. -/
def CtxOk (late : Ctx → Prop) (s : State) : Prop :=
  ∀ c : Ctx, (s.ctxs[c].state ≠ .opened → CtxEmpty s c) ∧ (s.ctxs[c].state = .closed → s.ctxWaits c = false) ∧
    (¬late c → ∀ q, s.ctxs[c].state = .closing q → s.ctxWaits c = true)

/-- No context is late. -/
def noCtx : Ctx → Prop := fun _ => False

/-- Every context may be late. -/
def anyCtx : Ctx → Prop := fun _ => True

theorem contextLaws_iff {s : State} : ContextLaws s ↔ CtxOk noCtx s := by
  constructor
  · rintro ⟨hclosed, hclosing⟩ c
    refine ⟨fun hno => ?_, fun hc => ?_, fun _ q hq => ?_⟩
    · cases hs : s.ctxs[c].state with
      | opened => exact absurd hs hno
      | closed => obtain ⟨he, hp, hm, -⟩ := hclosed c hs; exact ⟨he, hp, hm⟩
      | closing q => obtain ⟨he, hp, hm, -⟩ := hclosing c q hs; exact ⟨he, hp, hm⟩
    · obtain ⟨-, -, -, hw⟩ := hclosed c hc; exact hw
    · obtain ⟨-, -, -, hw⟩ := hclosing c q hq; exact hw
  · intro h
    refine ⟨fun c hc => ?_, fun c q hq => ?_⟩
    · obtain ⟨hno, hcl, -⟩ := h c
      obtain ⟨he, hp, hm⟩ := hno (by rw [hc]; exact fun hx => by cases hx)
      exact ⟨he, hp, hm, hcl hc⟩
    · obtain ⟨hno, -, hcl⟩ := h c
      obtain ⟨he, hp, hm⟩ := hno (by rw [hq]; exact fun hx => by cases hx)
      exact ⟨he, hp, hm, hcl id q hq⟩

/-- Work may come to OPEN contexts only, and a CLOSING one that is not late keeps something WAITING. -/
theorem ctxOk_carry {late late' : Ctx → Prop} {s t : State} (h : CtxOk late s) (hc : t.ctxs = s.ctxs)
    (he : ∀ c, s.ctxs[c].state ≠ .opened → CtxEmpty s c → CtxEmpty t c)
    (hless : ∀ c, s.ctxs[c].state ≠ .opened → t.ctxWaits c = true → s.ctxWaits c = true)
    (hmore : ∀ c, ¬late' c → ¬late c ∧ (s.ctxWaits c = true → t.ctxWaits c = true)) : CtxOk late' t := by
  intro c
  obtain ⟨hno, hclosed, hclosing⟩ := h c
  rw [hc]
  refine ⟨fun hs => he c hs (hno hs), fun hs => ?_, fun hn q hq => ?_⟩
  · refine Bool.eq_false_iff.mpr fun hw => ?_
    have := hless c (by rw [hs]; exact fun hx => by cases hx) hw
    rw [hclosed hs] at this
    cases this
  · obtain ⟨hnl, hkeep⟩ := hmore c hn
    exact hkeep (hclosing hnl q hq)

/-- Fewer entries, records and misses. -/
theorem ctxEmpty_fewer {s t : State} {c : Ctx} (he : ScopesFrom s.cache t.cache)
    (hp : ∀ r ∈ t.park, ∃ q ∈ s.park, q.ctx = r.ctx)
    (hm : ∀ (id : MissId) (m : Miss), t.misses[id].active = some m → ∃ (j : MissId) (n : Miss), s.misses[j].active = some n ∧ n.ctx = m.ctx)
    (h : CtxEmpty s c) : CtxEmpty t c := by
  obtain ⟨h1, h2, h3⟩ := h
  refine ⟨fun i w hv hs => ?_, fun r hr hc => ?_, fun id m hid hc => ?_⟩
  · obtain ⟨hv', hs'⟩ := he i w hv
    exact h1 i w hv' (hs'.trans hs)
  · obtain ⟨q, hq, hqc⟩ := hp r hr
    exact h2 q hq (hqc.trans hc)
  · obtain ⟨j, n, hn, hnc⟩ := hm id m hid
    exact h3 j n hn (hnc.trans hc)

/-- The work of a state, apart from the outstanding table, is that of another. -/
theorem ctxOk_work {late : Ctx → Prop} {s t : State} (h : CtxOk late s) (hc : t.ctxs = s.ctxs)
    (he : ∀ c, s.ctxs[c].state ≠ .opened → CtxEmpty s c → CtxEmpty t c) (ho : ∀ c, t.ctxWaits c = s.ctxWaits c) :
    CtxOk late t :=
  ctxOk_carry h hc he (fun c _ hw => ho c ▸ hw) fun c hn => ⟨hn, fun hw => (ho c).trans hw⟩

theorem ctxWaits_eq (s : State) (c : Ctx) :
    s.ctxWaits c = anyEntry (fun e => e.phase == .waiting && e.ctx == c) s.outs :=
  rfl

theorem ctxWaits_same {s t : State} (ho : t.outs = s.outs) (c : Ctx) : t.ctxWaits c = s.ctxWaits c := by
  rw [ctxWaits_eq, ctxWaits_eq, ho]

theorem ctxOk_same {late : Ctx → Prop} {s t : State} (h : CtxOk late s) (hk : t.cache = s.cache) (hp : t.park = s.park)
    (hm : t.misses = s.misses) (ho : t.outs = s.outs) (hc : t.ctxs = s.ctxs) : CtxOk late t :=
  ctxOk_work h hc (fun c _ => by unfold CtxEmpty; rw [hk, hp, hm]; exact id) (ctxWaits_same ho)

/-! ## Completion (R126) -/

theorem State.completeClose_waits (s : State) (c d : Ctx) : (s.completeClose c).ctxWaits d = s.ctxWaits d :=
  ctxWaits_same (State.completeClose_outs s c) d

theorem State.completeClose_ctxs_get (s : State) (c d : Ctx) :
    (s.completeClose c).ctxs[d] =
      match s.ctxs[d].state with
      | .closing _ => if c = d ∧ s.ctxWaits d = false then { s.ctxs[d] with state := .closed } else s.ctxs[d]
      | _ => s.ctxs[d] := by
  have hset : (s.ctxs.set c { s.ctxs[c] with state := .closed })[d] =
      if c = d then { s.ctxs[c] with state := .closed } else s.ctxs[d] := getElem_set_fin ..
  have hother (hne : c ≠ d) : (s.completeClose c).ctxs[d] = s.ctxs[d] := by
    unfold State.completeClose
    split
    · by_cases hw : s.ctxWaits c = true
      · simp only [if_pos hw]
      · simp only [if_neg hw, State.notice_ctxs]
        exact hset.trans (if_neg hne)
    · rfl
  by_cases hcd : c = d
  · subst hcd
    unfold State.completeClose
    cases hs : s.ctxs[c].state with
    | closed => rfl
    | opened => rfl
    | closing q =>
      cases hw : s.ctxWaits c with
      | true => simp
      | false =>
        simp only [Bool.false_eq_true, if_false, State.notice_ctxs, and_self, if_true]
        exact hset.trans (if_pos rfl)
  · rw [hother hcd]
    split
    · rw [if_neg fun h => hcd h.1]
    · rfl

/-- A CLOSING context is CLOSED after its completion, or something of it is WAITING. -/
theorem State.completeClose_ctxOk {s : State} {late : Ctx → Prop} {c : Ctx} (h : CtxOk (fun d => d = c ∨ late d) s) :
    CtxOk late (s.completeClose c) := by
  intro d
  obtain ⟨hno, hclosed, hclosing⟩ := h d
  have hempty : CtxEmpty s d → CtxEmpty (s.completeClose c) d := by
    unfold CtxEmpty
    rw [State.completeClose_cache, State.completeClose_park, State.completeClose_misses]
    exact id
  rw [State.completeClose_waits, State.completeClose_ctxs_get]
  have hopen {q : Byte} (hs : s.ctxs[d].state = .closing q) : s.ctxs[d].state ≠ .opened := by
    rw [hs]; exact fun hx => by cases hx
  split
  · next q hs =>
    split
    · next hw => exact ⟨fun _ => hempty (hno (hopen hs)), fun _ => hw.2, fun _ q' hq => by cases hq⟩
    · next hw =>
      refine ⟨fun hx => hempty (hno hx), hclosed, fun hn q' hq => ?_⟩
      by_cases hdc : d = c
      · subst hdc
        simpa using hw
      · exact hclosing (fun hl => hl.elim hdc hn) q' hq
  · next hs => exact ⟨fun hx => hempty (hno hx), hclosed, fun _ q hq => absurd hq (hs q)⟩

theorem State.completeCloses_ctxOk {s : State} (h : CtxOk anyCtx s) : CtxOk noCtx s.completeCloses := by
  have main : ∀ (l : List Ctx) (u : State), CtxOk (fun d => d ∈ l) u → CtxOk noCtx (l.foldl State.completeClose u) := by
    intro l
    induction l with
    | nil => exact fun u hu c => ⟨(hu c).1, (hu c).2.1, fun _ => (hu c).2.2 (by simp)⟩
    | cons k l ih =>
      refine fun u hu => ih _ (State.completeClose_ctxOk fun c => ⟨(hu c).1, (hu c).2.1, fun hn => (hu c).2.2 ?_⟩)
      simpa using hn
  exact main _ s fun c => ⟨(h c).1, (h c).2.1, fun hn => absurd (List.mem_finRange c) hn⟩

/-! ## The operations -/

/-- Park records taken away, or changed within their context. -/
theorem ctxOk_park {late : Ctx → Prop} {s t : State} (h : CtxOk late s) (hp : ∀ r ∈ t.park, ∃ q ∈ s.park, q.ctx = r.ctx)
    (hk : t.cache = s.cache) (hm : t.misses = s.misses) (ho : t.outs = s.outs) (hc : t.ctxs = s.ctxs) : CtxOk late t :=
  ctxOk_work h hc (fun _ _ => ctxEmpty_fewer (by rw [hk]; exact .refl _) hp fun id m hid => ⟨id, m, by rw [← hm]; exact hid, rfl⟩)
    (ctxWaits_same ho)

theorem park_subset_ctx {l k : List ParkRecord} (h : k ⊆ l) : ∀ r ∈ k, ∃ q ∈ l, q.ctx = r.ctx :=
  fun r hr => ⟨r, h hr, rfl⟩

theorem State.sweep_ctxOk {late : Ctx → Prop} {s : State} (h : CtxOk late s) {fate : ParkRecord → Fate}
    (hkeep : ∀ r q, fate r = .keep q → q.ctx = r.ctx) : CtxOk late (s.sweep fate) := by
  refine ctxOk_park h (fun r hr => ?_) (by simp) (by simp) (by simp) (by simp)
  rw [State.sweep_park] at hr
  obtain ⟨q, hq, hk⟩ := List.mem_filterMap.mp hr
  refine ⟨q, hq, ?_⟩
  unfold Fate.kept at hk
  split at hk
  · next hf => cases hk; exact (hkeep q _ hf).symm
  · cases hk

theorem freeMisses_active {s : State} {ids : List MissId} {id : MissId} {m : Miss}
    (h : (s.freeMisses ids).misses[id].active = some m) : s.misses[id].active = some m ∧ id ∉ ids := by
  rw [State.freeMisses_misses_get] at h
  split at h
  · cases h
  · next hn => exact ⟨h, hn⟩

theorem State.freeMisses_ctxOk {late : Ctx → Prop} {s : State} (h : CtxOk late s) (ids : List MissId) :
    CtxOk late (s.freeMisses ids) :=
  ctxOk_work h (State.freeMisses_ctxs ..)
    (fun _ _ => ctxEmpty_fewer (by rw [State.freeMisses_cache]; exact .refl _)
      (by rw [State.freeMisses_park]; exact fun r hr => ⟨r, hr, rfl⟩)
      fun id m hid => ⟨id, m, (freeMisses_active hid).1, rfl⟩)
    (ctxWaits_same (State.freeMisses_outs ..))

theorem State.endMiss_ctxOk {s : State} (h : CtxOk noCtx s) (id : MissId) (x : Reason) (d : Byte) :
    CtxOk noCtx (s.endMiss id x d) :=
  State.freeMisses_ctxOk (State.sweep_ctxOk h fun r q hq => by rw [refuseFate_keep hq]) [id]

/-- The context of a park record is OPEN. -/
theorem ctxOk_record_open {late : Ctx → Prop} {s : State} (h : CtxOk late s) {r : ParkRecord} (hr : r ∈ s.park) {c : Ctx}
    (hc : s.ctxs[c].state ≠ .opened) : r.ctx ≠ c :=
  ((h c).1 hc).2.1 r hr

theorem State.forwardHead_ctxOk {s u : State} (leaves : s.forwardHead = some u) (h : CtxOk noCtx s) : CtxOk noCtx u := by
  obtain ⟨before, r, x, m, behind, hpark, -, -, -, ⟨-, rfl⟩ | ⟨g, -, hfree, rfl⟩⟩ := State.forwardHead_cases leaves
  · refine ctxOk_park h ?_ (by simp) (by simp) (by simp) (by simp)
    exact park_subset_ctx (State.forwardHead_park_subset leaves)
  · have hr : r ∈ s.park := by rw [hpark]; simp
    have hwaits (c : Ctx) := anyEntry_take (State.freeTag_some hfree) (fun e => e.phase == .waiting && e.ctx == c)
      (newOutEntry s r.agent r.tag r.kind r.len r.ctx r.page x m r.held)
    refine ctxOk_carry h (State.sendFar_ctxs ..) (fun c _ => ?_) (fun c hc hw => ?_) fun c hn => ⟨hn, fun hw => ?_⟩
    · exact ctxEmpty_fewer (by rw [State.sendFar_cache]; exact .refl _)
        (park_subset_ctx (State.forwardHead_park_subset leaves))
        fun id n hid => ⟨id, n, by rwa [State.sendFar_misses] at hid, rfl⟩
    · rw [ctxWaits_eq, State.sendFar_outs, hwaits, Bool.or_eq_true] at hw
      refine hw.resolve_right fun hx => ctxOk_record_open h hr hc ?_
      simpa [newOutEntry] using hx
    · rw [ctxWaits_eq] at hw
      rw [ctxWaits_eq, State.sendFar_outs, hwaits, hw, Bool.true_or]

theorem State.runArbiter_ctxOk {s : State} (h : CtxOk noCtx s) : CtxOk noCtx s.runArbiter :=
  s.runArbiter_induct (CtxOk noCtx) (fun hl => State.forwardHead_ctxOk hl) h

/-- A miss allocated to an OPEN context. -/
theorem State.allocMiss_ctxOk {late : Ctx → Prop} {s : State} (h : CtxOk late s) (id : MissId) {c : Ctx}
    (hc : s.ctxs[c].state = .opened) (p : Page) (x : Access) (m : Mode) : CtxOk late (s.allocMiss id c p x m) := by
  refine ctxOk_work h (State.allocMiss_ctxs ..) (fun d hd => ?_) (ctxWaits_same (State.allocMiss_outs ..))
  rintro ⟨he, hp, hm⟩
  refine ⟨by rw [State.allocMiss_cache]; exact he, by rw [State.allocMiss_park]; exact hp, fun j n hj => ?_⟩
  rw [State.allocMiss_misses, getElem_set_fin] at hj
  split at hj
  · cases hj
    rintro rfl
    exact hd hc
  · exact hm j n hj

theorem State.offer_ctxOk {late : Ctx → Prop} {s : State} (h : CtxOk late s) (id : MissId) : CtxOk late (s.offer id) := by
  obtain ⟨r, -, hr, heq⟩ | ⟨-, heq⟩ := s.offer_cases id
  · have hopen : s.ctxs[r.ctx].state = .opened := by
      refine Decidable.byContradiction fun hc => ?_
      exact ctxOk_record_open h (List.mem_of_find?_eq_some hr) hc rfl
    have joined : CtxOk late { s with park := s.park.map (joinMiss id r.ctx r.page) } := by
      refine ctxOk_park h (fun q hq => ?_) rfl rfl rfl rfl
      obtain ⟨q', hmem, rfl⟩ := List.mem_map.mp hq
      exact ⟨q', hmem, (joinMiss_fields id r.ctx r.page q').2.1.symm⟩
    rw [heq]
    exact ctxOk_same (State.allocMiss_ctxOk joined id hopen r.page (accessOf r.kind) r.mode) (by simp) (by simp) (by simp)
      (by simp) (by simp)
  · rw [heq]; exact h

theorem State.offerAll_ctxOk {late : Ctx → Prop} {s : State} (h : CtxOk late s) (ids : List MissId) :
    CtxOk late (s.offerAll ids) :=
  List.foldlRecOn (motive := CtxOk late) _ State.offer h fun _ h id _ => State.offer_ctxOk h id

/-- A WAITING entry gone, or EXPIRED: its context may be late. -/
theorem ctxOk_entryEnds {s t : State} {g : BridgeTag} (h : CtxOk noCtx s) {o' : Option OutEntry}
    (ended : ∀ e, o' = some e → e.phase = .expired) (hk : t.cache = s.cache) (hp : t.park = s.park)
    (hm : t.misses = s.misses) (ho : t.outs = s.outs.set g o') (hc : t.ctxs = s.ctxs) : CtxOk anyCtx t := by
  refine ctxOk_carry h hc (fun c _ => by unfold CtxEmpty; rw [hk, hp, hm]; exact id) (fun c _ hw => ?_)
    fun c hn => absurd trivial hn
  rw [ctxWaits_eq, ho, anyEntry_set] at hw
  rw [ctxWaits_eq, anyEntry_iff]
  rcases hw with ⟨j, e, -, hj, he⟩ | ⟨e, he, hc⟩
  · exact ⟨j, e, hj, he⟩
  · simp [ended e he] at hc

theorem State.afterEntry_ctxOk {s : State} (h : CtxOk anyCtx s) (o : OutEntry) : CtxOk noCtx (s.afterEntry o) := by
  have ended : CtxOk anyCtx (s.completeSlots.endHold o.held o.agent) :=
    ctxOk_same h (by simp) (by simp) (by simp) (by simp) (by simp)
  unfold State.afterEntry
  exact ctxOk_same (State.runArbiter_ctxOk (State.completeCloses_ctxOk ended)) (State.judgeDrain_cache _)
    (State.judgeDrain_park _) (State.judgeDrain_misses _) (State.judgeDrain_outs _) (State.judgeDrain_ctxs _)

/-! ## Near arrivals -/

/-- A record parked in an OPEN context. -/
theorem State.parkRequest_ctxOk {s : State} (h : CtxOk noCtx s) {r : Request} (opened : s.ctxs[r.ctx].state = .opened)
    (st : ParkState) : CtxOk noCtx (s.parkRequest r st) := by
  refine ctxOk_work h rfl (fun c hc => ?_) fun c => rfl
  rintro ⟨he, hp, hm⟩
  refine ⟨he, fun q hq => ?_, hm⟩
  rcases List.mem_append.mp hq with hq | hq
  · exact hp q hq
  · rw [List.mem_singleton.mp hq]
    rintro rfl
    exact hc opened

theorem State.hitBy_ctxOk {s : State} (h : CtxOk noCtx s) (r : Request) (w : WayId) : CtxOk noCtx (s.hitBy r w) :=
  ctxOk_work h rfl (fun _ _ => ctxEmpty_fewer (scopesFrom_set fun _ hv => ⟨hv, rfl⟩) (fun q hq => ⟨q, hq, rfl⟩)
    fun id m hid => ⟨id, m, hid, rfl⟩) fun _ => rfl

theorem Admission.ctxOk {s t : State} {r : Request} (ha : Admission s r t) (opened : s.ctxs[r.ctx].state = .opened)
    (h : CtxOk noCtx s) : CtxOk noCtx t := by
  have hit (w : WayId) : CtxOk noCtx (s.hitBy r w) := State.hitBy_ctxOk h r w
  cases ha with
  | declined hd => rw [hd.frame]; exact h
  | hitDeclined w hd => rw [hd.frame]; exact hit w
  | forwardPost w x =>
    exact ctxOk_same (hit w) (State.sendFar_cache ..) (State.sendFar_park ..) (State.sendFar_misses ..)
      (State.sendFar_outs ..) (State.sendFar_ctxs ..)
  | forwardRequest w x g _ _ free =>
    have hwaits (c : Ctx) := anyEntry_take (State.freeTag_some free) (fun e => e.phase == .waiting && e.ctx == c)
      (newOutEntry (s.hitBy r w) r.agent r.tag r.kind r.len r.ctx r.page x [] false)
    have houts : ((s.hitBy r w).forwardRequest r x g).outs =
        s.outs.set g (some (newOutEntry (s.hitBy r w) r.agent r.tag r.kind r.len r.ctx r.page x [] false)) :=
      State.sendFar_outs ..
    refine ctxOk_carry (hit w) (State.sendFar_ctxs ..) (fun c _ => ?_) (fun c hc hw => ?_) fun c hn => ⟨hn, fun hw => ?_⟩
    · unfold CtxEmpty
      rw [State.forwardRequest, State.sendFar_cache, State.sendFar_park, State.sendFar_misses]
      exact id
    · rw [ctxWaits_eq, houts, hwaits, Bool.or_eq_true] at hw
      refine hw.resolve_right fun hx => hc ?_
      have : r.ctx = c := by simpa [newOutEntry] using hx
      exact this ▸ opened
    · rw [ctxWaits_eq] at hw
      rw [ctxWaits_eq, houts, hwaits, Bool.or_eq_true]
      exact .inl hw
  | parkedReady w x => exact State.parkRequest_ctxOk (hit w) opened _
  | joined id => exact State.parkRequest_ctxOk h opened _
  | joinedUnnoticed => exact State.parkRequest_ctxOk h opened _
  | allocated id =>
    have parked := State.parkRequest_ctxOk h opened (.waiting id)
    exact ctxOk_same (State.allocMiss_ctxOk parked id opened r.page (accessOf r.kind) r.mode) (by simp) (by simp) (by simp)
      (by simp) (by simp)
  | exhausted c => exact State.parkRequest_ctxOk h opened .unnoticed

/-- Records and entries changed within their contexts, the entries within their phase. -/
theorem ctxOk_map {s t : State} (h : CtxOk noCtx s) {f : OutEntry → OutEntry}
    (hf : ∀ o, (f o).phase = o.phase ∧ (f o).ctx = o.ctx) (hp : ∀ r ∈ t.park, ∃ q ∈ s.park, q.ctx = r.ctx)
    (hk : ScopesFrom s.cache t.cache) (hm : t.misses = s.misses) (ho : t.outs = s.outs.map (Option.map f))
    (hc : t.ctxs = s.ctxs) : CtxOk noCtx t := by
  refine ctxOk_work h hc (fun c _ => ctxEmpty_fewer hk hp fun id m hid => ⟨id, m, by rw [← hm]; exact hid, rfl⟩) fun c => ?_
  rw [ctxWaits_eq, ctxWaits_eq, ho, anyEntry_map fun o => by rw [(hf o).1, (hf o).2]]

theorem State.takeFence_ctxOk {s : State} (h : CtxOk noCtx s) (a : Agent) (g : NearTag) : CtxOk noCtx (s.takeFence a g) := by
  have hent (o : OutEntry) : (o.heldFor a).phase = o.phase ∧ (o.heldFor a).ctx = o.ctx := by
    unfold OutEntry.heldFor
    split <;> exact ⟨rfl, rfl⟩
  unfold State.takeFence
  split
  · exact ctxOk_same h (by simp) (by simp) (by simp) (by simp) (by simp)
  · split
    · refine ctxOk_map h hent (fun r hr => ?_) (.refl _) rfl rfl rfl
      obtain ⟨q, hq, rfl⟩ := List.mem_map.mp hr
      exact ⟨q, hq, (q.heldFor_fields a).2.1.symm⟩
    · exact ctxOk_same h (by simp) (by simp) (by simp) (by simp) (by simp)

theorem ctxOk_restarted (s : State) (n m : NodeId) (powered : Bool) : CtxOk noCtx (s.restarted n m powered) := by
  intro c
  have hwaits : (s.restarted n m powered).ctxWaits c = false :=
    anyEntry_false fun g o hg => by simp [State.restarted, State.powerOn] at hg
  have hstate : (s.restarted n m powered).ctxs[c].state = .closed := by
    simp [State.restarted, State.powerOn]
  refine ⟨fun _ => ⟨fun t w hv => ?_, fun r hr => (by cases hr), fun id x hid => ?_⟩, fun _ => hwaits,
    fun _ q hq => ?_⟩
  · simp [State.restarted, State.powerOn, CacheSet.initial, Entry.initial] at hv
  · simp [State.restarted, State.powerOn] at hid
  · rw [hstate] at hq; cases hq

theorem NearDeed.ctxOk {s t : State} (hd : NearDeed s t) (h : CtxOk noCtx s) : CtxOk noCtx t := by
  cases hd with
  | idle => exact h
  | recorded w => exact ctxOk_same h (by simp) (by simp) (by simp) (by simp) (by simp)
  | malformed a g k d w => exact ctxOk_same h (by simp) (by simp) (by simp) (by simp) (by simp)
  | accepted r fits fresh =>
    obtain hd | ⟨-, -, -, opened, ha⟩ := s.accept_cases r
    · rw [hd.frame]; exact h
    · exact ha.ctxOk opened h
  | fenceBusy a g => exact ctxOk_same h (by simp) (by simp) (by simp) (by simp) (by simp)
  | fenceTaken a g => exact State.takeFence_ctxOk h a g
  | nearDown =>
    have hent (o : OutEntry) : o.orphaned.phase = o.phase ∧ o.orphaned.ctx = o.ctx := by
      unfold OutEntry.orphaned
      split <;> exact ⟨rfl, rfl⟩
    have lost : CtxOk noCtx s.nearLost :=
      ctxOk_map h hent (fun r hr => by cases hr) (.refl _) rfl rfl rfl
    exact ctxOk_same lost (by simp) (by simp) (by simp) (by simp) (by simp)
  | nearSent => exact h
  | restarted n m powered => exact ctxOk_restarted s n m powered

/-! ## The other commands -/

theorem fillInstalled_way (s : State) (a : FillArgs) (w : WayId) (t : SetId) (v : WayId) :
    (fillInstalled s a w).cache[t].ways[v] =
      if setOf a.entry.page = t ∧ w = v then a.entry else s.cache[t].ways[v] := by
  have hset : (fillInstalled s a w).cache[t] =
      if setOf a.entry.page = t then s.cache[setOf a.entry.page].install w a.entry else s.cache[t] := getElem_set_fin ..
  rw [hset]
  by_cases ht : setOf a.entry.page = t
  · subst ht
    have hway : (s.cache[setOf a.entry.page].install w a.entry).ways[v] =
        if w = v then a.entry else s.cache[setOf a.entry.page].ways[v] := getElem_set_fin ..
    rw [if_pos rfl, hway]
    simp only [true_and]
  · rw [if_neg ht, if_neg fun h => ht h.1]

theorem fillCleared_ctxOk {s : State} (h : CtxOk noCtx s) {a : FillArgs} {w : WayId}
    (opened : ∀ c, a.entry.scope = .context c → s.ctxs[c].state = .opened) : CtxOk noCtx (fillCleared s a w) := by
  have installed : CtxOk noCtx (fillInstalled s a w) := by
    refine ctxOk_work h rfl (fun c hc => ?_) fun _ => rfl
    rintro ⟨he, hp, hm⟩
    refine ⟨fun t v hv => ?_, hp, hm⟩
    have hget : (fillInstalled s a w).cache[t].ways[v] =
        if setOf a.entry.page = t ∧ w = v then a.entry else s.cache[t].ways[v] := fillInstalled_way ..
    rw [hget] at hv ⊢
    split at hv
    · next heq => rw [if_pos heq]; exact fun hs => hc (opened c hs)
    · next hne => rw [if_neg hne]; exact he t v hv
  refine State.freeMisses_ctxOk (State.sweep_ctxOk installed fun r q hq => ?_) _
  obtain rfl | rfl := releaseFate_keep hq <;> rfl

/-- A close leaves the closing context nothing but WAITING entries. -/
theorem closeCleared_ctxOk {s : State} (h : CtxOk noCtx s) (f : Frame) (c : Ctx) :
    CtxOk (fun d => d = c ∨ noCtx d) (closeCleared f c s) := by
  have hpark : (closeCleared f c s).park = s.park.filter fun r => !(r.ctx == c) := by
    rw [closeCleared, State.freeMisses_park, State.sweep_refuse_park]
    rfl
  have hcache : (closeCleared f c s).cache = invalidateCache (closeNames c) s.cache := by
    rw [closeCleared, State.freeMisses_cache, State.sweep_cache]
    rfl
  have hctxs : (closeCleared f c s).ctxs = s.ctxs.set c { s.ctxs[c] with state := .closing f.hdr.seq } := by
    rw [closeCleared, State.freeMisses_ctxs, State.sweep_ctxs]
    rfl
  have hwaits (d : Ctx) : (closeCleared f c s).ctxWaits d = s.ctxWaits d :=
    ctxWaits_same (by simp [closeCleared, closeInvalidated]) d
  have hmisses {id : MissId} {m : Miss} (hid : (closeCleared f c s).misses[id].active = some m) :
      s.misses[id].active = some m ∧ id ∉ s.missesOf c := by
    have := freeMisses_active hid
    rwa [State.sweep_misses] at this
  have hscopes : ScopesFrom s.cache (closeCleared f c s).cache := by
    rw [hcache]
    exact scopesFrom_invalidate _ _
  have hsub : (closeCleared f c s).park ⊆ s.park := hpark ▸ List.filter_subset_self _
  intro d
  rw [hctxs, getElem_set_fin, hwaits]
  split
  · next hcd =>
    subst hcd
    refine ⟨fun _ => ⟨fun t w hv hs => ?_, fun r hr hc => ?_, fun id m hid hm => ?_⟩, fun hx => (by cases hx),
      fun hn => absurd (Or.inl rfl) hn⟩
    · obtain ⟨hv', hs'⟩ := hscopes t w hv
      rw [hcache, invalidateCache, getElem_map_fin, CacheSet.dropAll_ways, if_pos] at hv
      · cases hv
      · rw [hv', closeNames, hs'.trans hs]; simp
    · rw [hpark] at hr
      simp [hc] at hr
    · obtain ⟨hact, hnot⟩ := hmisses hid
      exact hnot (List.mem_filter.mpr ⟨List.mem_finRange id, by rw [hact]; simpa using hm⟩)
  · next hcd =>
    obtain ⟨hno, hclosed, hclosing⟩ := h d
    refine ⟨fun hs => ?_, hclosed, fun _ => hclosing id⟩
    exact ctxEmpty_fewer hscopes (park_subset_ctx hsub) (fun id m hid => ⟨id, m, (hmisses hid).1, rfl⟩) (hno hs)

theorem closeOpen_ctxOk {s : State} (h : CtxOk noCtx s) (f : Frame) (c : Ctx) : CtxOk noCtx (closeOpen f c s) := by
  have acked : CtxOk (fun d => d = c ∨ noCtx d) ((closeCleared f c s).ack f (closeFields s c)) :=
    ctxOk_same (closeCleared_ctxOk h f c) (by simp) (by simp) (by simp) (by simp) (by simp)
  have offered : CtxOk (fun d => d = c ∨ noCtx d) (closeOffered f c s) :=
    ctxOk_same (State.offerAll_ctxOk acked (s.missesOf c)) (State.completeSlots_cache _) (State.completeSlots_park _)
      (State.completeSlots_misses _) (State.completeSlots_outs _) (State.completeSlots_ctxs _)
  have recorded : CtxOk noCtx (closeRecorded f c s) :=
    ctxOk_same (State.completeClose_ctxOk offered) (State.makeFaults_cache ..) (State.makeFaults_park ..)
      (State.makeFaults_misses ..) (State.makeFaults_outs ..) (State.makeFaults_ctxs ..)
  rw [closeOpen_eq]
  exact ctxOk_same (State.runArbiter_ctxOk recorded) (by simp) (by simp) (by simp) (by simp) (by simp)

theorem runOpenContext_ctxOk {s : State} (h : CtxOk noCtx s) (f : Frame) (a : Ctx × MissPolicy × Bool) :
    CtxOk noCtx (runOpenContext f a s) := by
  have setOpen {r : CtxRecord} (hr : r.state = .opened) : CtxOk noCtx (s.setCtx a.1 r) := by
    intro d
    obtain ⟨hno, hclosed, hclosing⟩ := h d
    simp only [State.setCtx_ctxs]
    rw [getElem_set_fin]
    split
    · exact ⟨fun hs => absurd hr hs, fun hs => (by rw [hr] at hs; cases hs), fun _ q hq => (by rw [hr] at hq; cases hq)⟩
    · exact ⟨hno, hclosed, hclosing⟩
  unfold runOpenContext
  dsimp only
  split
  · exact ctxOk_same h (by simp) (by simp) (by simp) (by simp) (by simp)
  · exact ctxOk_same (setOpen rfl) (by simp) (by simp) (by simp) (by simp) (State.ack_ctxs ..)
  · exact ctxOk_same (setOpen rfl) (by simp) (by simp) (by simp) (by simp) (State.ack_ctxs ..)

/-- With nothing WAITING every close ends (R128, R129). -/
theorem ctxOk_closesEnd {s t : State} (h : CtxOk noCtx s) (hc : t.ctxs = s.ctxs.map CtxRecord.closedIfClosing)
    (hk : t.cache = s.cache) (hp : t.park ⊆ s.park)
    (hm : ∀ (id : MissId) (m : Miss), t.misses[id].active = some m → s.misses[id].active = some m)
    (hw : ∀ c, t.ctxWaits c = false) : CtxOk noCtx t := by
  intro d
  obtain ⟨hno, -, -⟩ := h d
  rw [hc, getElem_map_fin]
  refine ⟨fun hs => ?_, fun _ => hw d, fun _ q hq => ?_⟩
  · refine ctxEmpty_fewer (by rw [hk]; exact .refl _) (park_subset_ctx hp) (fun id m hid => ⟨id, m, hm id m hid, rfl⟩)
      (hno fun ho => hs ?_)
    unfold CtxRecord.closedIfClosing
    rw [ho]
    exact ho
  · unfold CtxRecord.closedIfClosing at hq
    split at hq
    · cases hq
    · next hs => rw [hs] at hq; cases hq
    · next hs => rw [hs] at hq; cases hq

theorem farDown_ctxOk {s : State} (h : CtxOk noCtx s) : CtxOk noCtx (({ s with far := s.far.lost }.sweep
    (refuseFate ParkRecord.isReady .link 0)).clearEntries).farDrained := by
  generalize hv : { s with far := s.far.lost }.sweep (refuseFate ParkRecord.isReady .link 0) = v
  have swept : CtxOk noCtx v :=
    hv ▸ State.sweep_ctxOk (s := { s with far := s.far.lost }) h fun r q hq => by rw [refuseFate_keep hq]
  refine ctxOk_closesEnd swept ?_ ?_ ?_ (fun id m hid => ?_) fun c => anyEntry_false fun g o hg => ?_
  · rw [State.farDrained_ctxs, State.clearEntries_ctxs]
  · rw [State.farDrained_cache, State.clearEntries_cache]
  · rw [State.farDrained_park, State.clearEntries_park]
    exact List.Subset.refl _
  · rwa [State.farDrained_misses, State.clearEntries_misses] at hid
  · rw [State.farDrained_outs, v.clearEntries_outs g] at hg
    cases hg

theorem runResetBridge_ctxOk {s : State} (h : CtxOk noCtx s) (f : Frame) : CtxOk noCtx (runResetBridge f () s) := by
  refine ctxOk_closesEnd h (by simp [runResetBridge]) (by simp [runResetBridge]) (by simp [runResetBridge])
    (fun id m hid => ?_) fun c => anyEntry_false fun g o hg => ?_
  · simp [runResetBridge] at hid
  · simp only [runResetBridge, State.makeFault_outs, State.resetTables, State.refuseAborted_outs, State.ack_outs] at hg
    rw [getElem_map_fin] at hg
    obtain ⟨e, he, rfl⟩ := Option.map_eq_some_iff.mp hg
    have hphase : (e.afterReset (s.ack f []).time (s.ack f []).chan.params.responseTimeout).phase = .expired := by
      unfold OutEntry.afterReset
      split
      · rfl
      · next hx => exact hx
    simp only [State.refuseAborted_time, State.refuseAborted_chan, hphase]
    rfl

theorem Deed.ctxOk {s t : State} (hd : Deed s t) (h : CtxOk noCtx s) : CtxOk noCtx t := by
  have same {u v : State} (h : CtxOk noCtx u) (hk : v.cache = u.cache) (hp : v.park = u.park) (hm : v.misses = u.misses)
      (ho : v.outs = u.outs) (hc : v.ctxs = u.ctxs) : CtxOk noCtx v := ctxOk_same h hk hp hm ho hc
  have drained {u : State} (h : CtxOk noCtx u) : CtxOk noCtx u.judgeDrain :=
    same h (by simp) (by simp) (by simp) (by simp) (by simp)
  have faulted {u : State} (h : CtxOk noCtx u) (w : FaultBody) : CtxOk noCtx (u.makeFault w) :=
    same h (by simp) (by simp) (by simp) (by simp) (by simp)
  have acked {u : State} (h : CtxOk noCtx u) (f : Frame) (l : List Byte) : CtxOk noCtx (u.ack f l) :=
    same h (by simp) (by simp) (by simp) (by simp) (by simp)
  have naked {u : State} (h : CtxOk noCtx u) (f : Frame) (c : NakCode) : CtxOk noCtx (u.nak f c) :=
    same h (by simp) (by simp) (by simp) (by simp) (by simp)
  cases hd with
  | idle => exact h
  | recorded w => exact faulted h w
  | farAnswer f small => exact same h (by simp) (by simp) (by simp) (by simp) (by simp)
  | resent l stored => exact same h (by simp) (by simp) (by simp) (by simp) (by simp)
  | responseTaken g o code body entry waiting =>
    unfold State.takeResponse
    dsimp only
    exact State.afterEntry_ctxOk (ctxOk_entryEnds (g := g) h (o' := none) (fun _ he => by cases he) (by simp) (by simp)
      (by simp) (by simp) (by simp)) o
  | expiredEnds g o entry expired =>
    have ended : CtxOk noCtx (s.setOut g none) := by
      refine ctxOk_work h rfl (fun _ _ => id) fun c => ?_
      rw [ctxWaits_eq, State.setOut_outs, anyEntry_drop entry (by simp [expired])]
      rfl
    exact drained (State.runArbiter_ctxOk ended)
  | replied f kind body small => exact same h (by simp) (by simp) (by simp) (by simp) (by simp)
  | countersCleared f kind body small => exact same h (by simp) (by simp) (by simp) (by simp) (by simp)
  | filled f a w up valid judged =>
    rw [fillWritten_eq]
    obtain ⟨opened, -⟩ := judgeFill_ok judged
    have offered := State.offerAll_ctxOk (acked (fillCleared_ctxOk h (w := w) opened) f (fillFields s a w))
      (s.missesMatched a.entry)
    have recorded : CtxOk noCtx (fillRecorded f a w s) :=
      same offered (State.makeFaults_cache ..) (State.makeFaults_park ..) (State.makeFaults_misses ..)
        (State.makeFaults_outs ..) (State.makeFaults_ctxs ..)
    exact drained (State.runArbiter_ctxOk recorded)
  | denied f id d n m w live =>
    exact drained (faulted (State.offer_ctxOk (acked (State.endMiss_ctxOk h id .noTranslation d) f [n]) id) w)
  | pinned f a =>
    obtain ⟨i, v, on⟩ := a
    unfold runPin
    dsimp only
    split
    · exact naked h f _
    · split
      · exact naked h f _
      · refine acked ?_ f []
        refine ctxOk_work h rfl (fun c _ => ctxEmpty_fewer ?_ (fun q hq => ⟨q, hq, rfl⟩) fun id m hid => ⟨id, m, hid, rfl⟩)
          fun _ => rfl
        refine scopesFrom_set fun w hw => ?_
        rw [getElem_set_fin] at hw ⊢
        split at hw
        · next hvw => subst hvw; rw [if_pos rfl]; exact ⟨hw, rfl⟩
        · next hvw => rw [if_neg hvw]; exact ⟨hw, rfl⟩
  | purged f a =>
    unfold runPurge
    split
    · exact naked h f _
    · next k _ =>
      have hent (o : OutEntry) : (o.markedBy a.1 k).phase = o.phase ∧ (o.markedBy a.1 k).ctx = o.ctx := by
        unfold OutEntry.markedBy
        split <;> exact ⟨rfl, rfl⟩
      have applied : CtxOk noCtx (s.applyPurge a.1 a.2 f.hdr.seq k) := by
        refine ctxOk_map h hent (fun r hr => ?_) (scopesFrom_purged a.1 a.2 s.cache) rfl rfl rfl
        obtain ⟨q, hq, rfl⟩ := List.mem_map.mp hr
        exact ⟨q, hq, (q.markedBy_fields a.1 k).2.1.symm⟩
      exact same (acked applied f _) (State.completeSlot_cache ..) (State.completeSlot_park ..)
        (State.completeSlot_misses ..) (State.completeSlot_outs ..) (State.completeSlot_ctxs ..)
  | contextOpened f a => exact runOpenContext_ctxOk h f a
  | contextClosed f c opened => exact closeOpen_ctxOk h f c
  | quiesceTaken f =>
    unfold runQuiesce
    split <;> exact same h (by simp) (by simp) (by simp) (by simp) (by simp)
  | resumeTaken f =>
    unfold runResume
    exact same h (by simp) (by simp) (by simp) (by simp) (by simp)
  | paramSet f a range =>
    unfold runSetParam
    exact same h (by simp) (by simp) (by simp) (by simp) (by simp)
  | faultsCleared f =>
    unfold runClearFaults
    exact same h (by simp) (by simp) (by simp) (by simp) (by simp)
  | handedOver f n =>
    unfold runHandover
    split
    · exact naked h f _
    · exact same h (by simp) (by simp) (by simp) (by simp) (by simp)
  | bridgeReset f => exact runResetBridge_ctxOk h f
  | missExpired id m w live =>
    exact drained (faulted (State.offer_ctxOk (State.endMiss_ctxOk h id .missTimeout 0) id) w)
  | copySent id m next live due =>
    have advanced : CtxOk noCtx (s.advanceCopy id m) := by
      refine ctxOk_work h rfl (fun c _ => ctxEmpty_fewer (.refl _) (fun q hq => ⟨q, hq, rfl⟩) fun j n hj => ?_) fun _ => rfl
      rw [State.advanceCopy_misses, getElem_set_fin] at hj
      split at hj
      · cases hj; exact ⟨id, m, live, rfl⟩
      · exact ⟨j, n, hj, rfl⟩
    exact same advanced (by simp) (by simp) (by simp) (by simp) (by simp)
  | responseExpired g o entry waiting =>
    exact State.afterEntry_ctxOk (ctxOk_entryEnds (g := g) h (o' := some o.timedOut) (fun _ he => by cases he; rfl)
      (by simp) (by simp) (by simp) (by simp) (by simp)) o
  | farDown => exact drained (faulted (farDown_ctxOk h) (farDownFault s))
  | nearUp powered => exact h
  | farUp powered => exact h
  | farSent => exact h
  | headForwarded u leaves => exact drained (State.forwardHead_ctxOk leaves h)
  | missOffered id => exact State.offer_ctxOk h id
  | fenceJudged a => exact same h (by simp) (by simp) (by simp) (by simp) (by simp)
  | slotJudged k => exact same h (by simp) (by simp) (by simp) (by simp) (by simp)
  | closeJudged c =>
    exact State.completeClose_ctxOk fun d => ⟨(h d).1, (h d).2.1, fun _ => (h d).2.2 id⟩
  | drainJudged => exact drained h

/-- Settles O58: work comes to OPEN contexts only, and whatever ends a WAITING entry judges the closes. -/
theorem contextLawsKept : Obligations.ContextLawsKept :=
  step_keeps (fun _ _ h => h) (fun _ _ h => h) (fun _ _ _ h => h)
    (fun _ _ hd h => contextLaws_iff.mpr (hd.ctxOk (contextLaws_iff.mp h)))
    fun _ _ hd h => contextLaws_iff.mpr (hd.ctxOk (contextLaws_iff.mp h))

end Sys2Proof.Machine
end

section
/-! PROOF. The laws of the bridge state (O59): QUIESCED is empty, and QUIESCING has not drained (R130, R132). -/

namespace Sys2Proof.Machine

open Sys2Proof.Safety

/-! ## The drain condition -/

/-- The drain condition, part by part (R132). -/
theorem drained_iff {s : State} : s.drained = true ↔
    s.park = [] ∧ (∀ id : MissId, s.misses[id].active = none) ∧
      (∀ (g : BridgeTag) (o : OutEntry), s.outs[g] = some o → o.phase ≠ .waiting) ∧ ∀ a : Agent, s.fences[a] = none := by
  have hvector {α : Type} {n : Nat} (v : Vector α n) (p : α → Bool) :
      v.toList.all p = true ↔ ∀ i : Fin n, p v[i] = true := by
    rw [List.all_eq_true]
    constructor
    · exact fun h i => h _ (Vector.mem_toList_iff.mpr (Vector.getElem_mem _))
    · intro h x hx
      obtain ⟨i, hi, rfl⟩ := List.getElem_of_mem hx
      have hlt : i < n := by simpa using hi
      simpa using h ⟨i, hlt⟩
  have hphase : s.countPhase .waiting = 0 ↔
      ∀ (g : BridgeTag) (o : OutEntry), s.outs[g] = some o → o.phase ≠ .waiting := by
    have hany : s.countPhase .waiting = 0 ↔ anyEntry (fun e => e.phase == .waiting) s.outs = false := by
      rw [State.countPhase, List.countP_eq_zero, anyEntry, List.any_eq_false]
    rw [hany]
    constructor
    · intro h g o hg hw
      have : anyEntry (fun e => e.phase == .waiting) s.outs = true := anyEntry_iff.mpr ⟨g, o, hg, by simp [hw]⟩
      rw [h] at this
      cases this
    · exact fun h => anyEntry_false fun g o hg => by simpa using h g o hg
  unfold State.drained
  rw [Bool.and_eq_true, Bool.and_eq_true, Bool.and_eq_true, List.isEmpty_iff, beq_iff_eq, hphase, hvector, hvector]
  simp only [Option.isNone_iff_eq_none, and_assoc]

/-- The drain condition as a fact about a state. -/
def Drained (s : State) : Prop :=
  s.park = [] ∧ (∀ id : MissId, s.misses[id].active = none) ∧
    (∀ (g : BridgeTag) (o : OutEntry), s.outs[g] = some o → o.phase ≠ .waiting) ∧ ∀ a : Agent, s.fences[a] = none

theorem drained_same {s t : State} (h : Drained s) (hp : t.park = s.park) (hm : t.misses = s.misses) (ho : t.outs = s.outs)
    (hf : t.fences = s.fences) : Drained t := by
  unfold Drained
  rw [hp, hm, ho, hf]
  exact h

/-- The laws of the bridge state, while a QUIESCING bridge may have drained unjudged. -/
def QuiesceOk (late : Prop) (s : State) : Prop :=
  (∀ q, s.bridge = .quiesced q → Drained s) ∧ (¬late → ∀ q, s.bridge = .quiescing q → ¬Drained s)

theorem quiesceLaws_iff {s : State} : QuiesceLaws s ↔ QuiesceOk False s := by
  have hd : s.drained = true ↔ Drained s := drained_iff
  constructor
  · rintro ⟨h1, h2⟩
    refine ⟨fun q hq => hd.mp (h1 q hq), fun _ q hq hdr => ?_⟩
    have := hd.mpr hdr
    rw [h2 q hq] at this
    cases this
  · rintro ⟨h1, h2⟩
    exact ⟨fun q hq => hd.mpr (h1 q hq), fun q hq => Bool.eq_false_iff.mpr fun hdr => h2 id q hq (hd.mp hdr)⟩

/-- A drained QUIESCING bridge is QUIESCED after the judgment (R132). -/
theorem State.judgeDrain_quiesceOk {s : State} (h : QuiesceOk True s) : QuiesceOk False s.judgeDrain := by
  have hsame : Drained s.judgeDrain ↔ Drained s := by
    unfold Drained
    rw [State.judgeDrain_park, State.judgeDrain_misses, State.judgeDrain_outs, State.judgeDrain_fences]
  have hd : s.drained = true ↔ Drained s := drained_iff
  unfold QuiesceOk
  rw [hsame]
  unfold State.judgeDrain
  split
  · next q hq =>
    split
    · next hdr =>
      rw [State.notice_bridge]
      exact ⟨fun _ _ => hd.mp hdr, fun _ _ hx => by cases hx⟩
    · next hdr => exact ⟨h.1, fun _ _ _ hx => hdr (hd.mpr hx)⟩
  · next hq => exact ⟨h.1, fun _ q hx => absurd hx (hq q)⟩

/-- What waits may go; the drain is then to be judged. -/
theorem quiesceOk_less {s t : State} (h : QuiesceOk False s) (hb : t.bridge = s.bridge) (hd : Drained s → Drained t) :
    QuiesceOk True t :=
  ⟨fun q hq => hd (h.1 q (hb ▸ hq)), fun hn => absurd trivial hn⟩

/-- The bridge state and the drain condition stand. -/
theorem quiesceOk_eq {s t : State} (h : QuiesceOk False s) (hb : t.bridge = s.bridge) (hd : Drained s ↔ Drained t) :
    QuiesceOk False t :=
  ⟨fun q hq => hd.mp (h.1 q (hb ▸ hq)), fun hn q hq hdr => h.2 hn q (hb ▸ hq) (hd.mpr hdr)⟩

theorem quiesceOk_same {s t : State} (h : QuiesceOk False s) (hb : t.bridge = s.bridge) (hp : t.park = s.park)
    (hm : t.misses = s.misses) (ho : t.outs = s.outs) (hf : t.fences = s.fences) : QuiesceOk False t :=
  quiesceOk_eq h hb (by unfold Drained; rw [hp, hm, ho, hf])

theorem quiesceOk_running {s : State} (h : s.bridge = .running) : QuiesceOk False s :=
  ⟨fun q hq => (by rw [h] at hq; cases hq), fun _ q hq => (by rw [h] at hq; cases hq)⟩

/-! ## A drained state stays drained -/

theorem State.sweep_nil {s : State} (h : s.park = []) (fate : ParkRecord → Fate) : s.sweep fate = s := by
  unfold State.sweep
  rw [h, sweepFrom, ← h]

theorem State.offer_drained {s : State} (h : Drained s) (id : MissId) : s.offer id = s := by
  obtain ⟨r, -, hr, -⟩ | ⟨-, heq⟩ := s.offer_cases id
  · rw [h.1] at hr; cases hr
  · exact heq

theorem State.offerAll_drained {s : State} (h : Drained s) (ids : List MissId) : s.offerAll ids = s :=
  List.foldlRecOn (motive := fun u : State => u = s) _ State.offer rfl fun u hu id _ => by
    rw [hu, State.offer_drained h id]

theorem State.runArbiter_drained {s : State} (h : Drained s) : s.runArbiter = s :=
  State.runArbiter_idle (by rw [State.readyExists, h.1]; rfl)

theorem Drained.freeMisses {s : State} (h : Drained s) (ids : List MissId) : Drained (s.freeMisses ids) := by
  obtain ⟨hp, hm, ho, hf⟩ := h
  refine ⟨by rw [State.freeMisses_park]; exact hp, fun id => ?_, by rw [State.freeMisses_outs]; exact ho,
    by rw [State.freeMisses_fences]; exact hf⟩
  rw [State.freeMisses_misses_get]
  split
  · rfl
  · exact hm id

theorem Drained.clearEntry {s : State} (h : Drained s) (g : BridgeTag) : Drained (s.clearEntry g) := by
  obtain ⟨hp, hm, ho, hf⟩ := h
  unfold State.clearEntry
  split
  · exact ⟨hp, hm, ho, hf⟩
  · next o entry =>
    rw [if_neg (by simp [OutEntry.live, ho g o entry])]
    refine ⟨hp, hm, fun j e hj => ?_, hf⟩
    rw [State.setOut_outs, getElem_set_fin] at hj
    split at hj
    · cases hj
    · exact ho j e hj

theorem Drained.clearEntries {s : State} (h : Drained s) : Drained s.clearEntries :=
  List.foldlRecOn (motive := Drained) _ State.clearEntry h fun _ h g _ => h.clearEntry g

theorem not_drained_entry {s : State} {g : BridgeTag} {o : OutEntry} (entry : s.outs[g] = some o)
    (waiting : o.phase = .waiting) : ¬Drained s :=
  fun h => h.2.2.1 g o entry waiting

theorem not_drained_miss {s : State} {id : MissId} {m : Miss} (live : s.misses[id].active = some m) : ¬Drained s :=
  fun h => by rw [h.2.1 id] at live; cases live

/-! ## The commands -/

theorem drained_outsMap {s t : State} {f : OutEntry → OutEntry} (hf : ∀ o, (f o).phase = o.phase)
    (hp : t.park = [] ↔ s.park = []) (hm : t.misses = s.misses) (ho : t.outs = s.outs.map (Option.map f))
    (hfe : t.fences = s.fences) : Drained s ↔ Drained t := by
  have houts : (∀ (g : BridgeTag) (o : OutEntry), s.outs[g] = some o → o.phase ≠ .waiting) ↔
      ∀ (g : BridgeTag) (o : OutEntry), t.outs[g] = some o → o.phase ≠ .waiting := by
    rw [ho]
    refine forall_congr' fun g => ?_
    rw [getElem_map_fin]
    constructor
    · intro h e he
      obtain ⟨o, hg, rfl⟩ := Option.map_eq_some_iff.mp he
      rw [hf]
      exact h o hg
    · intro h o hg
      rw [← hf]
      exact h _ (by rw [hg]; rfl)
  unfold Drained
  rw [houts, hp, hm, hfe]

theorem Admission.bridge {s t : State} {r : Request} (ha : Admission s r t) : t.bridge = s.bridge := by
  cases ha with
  | declined hd => exact (congrArg State.bridge hd.frame :)
  | hitDeclined w hd => exact (congrArg State.bridge hd.frame :)
  | forwardPost w x => exact State.sendFar_bridge ..
  | forwardRequest w x g => exact State.sendFar_bridge ..
  | parkedReady w x => rfl
  | joined id => rfl
  | joinedUnnoticed => rfl
  | allocated id => simp
  | exhausted c => rfl

theorem NearDeed.quiesceOk {s t : State} (hd : NearDeed s t) (h : QuiesceOk False s) : QuiesceOk False t := by
  have same {v : State} (hb : v.bridge = s.bridge) (hp : v.park = s.park) (hm : v.misses = s.misses) (ho : v.outs = s.outs)
      (hf : v.fences = s.fences) : QuiesceOk False v := quiesceOk_same h hb hp hm ho hf
  cases hd with
  | idle => exact h
  | recorded w => exact same (by simp) (by simp) (by simp) (by simp) (by simp)
  | malformed a g k d w => exact same (by simp) (by simp) (by simp) (by simp) (by simp)
  | accepted r fits fresh =>
    obtain hd | ⟨running, -, -, -, ha⟩ := s.accept_cases r
    · rw [hd.frame]; exact same rfl rfl rfl rfl rfl
    · exact quiesceOk_running (ha.bridge.trans running)
  | fenceBusy a g => exact same (by simp) (by simp) (by simp) (by simp) (by simp)
  | fenceTaken a g running =>
    refine quiesceOk_running ?_
    unfold State.takeFence
    split
    · simpa using running
    · split
      · exact running
      · simpa using running
  | nearDown =>
    refine State.judgeDrain_quiesceOk (quiesceOk_less h (by simp [State.nearLost]) fun hd => ?_)
    have lost : Drained s.nearLost := by
      refine ⟨rfl, hd.2.1, fun g o hg => ?_, fun a => by simp [State.nearLost]⟩
      simp only [State.nearLost] at hg
      rw [getElem_map_fin] at hg
      obtain ⟨e, he, rfl⟩ := Option.map_eq_some_iff.mp hg
      unfold OutEntry.orphaned
      split <;> exact hd.2.2.1 g e he
    exact drained_same lost (by simp) (by simp) (by simp) (by simp)
  | nearSent => exact h
  | restarted n m powered => exact quiesceOk_running rfl

theorem Deed.quiesceOk {s t : State} (hd : Deed s t) (h : QuiesceOk False s) : QuiesceOk False t := by
  have same {v : State} (hb : v.bridge = s.bridge) (hp : v.park = s.park) (hm : v.misses = s.misses) (ho : v.outs = s.outs)
      (hf : v.fences = s.fences) : QuiesceOk False v := quiesceOk_same h hb hp hm ho hf
  have judged {v : State} (hb : v.bridge = s.bridge) (hd : Drained s → Drained v) : QuiesceOk False v.judgeDrain :=
    State.judgeDrain_quiesceOk (quiesceOk_less h hb hd)
  cases hd with
  | idle => exact h
  | recorded w => exact same (by simp) (by simp) (by simp) (by simp) (by simp)
  | farAnswer f small => exact same (by simp) (by simp) (by simp) (by simp) (by simp)
  | resent l stored => exact same (by simp) (by simp) (by simp) (by simp) (by simp)
  | responseTaken g o code body entry waiting =>
    unfold State.takeResponse State.afterEntry
    exact judged (by simp) fun hd => absurd hd (not_drained_entry entry waiting)
  | expiredEnds g o entry expired =>
    refine judged (by simp) fun hd => ?_
    have ended : Drained (s.setOut g none) := by
      refine ⟨hd.1, hd.2.1, fun j e hj => ?_, hd.2.2.2⟩
      rw [State.setOut_outs, getElem_set_fin] at hj
      split at hj
      · cases hj
      · exact hd.2.2.1 j e hj
    rw [State.runArbiter_drained ended]
    exact ended
  | replied f kind body small => exact same (by simp) (by simp) (by simp) (by simp) (by simp)
  | countersCleared f kind body small => exact same (by simp) (by simp) (by simp) (by simp) (by simp)
  | filled f a w up valid _ =>
    rw [fillWritten_eq]
    refine judged (by simp [fillRecorded, fillCleared, fillInstalled]) fun hd => ?_
    have cleared : Drained (fillCleared s a w) := by
      rw [fillCleared, State.sweep_nil (s := fillInstalled s a w) hd.1]
      exact Drained.freeMisses (s := fillInstalled s a w) hd _
    have acked : Drained ((fillCleared s a w).ack f (fillFields s a w)) :=
      drained_same cleared (by simp) (by simp) (by simp) (by simp)
    have recorded : Drained (fillRecorded f a w s) := by
      rw [fillRecorded, State.offerAll_drained acked]
      exact drained_same acked (by simp) (by simp) (by simp) (by simp)
    rw [State.runArbiter_drained recorded]
    exact recorded
  | denied f id d n m w live => exact judged (by simp [State.endMiss]) fun hd => absurd hd (not_drained_miss live)
  | pinned f a =>
    unfold runPin
    dsimp only
    split
    · exact same (by simp) (by simp) (by simp) (by simp) (by simp)
    · split <;> exact same (by simp) (by simp) (by simp) (by simp) (by simp)
  | purged f a =>
    unfold runPurge
    split
    · exact same (by simp) (by simp) (by simp) (by simp) (by simp)
    · next k _ =>
      have hent (o : OutEntry) : (o.markedBy a.1 k).phase = o.phase := by
        unfold OutEntry.markedBy
        split <;> rfl
      exact quiesceOk_eq h (by simp) (drained_outsMap hent (by simp) (by simp) (by simp) (by simp))
  | contextOpened f a =>
    unfold runOpenContext
    dsimp only
    split <;> exact same (by simp) (by simp) (by simp) (by simp) (by simp)
  | contextClosed f c opened =>
    rw [closeOpen_eq]
    refine judged (by simp [closeRecorded, closeOffered, closeCleared, closeInvalidated]) fun hd => ?_
    have cleared : Drained (closeCleared f c s) := by
      rw [closeCleared, State.sweep_nil (s := closeInvalidated f c s) hd.1]
      exact Drained.freeMisses (s := closeInvalidated f c s) hd _
    have acked : Drained ((closeCleared f c s).ack f (closeFields s c)) :=
      drained_same cleared (by simp) (by simp) (by simp) (by simp)
    have recorded : Drained (closeRecorded f c s) := by
      rw [closeRecorded, closeOffered, State.offerAll_drained acked]
      exact drained_same acked (by simp) (by simp) (by simp) (by simp)
    rw [State.runArbiter_drained recorded]
    exact recorded
  | quiesceTaken f =>
    unfold runQuiesce
    split
    · exact State.judgeDrain_quiesceOk ⟨fun q hq => by simp at hq, fun hn => absurd trivial hn⟩
    · exact State.judgeDrain_quiesceOk ⟨fun q hq => by simp at hq, fun hn => absurd trivial hn⟩
    · next q hq =>
      have hd := h.1 q hq
      exact ⟨fun _ _ => drained_same hd (by simp) (by simp) (by simp) (by simp), fun _ q' hq' => by simp at hq'⟩
  | resumeTaken f => exact quiesceOk_running (by simp [runResume])
  | paramSet f a range =>
    unfold runSetParam
    exact same (by simp) (by simp) (by simp) (by simp) (by simp)
  | faultsCleared f =>
    unfold runClearFaults
    exact same (by simp) (by simp) (by simp) (by simp) (by simp)
  | handedOver f n =>
    unfold runHandover
    split <;> exact same (by simp) (by simp) (by simp) (by simp) (by simp)
  | bridgeReset f => exact quiesceOk_running (by simp [runResetBridge])
  | missExpired id m w live => exact judged (by simp [State.endMiss]) fun hd => absurd hd (not_drained_miss live)
  | copySent id m next live due =>
    refine quiesceOk_eq h (by simp) (iff_of_false (not_drained_miss live) (not_drained_miss (id := id)
      (m := { m with sent := m.sent + 1, next := m.nextCopy (m.sent + 1) }) ?_))
    rw [State.sendMissCopy_misses, State.advanceCopy_misses, getElem_set_fin, if_pos rfl]
  | responseExpired g o entry waiting =>
    unfold State.afterEntry
    exact judged (by simp) fun hd => absurd hd (not_drained_entry entry waiting)
  | farDown =>
    refine judged (by simp) fun hd => ?_
    rw [State.sweep_nil (s := { s with far := s.far.lost }) hd.1]
    have cleared : Drained ({ s with far := s.far.lost } : State).clearEntries :=
      Drained.clearEntries (s := { s with far := s.far.lost }) hd
    exact drained_same cleared (by simp) (by simp) (by simp) (by simp)
  | nearUp powered => exact h
  | farUp powered => exact h
  | farSent => exact h
  | headForwarded u leaves =>
    refine judged ?_ fun hd => ?_
    · exact State.forwardHead_keeps State.bridge (fun _ _ _ => rfl) (by simp) (by simp) (by simp) leaves
    · have := State.forwardHead_length leaves
      rw [hd.1] at this
      simp at this
  | missOffered id =>
    obtain ⟨r, -, hr, heq⟩ | ⟨-, heq⟩ := s.offer_cases id
    · have hmem := List.mem_of_find?_eq_some hr
      have hpark : (s.offer id).park = s.park.map (joinMiss id r.ctx r.page) := by rw [heq]; simp
      refine quiesceOk_eq h (by simp) (iff_of_false (fun hd => ?_) fun hd => ?_)
      · rw [hd.1] at hmem; cases hmem
      · have := hd.1
        rw [hpark, List.map_eq_nil_iff] at this
        rw [this] at hmem
        cases hmem
    · rw [heq]; exact h
  | fenceJudged a =>
    refine judged (by simp) fun hd => ?_
    rw [State.judgeFence_idle (hd.2.2.2 a)]
    exact hd
  | slotJudged k => exact same (by simp) (by simp) (by simp) (by simp) (by simp)
  | closeJudged c => exact same (by simp) (by simp) (by simp) (by simp) (by simp)
  | drainJudged => exact judged rfl id

/-- Settles O59: whatever may complete the drain judges it, and only a RUNNING bridge admits work. -/
theorem quiesceLawsKept : Obligations.QuiesceLawsKept :=
  step_keeps (fun _ _ h => h) (fun _ _ h => h) (fun _ _ _ h => h)
    (fun _ _ hd h => quiesceLaws_iff.mpr (hd.quiesceOk (quiesceLaws_iff.mp h)))
    fun _ _ hd h => quiesceLaws_iff.mpr (hd.quiesceOk (quiesceLaws_iff.mp h))

end Sys2Proof.Machine
end

section
/-! PROOF. The step, the passing of time, reset and power, and what no command changes (O1 to O5, O49). -/

namespace Sys2Proof.Machine

open Sys2Proof.Safety

/-- Settles O1. -/
theorem stepTakesTheFront : Obligations.StepTakesTheFront :=
  fun _ _ _ => rfl

/-! ## Time -/

theorem mem_dueOfMiss {s : State} {id : MissId} {c : Instr} : c ∈ dueOfMiss s id ↔
    (c = .missNotice id ∧ ∃ m t, s.misses[id].active = some m ∧ m.next = some t ∧ reached t s.time = true) ∨
      (c = .missTimeout id ∧ ∃ m, s.misses[id].active = some m ∧ reached m.deadline s.time = true) := by
  unfold dueOfMiss
  split
  · next hn => simp only [hn]; simp
  · next m hm =>
    simp only [hm, List.mem_append, Option.some.injEq, exists_eq_left', Option.any_eq_true]
    refine or_congr ?_ ?_
    · split
      · next h => simpa using fun _ => h
      · next h => simpa using fun _ => h
    · split
      · next h => simpa using fun _ => h
      · next h => simpa using fun _ => h

theorem mem_dueOfEntry {s : State} {g : BridgeTag} {c : Instr} : c ∈ dueOfEntry s g ↔
    (c = .responseTimeout g ∧ ∃ o, s.outs[g] = some o ∧ o.phase = .waiting ∧ reached o.deadline s.time = true) ∨
      (c = .secondDeadline g ∧ ∃ o, s.outs[g] = some o ∧ o.phase = .expired ∧ reached o.deadline s.time = true) := by
  unfold dueOfEntry
  split
  · next hn => simp only [hn]; simp
  · next o ho =>
    simp only [ho, Option.some.injEq, exists_eq_left']
    split
    · next hr => split <;> simp_all
    · next hr => simp [hr]

/-- The due events are those of R174, each once. -/
theorem mem_dueEvents {s : State} {c : Instr} : c ∈ dueEvents s ↔ Due s c := by
  unfold dueEvents
  simp only [List.mem_append, List.mem_flatMap, List.mem_finRange, true_and, mem_dueOfMiss, mem_dueOfEntry]
  cases c <;> simp [Due]

theorem dueEvents_nodup (s : State) : (dueEvents s).Nodup := by
  have hmiss : ((List.finRange 16).flatMap (dueOfMiss s)).Nodup := by
    refine List.nodup_flatMap.mpr ⟨fun id _ => ?_, (List.nodup_finRange 16).imp fun {i j} hij => ?_⟩
    · unfold dueOfMiss
      split
      · exact List.nodup_nil
      · split <;> split <;> simp
    · intro c hi hj
      rw [mem_dueOfMiss] at hi hj
      rcases hi with ⟨rfl, -⟩ | ⟨rfl, -⟩ <;> rcases hj with ⟨h, -⟩ | ⟨h, -⟩ <;> cases h <;> exact hij rfl
  have hentry : ((List.finRange 128).flatMap (dueOfEntry s)).Nodup := by
    refine List.nodup_flatMap.mpr ⟨fun g _ => ?_, (List.nodup_finRange 128).imp fun {i j} hij => ?_⟩
    · unfold dueOfEntry
      split
      · exact List.nodup_nil
      · split
        · split <;> simp
        · exact List.nodup_nil
    · intro c hi hj
      rw [mem_dueOfEntry] at hi hj
      rcases hi with ⟨rfl, -⟩ | ⟨rfl, -⟩ <;> rcases hj with ⟨h, -⟩ | ⟨h, -⟩ <;> cases h <;> exact hij rfl
  refine List.nodup_append'.mpr ⟨hmiss, hentry, fun c hm he => ?_⟩
  obtain ⟨id, -, hm⟩ := List.mem_flatMap.mp hm
  obtain ⟨g, -, he⟩ := List.mem_flatMap.mp he
  rw [mem_dueOfMiss] at hm
  rw [mem_dueOfEntry] at he
  rcases hm with ⟨rfl, -⟩ | ⟨rfl, -⟩ <;> rcases he with ⟨h, -⟩ | ⟨h, -⟩ <;> cases h

/-- The free order loses no event and adds none (log entry 5). -/
theorem dueOrder_perm (n : Nat) (l : List Instr) : (dueOrder n l).Perm l := by
  have hmap : ((l.zipIdx.map fun (i, k) => (Config.dueRank n k, i)).map Prod.snd) = l := by
    rw [List.map_map]
    exact (List.map_congr_left fun _ _ => rfl).trans (List.zipIdx_map_fst ..)
  exact ((List.perm_insertionSort ..).map Prod.snd).trans (.of_eq hmap)

/-- Settles O2. -/
theorem idleStepIsOneMicrosecond : Obligations.IdleStepIsOneMicrosecond := by
  unfold Obligations.IdleStepIsOneMicrosecond
  intro s hq
  have hstep : step s = .next s.tick := by
    unfold step
    rw [hq]
  refine ⟨fun powered => ?_, fun unpowered => ?_⟩
  · have hperm := dueOrder_perm s.moment (dueEvents { s with time := s.time + 1 })
    refine ⟨dueOrder s.moment (dueEvents { s with time := s.time + 1 }), ?_, hperm.nodup_iff.mpr (dueEvents_nodup _),
      fun c => hperm.mem_iff.trans mem_dueEvents⟩
    rw [hstep, State.tick, if_pos powered]
  · rw [hstep, State.tick, if_neg (by simp [unpowered])]

/-! ## What no command but a power event changes -/

/-- What only power sets, and the queue (R173, R188, R189). -/
def State.footing (s : State) : List Instr × Time × NodeId × NodeId × Bool :=
  (s.pending, s.time, s.node, s.managerStrap, s.powered)

theorem footing_iff {s t : State} : t.footing = s.footing ↔
    t.pending = s.pending ∧ t.time = s.time ∧ t.node = s.node ∧ t.managerStrap = s.managerStrap ∧ t.powered = s.powered := by
  simp [State.footing]

theorem State.accept_footing (s : State) (r : Request) : (s.accept r).footing = s.footing := by
  have declined {u t : State} (hd : Declined u r t) : t.footing = u.footing := (congrArg State.footing hd.frame :)
  obtain hd | ⟨-, -, -, -, ha⟩ := s.accept_cases r
  · exact declined hd
  · generalize s.accept r = t at ha
    cases ha with
    | declined hd => exact declined hd
    | hitDeclined w hd => exact declined (u := s.hitBy r w) hd
    | forwardPost w x => simp [State.footing, State.forwardPost, State.hitBy]
    | forwardRequest w x g => simp [State.footing, State.forwardRequest, State.hitBy]
    | parkedReady w x => rfl
    | joined id => rfl
    | joinedUnnoticed => rfl
    | allocated id => simp [State.footing]
    | exhausted c => rfl

theorem State.takeFence_footing (s : State) (a : Agent) (g : NearTag) : (s.takeFence a g).footing = s.footing := by
  unfold State.takeFence
  split
  · simp [State.footing]
  · split
    · rfl
    · simp [State.footing]

theorem State.identified_footing {s : State} (h : Header) {deal : Agent → NearTag → State → State}
    (hd : ∀ a g, (deal a g s).footing = s.footing) : (s.identified h deal).footing = s.footing := by
  unfold State.identified
  split
  · simp [State.footing]
  · simp [State.footing]
  · exact hd _ _

theorem State.intakeRequest_footing (s : State) (k : ReqKind) (h : Header) (body : List Byte) :
    (s.intakeRequest k h body).footing = s.footing := by
  refine State.identified_footing h fun a g => ?_
  split
  · simp [State.footing]
  · split
    · simp [State.footing]
    · exact s.accept_footing _

theorem State.intakeFence_footing (s : State) (h : Header) (body : List Byte) :
    (s.intakeFence h body).footing = s.footing := by
  refine State.identified_footing h fun a g => ?_
  split
  · simp [State.footing]
  · split
    · simp [State.footing]
    · split
      · simp [State.footing]
      · exact s.takeFence_footing a g

theorem State.routeNear_footing (s : State) (f : Frame) : (s.routeNear f).footing = s.footing := by
  unfold State.routeNear
  split
  · unfold State.intake
    split
    · exact s.intakeRequest_footing ..
    · exact s.intakeRequest_footing ..
    · exact s.intakeRequest_footing ..
    · exact s.intakeFence_footing ..
    · simp [State.footing, State.intakeUnknown]
  · rfl
  · simp [State.footing, State.nearMgmt]
  · rfl

theorem Deed.footing {s t : State} (hd : Deed s t) : t.footing = s.footing := by
  cases hd with
  | responseTaken g o code body => simp [State.footing, State.takeResponse, State.afterEntry]
  | expiredEnds g o => simp [State.footing, State.endExpired]
  | filled f a w => simp [State.footing, fillWritten_eq, fillRecorded, fillCleared, fillInstalled]
  | denied f id d n m w => simp [State.footing, State.endMiss]
  | pinned f a =>
    unfold runPin
    dsimp only
    split
    · simp [State.footing]
    · split <;> simp [State.footing]
  | purged f a => unfold runPurge; split <;> simp [State.footing]
  | contextOpened f a => unfold runOpenContext; dsimp only; split <;> simp [State.footing]
  | contextClosed f c => simp [State.footing, closeOpen_eq, closeRecorded, closeOffered, closeCleared, closeInvalidated]
  | quiesceTaken f => unfold runQuiesce; split <;> simp [State.footing]
  | resumeTaken f => simp [State.footing, runResume]
  | paramSet f a => simp [State.footing, runSetParam]
  | faultsCleared f => simp [State.footing, runClearFaults]
  | handedOver f n => unfold runHandover; split <;> simp [State.footing]
  | bridgeReset f => simp [State.footing, runResetBridge]
  | missExpired id m w => simp [State.footing, State.endMiss]
  | responseExpired g o => simp [State.footing, State.afterEntry]
  | headForwarded u leaves =>
    have hfoot : u.footing = s.footing :=
      State.forwardHead_keeps State.footing (fun _ _ _ => rfl) (by simp [State.footing]) (by simp [State.footing])
        (by simp [State.footing]) leaves
    rw [← hfoot]
    simp [State.footing]
  | _ => simp [State.footing]

theorem State.arriveNear_footing (s : State) (f : Frame) {deal : State → State}
    (h : ∀ u : State, u.footing = s.footing → (deal u).footing = s.footing) : (s.arriveNear f deal).footing = s.footing := by
  unfold State.arriveNear
  split
  · rfl
  · split
    · exact h _ rfl
    · rfl

/-- Settles O3. -/
theorem commandsKeepQueueTimeAndStraps : Obligations.CommandsKeepQueueTimeAndStraps := by
  unfold Obligations.CommandsKeepQueueTimeAndStraps
  intro c s
  have kept {t : State} (he : exec c s = .next t) (hf : t.footing = s.footing) : ∃ t : State, exec c s = .next t ∧
      t.pending = s.pending ∧ ((t.time = s.time ∧ t.node = s.node ∧ t.managerStrap = s.managerStrap ∧
        t.powered = s.powered) ∨ (∃ n m, c = .powerOnReset n m) ∨ c = .powerGoodFall) := by
    obtain ⟨hp, hrest⟩ := footing_iff.mp hf
    exact ⟨t, he, hp, .inl hrest⟩
  cases hc : keepsAnswers c with
  | true =>
    obtain ⟨t, he, ctr, hd⟩ := exec_deed hc s
    exact kept he hd.footing
  | false =>
    cases c with
    | nearRequest k h body =>
      exact kept rfl (s.arriveNear_footing _ fun u hu => (u.intakeRequest_footing k h body).trans hu)
    | fence h body => exact kept rfl (s.arriveNear_footing _ fun u hu => (u.intakeFence_footing h body).trans hu)
    | nearFrameDiscard cls k h body => exact kept rfl (s.arriveNear_footing _ fun u hu => (u.routeNear_footing _).trans hu)
    | nearMgmtDiscard k h body =>
      exact kept rfl (s.arriveNear_footing _ fun u hu => by rw [← hu]; simp [State.footing, State.nearMgmt])
    | unknownKindRequest k h body =>
      exact kept rfl (s.arriveNear_footing _ fun u hu => (u.routeNear_footing
        { cls := .request, kind := k, hdr := h, body := body }).trans hu)
    | crcDiscard p bytes =>
      cases p with
      | far => cases hc
      | near =>
        refine kept rfl ?_
        unfold State.receiveNear
        split
        · rfl
        · split
          · rfl
          · exact s.arriveNear_footing _ fun u hu => (u.routeNear_footing _).trans hu
    | frameLeavesPort p =>
      cases p with
      | far => cases hc
      | near => exact kept rfl rfl
    | nearLinkDown =>
      cases hup : s.near.up with
      | true => exact kept (if_pos hup) (by simp [State.footing, State.nearLost])
      | false => exact kept (if_neg (by simp [hup])) rfl
    | powerOnReset n m => exact ⟨_, rfl, rfl, .inr (.inl ⟨n, m, rfl⟩)⟩
    | powerGoodFall => exact ⟨_, rfl, rfl, .inr (.inr rfl)⟩
    | _ => cases hc

/-! ## Reset and power -/

/-- Settles O4. -/
theorem powerOnState : Obligations.PowerOnState := by
  unfold Obligations.PowerOnState
  refine ⟨fun n m => ⟨State.powerOn n m, rfl, fun t w => ?_, rfl, fun id => ?_, fun a => ?_, fun g => ?_, fun k => ?_,
    fun c => ?_, rfl, rfl, rfl, rfl, rfl, rfl, rfl, rfl, rfl, rfl, rfl, rfl, rfl⟩, rfl⟩
  all_goals simp [State.powerOn, CacheSet.initial, Entry.initial, initialOrder]

/-- Settles O5. -/
theorem powerLinksAndSending : Obligations.PowerLinksAndSending := by
  unfold Obligations.PowerLinksAndSending
  intro s
  have sends {p : PortState} {f : Frame} {rest : List Frame} (hup : p.up = true) (hq : p.queue = f :: rest) :
      p.sendOne = { p with queue := rest, sent := p.sent ++ [frameBytes f] } := by
    unfold PortState.sendOne
    rw [hup, hq]
  have silent {p : PortState} (h : p.up = false ∨ p.queue = []) : p.sendOne = p := by
    unfold PortState.sendOne
    split
    · next hup hq => rw [hup, hq] at h; simp at h
    · rfl
  refine ⟨fun n m => rfl, rfl, fun hp p => ?_, fun hp => ⟨?_, ?_⟩, fun f rest hup hq => ?_, fun f rest hup hq => ?_,
    fun h => ?_, fun h => ?_⟩
  · exact if_neg (by simp [hp])
  · exact if_pos hp
  · exact if_pos hp
  · exact congrArg (fun p => Host.Outcome.next { s with near := p }) (sends hup hq)
  · exact congrArg (fun p => Host.Outcome.next { s with far := p }) (sends hup hq)
  · exact congrArg (fun p => Host.Outcome.next { s with near := p }) (silent h)
  · exact congrArg (fun p => Host.Outcome.next { s with far := p }) (silent h)

/-- Settles O49. -/
theorem lawsHoldAtReset : Obligations.LawsHoldAtReset := by
  unfold Obligations.LawsHoldAtReset
  rintro n m - rfl
  have hself : (State.powerOn n m).restarted n m true = State.powerOn n m := rfl
  rw [← hself]
  refine ⟨cacheLaws_initial rfl rfl, boundLaws_powerOn (n := n) (m := m) rfl rfl rfl rfl rfl rfl,
    portLaws_restarted .., missLaws_iff.mpr (missOk_restarted ..), identitiesDistinct_iff.mpr fun x => ?_,
    fenceLaws_iff.mpr (fenceOk_restarted ..), readyLaws_restarted .., purgeLaws_iff.mpr (marksOk_restarted ..),
    contextLaws_iff.mpr (ctxOk_restarted _ n m true), quiesceLaws_iff.mpr (quiesceOk_running rfl)⟩
  exact (State.carried_restarted _ n m true x).le.trans (Nat.zero_le 1)

end Sys2Proof.Machine
end

section
/-! PROOF. What the encodings keep: frames, entry records and fault records (O8, O9, O10, O48). -/

namespace Sys2Proof.Machine

open Sys2Proof.Safety

/-! ## Bytes of numbers -/

theorem toNat_append_byte {n : Nat} (a : BitVec n) (b : Byte) : (a ++ b).toNat = a.toNat * 256 + b.toNat := by
  rw [BitVec.toNat_append, Nat.shiftLeft_eq, Nat.mul_comm, ← Nat.two_pow_add_eq_or_of_lt b.isLt]

theorem extract_byte {n : Nat} (x : BitVec n) (k : Nat) : BitVec.ofNat 8 (x.toNat / 2 ^ k) = x.extractLsb' k 8 := by
  refine BitVec.eq_of_toNat_eq ?_
  rw [BitVec.toNat_ofNat, BitVec.extractLsb'_toNat, Nat.shiftRight_eq_div_pow]

/-- The bytes of a number, most significant first, are its eight-bit fields. -/
theorem beBytes_two_fields (x : BitVec 16) : beBytes 2 x.toNat = [x.extractLsb' 8 8, x.extractLsb' 0 8] := by
  rw [← extract_byte, ← extract_byte]
  rfl

theorem beBytes_four_fields {n : Nat} (x : BitVec n) :
    beBytes 4 x.toNat = [x.extractLsb' 24 8, x.extractLsb' 16 8, x.extractLsb' 8 8, x.extractLsb' 0 8] := by
  rw [← extract_byte, ← extract_byte, ← extract_byte, ← extract_byte]
  rfl

theorem append_four_fields {n : Nat} (hn : n ≤ 32) (x : BitVec n) :
    x.extractLsb' 24 8 ++ x.extractLsb' 16 8 ++ x.extractLsb' 8 8 ++ x.extractLsb' 0 8 = x.setWidth 32 := by
  refine BitVec.eq_of_toNat_eq ?_
  have hx : x.toNat < 2 ^ 32 := x.isLt.trans_le (Nat.pow_le_pow_right (by decide) hn)
  simp only [toNat_append_byte, BitVec.extractLsb'_toNat, Nat.shiftRight_eq_div_pow, BitVec.toNat_setWidth]
  omega

/-! ## Frames -/

theorem classKindByte_toNat (c : FrameClass) (k : BitVec 6) : (classKindByte c k).toNat = classCode c * 64 + k.toNat := by
  have := k.isLt
  refine byteOf_toNat ?_
  cases c <;> simp only [classCode] <;> omega

theorem classOf_classCode (c : FrameClass) : classOf (classCode c) = c := by
  cases c <;> rfl

theorem classCode_classOf {n : Nat} (h : n < 4) : classCode (classOf n) = n := by
  have : n = 0 ∨ n = 1 ∨ n = 2 ∨ n = 3 := by omega
  rcases this with rfl | rfl | rfl | rfl <;> rfl

/-- Byte 0 is read back as the class and the kind (Table 10-1). -/
theorem classKindByte_read (c : FrameClass) (k : BitVec 6) :
    classOf ((classKindByte c k).toNat / 64) = c ∧ BitVec.ofNat 6 ((classKindByte c k).toNat % 64) = k := by
  have hk := k.isLt
  have hclass : (classCode c * 64 + k.toNat) / 64 = classCode c := by omega
  have hkind : (classCode c * 64 + k.toNat) % 64 = k.toNat := by omega
  rw [classKindByte_toNat, hclass, hkind]
  exact ⟨classOf_classCode c, BitVec.ofNat_toNat ..⟩

/-- Every byte 0 is that of its class and kind. -/
theorem classKindByte_written (b : Byte) : classKindByte (classOf (b.toNat / 64)) (BitVec.ofNat 6 (b.toNat % 64)) = b := by
  have hb := b.isLt
  refine BitVec.eq_of_toNat_eq ?_
  rw [classKindByte_toNat, classCode_classOf (by omega), BitVec.toNat_ofNat]
  omega

theorem frameHead_eq (f : Frame) {hi lo : Byte} (h : beBytes 2 f.body.length = [hi, lo]) : frameHead f =
    classKindByte f.cls f.kind :: f.hdr.dst :: f.hdr.src :: f.hdr.tag :: hi :: lo :: f.hdr.seq :: f.hdr.last :: f.body := by
  unfold frameHead
  rw [h]
  rfl

/-- Settles O8: the length is read back, the trailer is the CRC of the same bytes, and byte 0 is read back. -/
theorem sentFrameIsReceived : Obligations.SentFrameIsReceived := by
  unfold Obligations.SentFrameIsReceived
  intro f hf
  obtain ⟨hi, lo, hlen⟩ : ∃ hi lo, beBytes 2 f.body.length = [hi, lo] := ⟨_, _, rfl⟩
  have hn : beNat [hi, lo] = f.body.length := by
    rw [← hlen, beNat_beBytes]
    exact Nat.mod_eq_of_lt (by omega)
  obtain ⟨hcls, hkind⟩ := classKindByte_read f.cls f.kind
  have hsize : beNat [hi, lo] ≤ Config.maxBody ∧
      (f.body ++ beBytes 2 (crc16 (frameHead f)).toNat).length = beNat [hi, lo] + 2 := by
    rw [hn, List.length_append, beBytes_length]
    exact ⟨hf, rfl⟩
  have htake : (f.body ++ beBytes 2 (crc16 (frameHead f)).toNat).take (beNat [hi, lo]) = f.body := by
    rw [hn, List.take_left]
  have hdrop : (f.body ++ beBytes 2 (crc16 (frameHead f)).toNat).drop (beNat [hi, lo]) =
      beBytes 2 (crc16 (frameHead f)).toNat := by
    rw [hn, List.drop_left]
  have hbytes : frameBytes f = classKindByte f.cls f.kind :: f.hdr.dst :: f.hdr.src :: f.hdr.tag :: hi :: lo :: f.hdr.seq ::
      f.hdr.last :: (f.body ++ beBytes 2 (crc16 (frameHead f)).toNat) := by
    rw [frameBytes]
    nth_rw 1 [frameHead_eq f hlen]
    rfl
  rw [hbytes]
  unfold parseFrame
  dsimp only
  rw [if_pos hsize, htake, hdrop, ← frameHead_eq f hlen, if_pos rfl, hcls, hkind]

/-- Bytes taken as a frame are the bytes of that frame. -/
theorem parseFrame_some {bytes : List Byte} {f : Frame} (h : parseFrame bytes = some f) :
    f.body.length ≤ 300 ∧ frameBytes f = bytes := by
  unfold parseFrame at h
  split at h
  · next b0 dst src tag l1 l0 seq last rest =>
    dsimp only at h
    split at h
    · next hsize =>
      obtain ⟨hmax, hrest⟩ := hsize
      split at h
      · next hcrc =>
        obtain rfl := Option.some.inj h
        have hlen : (rest.take (beNat [l1, l0])).length = beNat [l1, l0] := by
          rw [List.length_take, hrest]
          omega
        have hbytes : beBytes 2 (rest.take (beNat [l1, l0])).length = [l1, l0] := by
          have : beNat [l1, l0] = (l1 ++ l0).toNat := by rw [toNat_append_byte]; simp [beNat]
          rw [hlen, this]
          exact beBytes_two l1 l0
        refine ⟨hlen.le.trans hmax, ?_⟩
        have hhead := frameHead_eq
          { cls := classOf (b0.toNat / 64), kind := BitVec.ofNat 6 (b0.toNat % 64)
            hdr := { dst := dst, src := src, tag := tag, seq := seq, last := last }
            body := rest.take (beNat [l1, l0]) } hbytes
        rw [classKindByte_written] at hhead
        dsimp only at hhead
        rw [frameBytes, hhead, ← hcrc]
        simp
      · cases h
    · cases h
  · cases h

/-- Settles O9. -/
theorem crcDiscard : Obligations.CrcDiscard := by
  unfold Obligations.CrcDiscard
  intro s bytes
  refine ⟨fun hno => ?_, fun hn => ?_, fun hf => ?_⟩
  · have hparse : parseFrame bytes = none := by
      cases hp : parseFrame bytes with
      | none => rfl
      | some f => exact absurd ⟨f, parseFrame_some hp⟩ hno
    constructor
    · intro hup
      change Host.Outcome.next (s.receiveNear bytes) = _
      rw [State.receiveNear, if_neg (by simp [hup]), hparse]
    · intro hup
      change Host.Outcome.next (s.receiveFar bytes) = _
      rw [State.receiveFar, if_neg (by simp [hup]), hparse]
  · exact congrArg Host.Outcome.next (if_pos hn)
  · exact congrArg Host.Outcome.next (if_pos hf)

/-! ## Entry records -/

/-- The flags byte is read back, bit by bit (Table 10-5). -/
theorem entryFlags_read (e : Entry) :
    (entryFlags e).getLsbD 7 = e.valid ∧ (entryFlags e).getLsbD 6 = e.isGlobal ∧ (entryFlags e).getLsbD 5 = e.pinned ∧
      actionOf (entryFlags e) = some e.action ∧ (entryFlags e).getLsbD 2 = e.read ∧ (entryFlags e).getLsbD 1 = e.write ∧
      (entryFlags e).getLsbD 0 = e.user := by
  have hflags : entryFlags e = byteOf ((if e.valid then 128 else 0) + (if e.isGlobal then 64 else 0)
      + (if e.pinned then 32 else 0) + actionCode e.action * 8 + (if e.read then 4 else 0)
      + (if e.write then 2 else 0) + (if e.user then 1 else 0)) := by
    simp [entryFlags, Entry.isGlobal]
  rw [hflags]
  generalize e.valid = v, e.isGlobal = g, e.pinned = p, e.action = a, e.read = r, e.write = w, e.user = u
  cases a <;> (revert v g p r w u; decide)

theorem scopeOf_scopeByte (e : Entry) : scopeOf (entryFlags e) (scopeByte e.scope) = some e.scope := by
  obtain ⟨-, hglobal, -⟩ := entryFlags_read e
  unfold scopeOf
  rw [hglobal, Entry.isGlobal]
  cases e.scope with
  | allContexts => rfl
  | context c =>
    rw [if_neg (by simp), scopeByte, inRange_byteOf (by decide)]
    rfl

theorem pageOfBytes_read (p : Page) : pageOfBytes (beBytes 4 p.toNat) = some p := by
  have := p.isLt
  have hmod : p.toNat % 256 ^ 4 = p.toNat := Nat.mod_eq_of_lt (by omega)
  rw [pageOfBytes, beNat_beBytes, hmod, if_pos this, BitVec.ofNat_toNat, BitVec.setWidth_eq]

theorem physPageOfBytes_read (p : PhysPage) : physPageOfBytes (beBytes 3 p.toNat) = some p := by
  have := p.isLt
  have hmod : p.toNat % 256 ^ 3 = p.toNat := Nat.mod_eq_of_lt (by omega)
  rw [physPageOfBytes, beNat_beBytes, hmod, if_pos this, BitVec.ofNat_toNat, BitVec.setWidth_eq]

/-- A valid entry's record is read back (R17). -/
theorem entryOfBytes_read {e : Entry} (valid : e.valid = true) {p3 p2 p1 p0 q2 q1 q0 : Byte}
    (hp : beBytes 4 e.page.toNat = [p3, p2, p1, p0]) (hq : beBytes 3 e.ppage.toNat = [q2, q1, q0]) :
    entryOfBytes (entryFlags e) (scopeByte e.scope) p3 p2 p1 p0 (byteOf e.node.val) q2 q1 q0 = some e := by
  obtain ⟨hv, -, hpin, haction, hread, hwrite, huser⟩ := entryFlags_read e
  unfold entryOfBytes
  rw [if_pos (hv.trans valid), haction, scopeOf_scopeByte, ← hp, pageOfBytes_read, inRange_byteOf (by decide), ← hq,
    physPageOfBytes_read, hread, hwrite, huser, hpin]
  obtain ⟨v, c, p, n, pp, a, r, w, u, pin⟩ := e
  cases valid
  rfl

theorem fillArgs_entryBytes {e : Entry} (valid : e.valid = true) {way id gen : Byte} {w : WayChoice}
    {t : Option Ticket} (hw : wayChoiceOf way = some w) (ht : fillTicketOf id gen = some t) :
    fillArgs (entryBytes e ++ [way, id, gen]) = some { entry := e, way := w, ticket := t } := by
  obtain ⟨p3, p2, p1, p0, hp⟩ : ∃ p3 p2 p1 p0, beBytes 4 e.page.toNat = [p3, p2, p1, p0] := ⟨_, _, _, _, rfl⟩
  obtain ⟨q2, q1, q0, hq⟩ : ∃ q2 q1 q0, beBytes 3 e.ppage.toNat = [q2, q1, q0] := ⟨_, _, _, rfl⟩
  have hbytes : entryBytes e ++ [way, id, gen] =
      [entryFlags e, scopeByte e.scope, p3, p2, p1, p0, byteOf e.node.val, q2, q1, q0, way, id, gen] := by
    rw [entryBytes, hp, hq]
    rfl
  rw [hbytes]
  unfold fillArgs
  dsimp only
  rw [entryOfBytes_read valid hp hq, hw, ht]

/-- Settles O10. -/
theorem entryRecordIsReadBack : Obligations.EntryRecordIsReadBack := by
  unfold Obligations.EntryRecordIsReadBack
  intro e id gen w valid
  have hbyte {k : Nat} (hk : k ≤ 256) (i : Fin k) : (byteOf i.val).toNat = i.val := byteOf_toNat (by omega)
  refine ⟨fillArgs_entryBytes valid rfl rfl, fillArgs_entryBytes valid ?_ ?_⟩
  · have hne : byteOf w.val ≠ 4 := fun h => by
      have := congrArg BitVec.toNat h
      rw [hbyte (by decide)] at this
      have hlt := w.isLt
      simp at this
      omega
    rw [wayChoiceOf, if_neg hne, inRange_byteOf (by decide)]
    rfl
  · have hne : byteOf id.val ≠ 255 := fun h => by
      have := congrArg BitVec.toNat h
      rw [hbyte (by decide)] at this
      have hlt := id.isLt
      simp at this
      omega
    rw [fillTicketOf, if_neg hne, inRange_byteOf (by decide)]
    rfl

/-! ## Fault records -/

/-- The presence byte, bit by bit (Table 10-8). -/
theorem presenceByte_read (w : FaultBody) :
    (presenceByte w).getLsbD 7 = false ∧ (presenceByte w).getLsbD 6 = w.agent.isSome ∧
      (presenceByte w).getLsbD 5 = w.tag.isSome ∧ (presenceByte w).getLsbD 4 = w.ctx.isSome ∧
      (presenceByte w).getLsbD 3 = w.page.isSome ∧ (presenceByte w).getLsbD 2 = w.node.isSome ∧
      (presenceByte w).getLsbD 1 = w.port.isSome ∧ (presenceByte w).getLsbD 0 = w.count.isSome := by
  unfold presenceByte
  generalize w.agent.isSome = a, w.tag.isSome = t, w.ctx.isSome = c, w.page.isSome = p, w.node.isSome = n,
    w.port.isSome = q, w.count.isSome = k
  revert a t c p n q k
  decide

theorem optByte_fin {n : Nat} (x : Option (Fin n)) : optByte (x.map Fin.val) = x.elim 0xFF fun i => byteOf i.val := by
  cases x <;> rfl

theorem FaultLog.append_eq (l : FaultLog) (time : Time) (w : FaultBody) : l.append time w =
    { ring := (if l.ring.length < 32 then l.ring else l.ring.drop 1) ++ [{ number := l.nextNumber, time := time, what := w }]
      nextNumber := l.nextNumber + 1
      overwritten := if l.ring.length < 32 ∨ l.overwritten = 255 then l.overwritten else l.overwritten + 1 } := by
  unfold FaultLog.append
  dsimp only
  split
  · next h =>
    have h32 : l.ring.length < 32 := h
    simp [h32]
  · next h =>
    have h32 : ¬l.ring.length < 32 := h
    simp only [h32, if_false, false_or, bumpOverwritten, List.drop_one]
    congr 1
    split
    · next h255 => exact h255.symm
    · rfl

/-- The four bytes of the optional page (Table 10-8). -/
def faultPageBytes (page : Option Page) : List Byte :=
  page.elim [0xFF#8, 0xFF#8, 0xFF#8, 0xFF#8] fun p => beBytes 4 p.toNat

theorem faultPageBytes_read (page : Option Page) : ∃ p3 p2 p1 p0 : Byte, faultPageBytes page = [p3, p2, p1, p0] ∧
    p3 ++ p2 ++ p1 ++ p0 = page.elim 0xFFFFFFFF (fun x => x.setWidth 32) := by
  cases page with
  | none => exact ⟨_, _, _, _, rfl, rfl⟩
  | some p => exact ⟨_, _, _, _, beBytes_four_fields p, append_four_fields (by decide) p⟩

theorem faultBytes_eq (r : FaultRecord) : faultBytes r =
    beBytes 2 r.number.toNat ++ beBytes 4 r.time.toNat
      ++ [faultKindCode r.what.kind, presenceByte r.what, optByte (r.what.agent.map Fin.val),
        optByte (r.what.tag.map Fin.val), optByte (r.what.ctx.map Fin.val)]
      ++ faultPageBytes r.what.page
      ++ [optByte (r.what.node.map Fin.val), optByte (r.what.port.map portCode),
        optByte (r.what.count.map BitVec.toNat), r.what.detail] := by
  unfold faultBytes
  cases r.what.page <;> rfl

/-- Settles O48. -/
theorem faultRecordMade : Obligations.FaultRecordMade := by
  unfold Obligations.FaultRecordMade
  constructor
  · intro r
    obtain ⟨p3, p2, p1, p0, hp, hpage⟩ := faultPageBytes_read r.what.page
    obtain ⟨b7, b6, b5, b4, b3, b2, b1, b0⟩ := presenceByte_read r.what
    refine ⟨faultKindCode r.what.kind, presenceByte r.what, _, _, _, p3, p2, p1, p0, _, optByte (r.what.port.map portCode),
      optByte (r.what.count.map BitVec.toNat), ?_, ?_, b7, b6, b5, b4, b3, b2, b1, b0, optByte_fin r.what.agent,
      optByte_fin r.what.tag, optByte_fin r.what.ctx, hpage, optByte_fin r.what.node, ?_, ?_⟩
    · rw [faultBytes_eq, beBytes_two_fields, beBytes_four_fields, hp]
      rfl
    · cases r.what.kind <;> rfl
    · cases r.what.port with
      | none => rfl
      | some p => cases p <;> rfl
    · cases r.what.count with
      | none => rfl
      | some n => exact byteOf_byte n
  · rintro s w l r rfl rfl
    rw [← FaultLog.append_eq]
    refine ⟨fun m hon hup hm => ?_, fun hoff => ?_⟩
    · unfold State.makeFault State.notice
      dsimp only
      rw [if_pos hon, hup, hm]
      rfl
    · unfold State.makeFault State.notice
      dsimp only
      split
      · next hon =>
        rcases hoff with h | h | h
        · rw [h] at hon; cases hon
        · rw [h]
        · rw [h]
          split <;> simp_all
      · rfl

end Sys2Proof.Machine
end

section
/-! PROOF. Near frames discarded, bodies inconsistent with their kind, identities in flight, and the judgment of a far
response (O11, O13, O19). -/

namespace Sys2Proof.Machine

open Sys2Proof.Safety

/-! ## A near REQUEST frame taken -/

theorem exec_nearRequest_takes {s : State} {body : List Byte} (takes : NearTakes s body) (kind : ReqKind) (h : Header) :
    exec (.nearRequest kind h body) s = .next ((nearTaken s).intakeRequest kind h body) :=
  congrArg Host.Outcome.next (State.arriveNear_takes (f := { cls := .request, kind := reqCode kind, hdr := h, body := body })
    takes _)

theorem exec_fence_takes {s : State} {body : List Byte} (takes : NearTakes s body) (h : Header) :
    exec (.fence h body) s = .next ((nearTaken s).intakeFence h body) :=
  congrArg Host.Outcome.next (State.arriveNear_takes (f := { cls := .request, kind := fenceCode, hdr := h, body := body })
    takes _)

theorem State.identified_noAgent {s : State} {h : Header} (ha : agentOf h = none) (deal : Agent → NearTag → State → State) :
    s.identified h deal = s.makeFault (malformedFault none (nearTagOf h) none 17) := by
  unfold State.identified
  rw [ha]

theorem State.identified_noTag {s : State} {h : Header} {a : Agent} (ha : agentOf h = some a) (hg : nearTagOf h = none)
    (deal : Agent → NearTag → State → State) :
    s.identified h deal = s.makeFault (malformedFault (some a) none none 18) := by
  unfold State.identified
  rw [ha, hg]

theorem State.identified_both {s : State} {h : Header} {a : Agent} {g : NearTag} (ha : agentOf h = some a)
    (hg : nearTagOf h = some g) (deal : Agent → NearTag → State → State) : s.identified h deal = deal a g s := by
  unfold State.identified
  rw [ha, hg]

theorem State.intake_unknown {s : State} {f : Frame} (h : f.kind.toNat = 0 ∨ 4 < f.kind.toNat) :
    s.intake f = s.makeFault (malformedFault (agentOf f.hdr) (nearTagOf f.hdr) none 16) := by
  unfold State.intake
  split
  · next h1 => omega
  · next h2 => omega
  · next h3 => omega
  · next h4 => omega
  · rfl

/-- Settles O11. -/
theorem nearFramesDiscarded : Obligations.NearFramesDiscarded := by
  unfold Obligations.NearFramesDiscarded
  intro s h body kind takes
  refine ⟨?_, ?_, fun unknown => ?_, fun ha k => ?_, fun ha => ?_, fun a ha hg => ⟨fun k => ?_, ?_⟩⟩
  · exact congrArg Host.Outcome.next (State.arriveNear_takes (f := { cls := .response, kind := kind, hdr := h, body := body })
      takes _)
  · exact congrArg Host.Outcome.next (State.arriveNear_takes (f := { cls := .fourth, kind := kind, hdr := h, body := body })
      takes _)
  · exact congrArg Host.Outcome.next ((State.arriveNear_takes (f := { cls := .request, kind := kind, hdr := h, body := body })
      takes _).trans (State.intake_unknown unknown))
  · exact (exec_nearRequest_takes takes k h).trans (congrArg Host.Outcome.next (State.identified_noAgent ha _))
  · exact (exec_fence_takes takes h).trans (congrArg Host.Outcome.next (State.identified_noAgent ha _))
  · exact (exec_nearRequest_takes takes k h).trans (congrArg Host.Outcome.next (State.identified_noTag ha hg _))
  · exact (exec_fence_takes takes h).trans (congrArg Host.Outcome.next (State.identified_noTag ha hg _))

/-! ## Bodies against their kind (R61) -/

theorem payloadFits_iff {kind : ReqKind} {l : Byte} {payload : List Byte} :
    payloadFits kind (lengthOf l) payload = true ↔
      (kind = .read → payload = []) ∧ (kind ≠ .read → payload.length = l.toNat + 1) := by
  cases kind <;> simp [payloadFits, lengthOf]

/-- A body is shorter than its fixed part, or it is the fixed part and a payload. -/
theorem body_cases (body : List Byte) : body.length < 8 ∨ ∃ c m a4 a3 a2 a1 a0 l payload,
    body = c :: m :: a4 :: a3 :: a2 :: a1 :: a0 :: l :: payload := by
  match body with
  | c :: m :: a4 :: a3 :: a2 :: a1 :: a0 :: l :: payload => exact .inr ⟨c, m, a4, a3, a2, a1, a0, l, payload, rfl⟩
  | [] | [_] | [_, _] | [_, _, _] | [_, _, _, _] | [_, _, _, _, _] | [_, _, _, _, _, _] | [_, _, _, _, _, _, _] =>
    exact .inl (by simp)

theorem judgeBody_short {kind : ReqKind} {a : Agent} {g : NearTag} {body : List Byte} (short : body.length < 8) :
    judgeBody kind a g body = .malformed 1 (bodyCtx body) := by
  unfold judgeBody
  split
  · simp at short
    omega
  · rfl

theorem bodyCtx_eq (body : List Byte) : bodyCtx body = if body = [] then none else inRange 16 (body.getD 0 0).toNat := by
  cases body <;> rfl

/-- The length test of R61: fixed part, then payload. -/
theorem judgeBody_badLength {kind : ReqKind} {a : Agent} {g : NearTag} {body : List Byte}
    (bad : body.length < 8 ∨ (kind = .read ∧ body.length ≠ 8) ∨ (kind ≠ .read ∧ body.length ≠ 9 + (body.getD 7 0).toNat)) :
    judgeBody kind a g body = .malformed 1 (bodyCtx body) := by
  rcases body_cases body with short | ⟨c, m, a4, a3, a2, a1, a0, l, payload, rfl⟩
  · exact judgeBody_short short
  · have unfit : payloadFits kind (lengthOf l) payload = false := by
      rw [Bool.eq_false_iff, ne_eq, payloadFits_iff]
      rintro ⟨hread, hother⟩
      simp only [List.length_cons, List.getD_cons_succ, List.getD_cons_zero] at bad
      rcases bad with bad | ⟨hk, bad⟩ | ⟨hk, bad⟩
      · omega
      · rw [hread hk] at bad
        exact bad rfl
      · have := hother hk
        omega
    simp only [judgeBody, unfit, Bool.false_eq_true, if_false]

/-- A body of good length is its fixed part and a payload that fits (R61). -/
theorem body_of_goodLength {kind : ReqKind} {body : List Byte}
    (good : (kind = .read ∧ body.length = 8) ∨ (kind ≠ .read ∧ 8 < body.length ∧ body.length = 9 + (body.getD 7 0).toNat)) :
    ∃ c m a4 a3 a2 a1 a0 l payload, body = c :: m :: a4 :: a3 :: a2 :: a1 :: a0 :: l :: payload ∧
      payloadFits kind (lengthOf l) payload = true := by
  rcases body_cases body with short | ⟨c, m, a4, a3, a2, a1, a0, l, payload, rfl⟩
  · omega
  · refine ⟨c, m, a4, a3, a2, a1, a0, l, payload, rfl, payloadFits_iff.mpr ⟨fun hk => ?_, fun hk => ?_⟩⟩
    · rcases good with ⟨-, good⟩ | ⟨hk', -⟩
      · simpa using good
      · exact absurd hk hk'
    · rcases good with ⟨hk', -⟩ | ⟨-, -, good⟩
      · exact absurd hk' hk
      · simp only [List.length_cons, List.getD_cons_succ, List.getD_cons_zero] at good
        omega

theorem modeOf_none {b : Byte} (h : 1 < b.toNat) : modeOf b = none := by
  have h0 : b ≠ 0 := by rintro rfl; simp at h
  have h1 : b ≠ 1 := by rintro rfl; simp at h
  rw [modeOf, if_neg h0, if_neg h1]

theorem judgeBody_badCtx {kind : ReqKind} {a : Agent} {g : NearTag} {body : List Byte}
    (good : (kind = .read ∧ body.length = 8) ∨ (kind ≠ .read ∧ 8 < body.length ∧ body.length = 9 + (body.getD 7 0).toNat))
    (bad : 15 < (body.getD 0 0).toNat) : judgeBody kind a g body = .malformed 2 none := by
  obtain ⟨c, m, a4, a3, a2, a1, a0, l, payload, rfl, fits⟩ := body_of_goodLength good
  have hctx : inRange 16 c.toNat = none := inRange_none bad
  simp only [judgeBody, fits, if_true, hctx]

theorem judgeBody_badMode {kind : ReqKind} {a : Agent} {g : NearTag} {body : List Byte}
    (good : (kind = .read ∧ body.length = 8) ∨ (kind ≠ .read ∧ 8 < body.length ∧ body.length = 9 + (body.getD 7 0).toNat))
    (ctx : (body.getD 0 0).toNat ≤ 15) (bad : 1 < (body.getD 1 0).toNat) :
    judgeBody kind a g body = .malformed 3 (inRange 16 (body.getD 0 0).toNat) := by
  obtain ⟨c, m, a4, a3, a2, a1, a0, l, payload, rfl, fits⟩ := body_of_goodLength good
  have hctx : inRange 16 c.toNat = some ⟨c.toNat, Nat.lt_succ_of_le ctx⟩ := inRange_some _
  simp only [judgeBody, fits, if_true, hctx, modeOf_none (b := m) bad, List.getD_cons_zero]

/-! ## Malformed bodies and duplicates -/

theorem exec_nearRequest_malformed {s : State} {kind : ReqKind} {h : Header} {body : List Byte} {a : Agent} {g : NearTag}
    {d : Byte} {ctx : Option Ctx} (takes : NearTakes s body) (ha : agentOf h = some a) (hg : nearTagOf h = some g)
    (judged : judgeBody kind a g body = .malformed d ctx) :
    exec (.nearRequest kind h body) s = .next ((refuseNear (nearTaken s) kind a g 12 d).makeFault
      (malformedFault (some a) (some g) ctx d)) := by
  rw [exec_nearRequest_takes takes, State.intakeRequest, State.identified_both ha hg, judged]
  dsimp only
  rw [State.answerIf_refusal_up (s := nearTaken s) takes.1]
  rfl

/-- A near identity in flight, by what holds it (R62). -/
theorem State.inFlight_iff {s : State} {a : Agent} {g : NearTag} : s.inFlight a g = true ↔
    (∃ r ∈ s.park, r.agent = a ∧ r.tag = g) ∨
      (∃ (i : BridgeTag) (o : OutEntry), s.outs[i] = some o ∧ o.phase = .waiting ∧ o.orphan = false ∧ o.agent = a ∧
        o.tag = g) ∨ s.fences[a] = some g := by
  have hlive (o : OutEntry) : (o.live && o.agent == a && o.tag == g) = true ↔
      o.phase = .waiting ∧ o.orphan = false ∧ o.agent = a ∧ o.tag = g := by
    simp only [OutEntry.live, Bool.and_eq_true, beq_iff_eq, Bool.not_eq_true', and_assoc]
  have houts : (s.outs.toList.any fun o => o.any fun e => e.live && e.agent == a && e.tag == g) = true ↔ _ :=
    anyEntry_iff (v := s.outs)
  simp only [hlive] at houts
  rw [State.inFlight, Bool.or_eq_true, Bool.or_eq_true, houts, or_assoc, beq_iff_eq]
  simp only [List.any_eq_true, Bool.and_eq_true, beq_iff_eq]

theorem exec_nearRequest_duplicate {s : State} {kind : ReqKind} {h : Header} {body : List Byte} {a : Agent} {g : NearTag}
    {r : Request} (takes : NearTakes s body) (ha : agentOf h = some a) (hg : nearTagOf h = some g)
    (judged : judgeBody kind a g body = .good r) (flying : s.inFlight a g = true) :
    exec (.nearRequest kind h body) s = .next ((nearTaken s).makeFault (dupTagFault a g (reqCode kind))) := by
  rw [exec_nearRequest_takes takes, State.intakeRequest, State.identified_both ha hg, judged]
  exact congrArg Host.Outcome.next (if_pos flying)

/-- Settles O13. -/
theorem malformedAndDuplicates : Obligations.MalformedAndDuplicates := by
  unfold Obligations.MalformedAndDuplicates
  constructor
  · intro s h body a g takes ha hg
    refine ⟨fun kind => ⟨fun bad => ?_, fun good => ⟨fun ctx => ?_, fun ctx mode => ?_⟩⟩, fun filled => ?_⟩
    · rw [exec_nearRequest_malformed takes ha hg (judgeBody_badLength bad), bodyCtx_eq]
      rfl
    · rw [exec_nearRequest_malformed takes ha hg (judgeBody_badCtx good ctx)]
      rfl
    · rw [exec_nearRequest_malformed takes ha hg (judgeBody_badMode good ctx mode)]
      rfl
    · rw [exec_fence_takes takes, State.intakeFence, State.identified_both ha hg, if_pos filled,
        State.answer_refuse_up (s := nearTaken s) takes.1]
      rfl
  · intro s h a g up ha hg flying
    have flies : s.inFlight a g = true := State.inFlight_iff.mpr flying
    refine ⟨fun kind body r fits judged => ?_, ?_⟩
    · rw [exec_nearRequest_duplicate ⟨up, fits⟩ ha hg judged flies]
      cases kind <;> rfl
    · rw [exec_fence_takes ⟨up, by simp⟩, State.intakeFence, State.identified_both ha hg, if_neg (by simp)]
      exact congrArg Host.Outcome.next (if_pos flies)

/-! ## The judgment of a response (Table 4-2) -/

/-- Settles O19. -/
theorem responseTable : Obligations.ResponseTable := by
  unfold Obligations.ResponseTable
  intro len body
  refine ⟨fun fits => ?_, fun misfits => ?_, rfl, rfl, fun filled => ?_, rfl, fun kind => ⟨fun code detail => rfl,
    fun misfits => ?_, fun c h1 h2 h3 => ?_⟩⟩
  · exact if_pos fits
  · exact if_neg misfits
  · exact if_neg filled
  · show (match body with
      | [reason, _] => _
      | _ => _) = _
    split
    · simp at misfits
    · rfl
  · exact (if_neg h1).trans ((if_neg h2).trans (if_neg h3))

end Sys2Proof.Machine
end

section
/-! PROOF. Request intake from step 6 on: refusals, misses, hits and fences (O14 to O18). -/

namespace Sys2Proof.Machine

open Sys2Proof.Safety

/-! ## Steps 6 to 10 -/

/-- A request that passes steps 1 to 5 of Table 3-1 goes on to step 6. -/
theorem exec_nearRequest_arrives {s : State} {kind : ReqKind} {h : Header} {body : List Byte} {r : Request}
    (arrives : Arrives s kind h body r) : exec (.nearRequest kind h body) s = .next ((nearTaken s).accept r) := by
  obtain ⟨takes, ha, hg, judged, fresh⟩ := arrives
  rw [exec_nearRequest_takes takes, State.intakeRequest, State.identified_both ha hg, judged]
  exact congrArg Host.Outcome.next (if_neg (by rw [show (nearTaken s).inFlight r.agent r.tag = false from fresh]; decide))

theorem withinPage_iff {address : BitVec 40} {len : Nat} :
    withinPage address len = true ↔ (offsetOf address).toNat + len ≤ 16384 := by
  rw [withinPage, decide_eq_true_iff]
  rfl

theorem State.accept_notRunning {s : State} {r : Request} (hb : s.bridge ≠ .running) : s.accept r = s.turnAway r .busy 1 :=
  if_pos hb

theorem State.accept_farDown {s : State} {r : Request} (hb : s.bridge = .running) (hf : s.far.up = false) :
    s.accept r = s.turnAway r .link 0 := by
  rw [State.accept, if_neg (not_not_intro hb), if_pos hf]

theorem State.accept_beyondPage {s : State} {r : Request} (hb : s.bridge = .running) (hf : s.far.up = true)
    (hw : withinPage r.address r.len = false) : s.accept r = match r.kind with
      | .read => s.answer r.agent r.tag (.refuse .boundary 0)
      | .write => s.answer r.agent r.tag (.refuse .boundary 0)
      | .post => s.makeFault (requestFault .boundary r.agent r.tag r.ctx r.page 0) := by
  have hup : ¬s.far.up = false := by rw [hf]; decide
  have hout : (!withinPage r.address r.len) = true := by rw [hw]; decide
  exact (if_neg (not_not_intro hb)).trans ((if_neg hup).trans (if_pos hout))

theorem State.accept_withinPage {s : State} {r : Request} (hb : s.bridge = .running) (hf : s.far.up = true)
    (hw : withinPage r.address r.len = true) : s.accept r = match s.ctxs[r.ctx].state with
      | .closed => s.turnAway r .noContext 0
      | .closing _ => s.turnAway r .noContext 1
      | .opened =>
        if r.mode = .user ∧ s.ctxs[r.ctx].supOnly = true then s.turnAwayWith r .rights .rights 3 else s.lookup r := by
  have hup : ¬s.far.up = false := by rw [hf]; decide
  have hin : ¬(!withinPage r.address r.len) = true := by rw [hw]; decide
  exact (if_neg (not_not_intro hb)).trans ((if_neg hup).trans (if_neg hin))

theorem State.accept_admitted {s : State} {r : Request} (admitted : Admitted s r) : s.accept r = s.lookup r := by
  obtain ⟨hb, hf, hw, ho, hu⟩ := admitted
  rw [State.accept_withinPage hb hf hw, ho]
  exact if_neg hu

/-- A request that the entry check of no entry refuses for BOUNDARY: refused, or a POST recorded (R65). -/
theorem State.boundary_up {s : State} (h : s.near.up = true) (r : Request) :
    (match r.kind with
      | .read => s.answer r.agent r.tag (.refuse .boundary 0)
      | .write => s.answer r.agent r.tag (.refuse .boundary 0)
      | .post => s.makeFault (requestFault .boundary r.agent r.tag r.ctx r.page 0)) =
      if r.kind = .post then s.makeFault (requestFault .boundary r.agent r.tag r.ctx r.page 0)
      else refuseNear s r.kind r.agent r.tag 8 0 := by
  cases r.kind with
  | read => exact State.answer_refuse_up h _ _ .boundary 0
  | write => exact State.answer_refuse_up h _ _ .boundary 0
  | post => rfl

/-- Settles O14. -/
theorem intakeRefusals : Obligations.IntakeRefusals := by
  unfold Obligations.IntakeRefusals
  intro s kind h body r arrives
  rw [exec_nearRequest_arrives arrives]
  obtain ⟨⟨up, -⟩, -, -, judged, -⟩ := arrives
  obtain ⟨-, -, rfl, -⟩ := judgeBody_good judged
  have up' : (nearTaken s).near.up = true := up
  refine ⟨fun hb => ?_, fun hb hf => ?_, fun hb hf => ⟨fun hw => ?_, fun hw => ⟨fun hc => ?_, fun q hc => ?_,
    fun hc hm hs => ?_⟩⟩⟩
  · rw [State.accept_notRunning (s := nearTaken s) hb, State.turnAway_up up']
    rfl
  · rw [State.accept_farDown (s := nearTaken s) hb hf, State.turnAway_up up']
    rfl
  · have hout : withinPage r.address r.len = false := by
      rw [Bool.eq_false_iff, ne_eq, withinPage_iff]
      omega
    rw [State.accept_beyondPage (s := nearTaken s) hb hf hout, State.boundary_up up']
    rfl
  · rw [State.accept_withinPage (s := nearTaken s) hb hf (withinPage_iff.mpr hw),
      show (nearTaken s).ctxs[r.ctx].state = .closed from hc]
    exact congrArg Host.Outcome.next (State.turnAway_up up' r .noContext 0)
  · rw [State.accept_withinPage (s := nearTaken s) hb hf (withinPage_iff.mpr hw),
      show (nearTaken s).ctxs[r.ctx].state = .closing q from hc]
    exact congrArg Host.Outcome.next (State.turnAway_up up' r .noContext 1)
  · rw [State.accept_withinPage (s := nearTaken s) hb hf (withinPage_iff.mpr hw),
      show (nearTaken s).ctxs[r.ctx].state = .opened from hc]
    exact congrArg Host.Outcome.next ((if_pos ⟨hm, hs⟩).trans (State.turnAwayWith_up up' r .rights .rights 3))

/-! ## Fresh misses and their notices -/

theorem newMiss_eq (s : State) (c : Ctx) (p : Page) (kind : ReqKind) (mode : Mode) :
    newMiss s c p (accessOf kind) mode = freshMiss s c p kind mode := by
  have hcopy : BitVec.ofNat 32 ((0 + 1) * s.chan.params.noticeInterval.toNat) = s.chan.params.noticeInterval.setWidth 32 := by
    rw [Nat.zero_add, Nat.one_mul, BitVec.ofNat_toNat]
  have haccess : accessOf kind = if kind = .read then .read else .write := by cases kind <;> rfl
  unfold newMiss freshMiss Miss.nextCopy Miss.copyTime
  dsimp only
  rw [hcopy, haccess]

theorem firstAccessByte_accessOf (kind : ReqKind) (mode : Mode) :
    firstAccessByte (accessOf kind) mode = (if kind = ReqKind.read then 0 else 2) + (if mode = Mode.user then 0 else 1) := by
  cases kind <;> cases mode <;> rfl

theorem State.sendMissCopy_active {s : State} {id : MissId} {m : Miss} (h : s.misses[id].active = some m) (copy : Nat) :
    s.sendMissCopy id copy = s.notice 48 (missNoticeBody s id m copy) := by
  unfold State.sendMissCopy
  rw [h]
  rfl

/-- The state of an allocation before its notice (R33, R40). -/
theorem State.allocMiss_fresh (s : State) (id : MissId) (c : Ctx) (p : Page) (kind : ReqKind) (mode : Mode) :
    s.allocMiss id c p (accessOf kind) mode = { s with
      misses := s.misses.set id { gen := s.misses[id].gen + 1, active := some (freshMiss s c p kind mode) }
      ctr := { s.ctr with misses := s.ctr.misses + 1 } } := by
  unfold State.allocMiss
  rw [newMiss_eq]

/-- Copy 0 of a miss just allocated, as things then stand (R40, R43, Table 10-7). -/
theorem State.allocMiss_copy (s : State) (id : MissId) (c : Ctx) (p : Page) (kind : ReqKind) (mode : Mode) :
    (s.allocMiss id c p (accessOf kind) mode).sendMissCopy id 0 = ({ s with
      misses := s.misses.set id { gen := s.misses[id].gen + 1, active := some (freshMiss s c p kind mode) }
      ctr := { s.ctr with misses := s.ctr.misses + 1 } }).notice 48
        ([byteOf id.val, s.misses[id].gen + 1, 0, byteOf c.val] ++ beBytes 4 p.toNat ++
          [byteOf (p.toNat % 64), byteOf (s.cache[setOf p].victim).val,
            (if kind = ReqKind.read then 0 else 2) + (if mode = Mode.user then 0 else 1), byteOf (s.waiters id).length]) := by
  have hslot : (s.misses.set id { gen := s.misses[id].gen + 1, active := some (freshMiss s c p kind mode) })[id] =
      { gen := s.misses[id].gen + 1, active := some (freshMiss s c p kind mode) } :=
    (getElem_set_fin _ _ _ _).trans (if_pos rfl)
  rw [State.allocMiss_fresh, State.sendMissCopy_active (m := freshMiss s c p kind mode) (congrArg MissSlot.active hslot),
    missNoticeBody, congrArg MissSlot.gen hslot]
  have haccess : (freshMiss s c p kind mode).access = accessOf kind := by cases kind <;> rfl
  rw [haccess, show (freshMiss s c p kind mode).mode = mode from rfl, firstAccessByte_accessOf]
  rfl

/-! ## The cases of a miss (Table 2-4) -/

theorem CacheSet.lookup_none {t : CacheSet} {c : Ctx} {p : Page} (h : ∀ w : WayId, t.ways[w].matchesPair c p = false) :
    t.lookup c p = none := by
  unfold CacheSet.lookup
  rw [List.find?_eq_none]
  intro w _
  rw [h w]
  decide

theorem State.lookup_miss {s : State} {r : Request}
    (h : ∀ w : WayId, s.cache[setOf r.page].ways[w].matchesPair r.ctx r.page = false) : s.lookup r = s.missCase r := by
  unfold State.lookup
  rw [CacheSet.lookup_none h]

theorem any_unnoticed_iff {park : List ParkRecord} {c : Ctx} {p : Page} :
    (park.any fun q => q.isUnnoticed && q.onPair c p) = true ↔
      ∃ q ∈ park, q.state = .unnoticed ∧ q.ctx = c ∧ pageOf q.address = p := by
  simp only [List.any_eq_true, Bool.and_eq_true, ParkRecord.isUnnoticed_iff, ParkRecord.onPair, beq_iff_eq, ParkRecord.page]

theorem State.waiters_parked (s : State) (r : Request) (id : MissId) :
    ((s.parkRequest r (.waiting id)).waiters id).length = (s.waiters id).length + 1 := by
  have hnew : (parkedAs r (.waiting id)).waitsOn id = true := ParkRecord.waitsOn_iff.mpr rfl
  unfold State.waiters State.parkRequest
  simp only [List.filter_append, List.length_append, List.filter_cons, hnew, if_true, List.filter_nil, List.length_cons,
    List.length_nil]

/-- Settles O15. -/
theorem missCases : Obligations.MissCases := by
  unfold Obligations.MissCases
  intro s kind h body r arrives admitted missing
  rw [exec_nearRequest_arrives arrives, State.accept_admitted (s := nearTaken s) admitted,
    State.lookup_miss (s := nearTaken s) missing, State.missCase]
  obtain ⟨⟨up, -⟩, -, -, judged, -⟩ := arrives
  obtain ⟨-, -, rfl, -⟩ := judgeBody_good judged
  have up' : (nearTaken s).near.up = true := up
  refine ⟨fun policy => ?_, fun policy full => ?_, fun policy room => ?_⟩
  · exact congrArg Host.Outcome.next ((if_pos policy).trans (State.turnAway_up up' r .noTranslation 0))
  · rw [if_neg (by rw [show (nearTaken s).ctxs[r.ctx].policy = .notice from policy]; decide), if_pos (by exact full)]
    exact congrArg Host.Outcome.next (State.turnAway_up up' r .busy 0)
  · rw [if_neg (by rw [show (nearTaken s).ctxs[r.ctx].policy = .notice from policy]; decide),
      if_neg (by exact Nat.not_le_of_lt room)]
    refine ⟨fun id joined => ?_, fun unjoined => ?_⟩
    · rw [show (nearTaken s).missFor r.ctx r.page = some id from joined]
      rfl
    · rw [show (nearTaken s).missFor r.ctx r.page = none from unjoined]
      refine ⟨fun late => ?_, fun early => ⟨fun id free => ?_, fun full => ?_⟩⟩
      · exact congrArg Host.Outcome.next (if_pos (any_unnoticed_iff.mpr late))
      · dsimp only
        rw [if_neg (by exact mt any_unnoticed_iff.mp early), show (nearTaken s).freeMissId = some id from free]
        dsimp only
        rw [State.allocMiss_copy, State.waiters_parked]
        rfl
      · dsimp only
        rw [if_neg (by exact mt any_unnoticed_iff.mp early), show (nearTaken s).freeMissId = none from full]
        rfl

/-! ## Hits -/

/-- A lookup's hit, before the entry check's verdict is carried out (R5, R68). -/
theorem exec_nearRequest_hit {s : State} {kind : ReqKind} {h : Header} {body : List Byte} {r : Request} {w : WayId}
    (arrives : Arrives s kind h body r) (admitted : Admitted s r)
    (found : s.cache[setOf (pageOf r.address)].lookup r.ctx (pageOf r.address) = some w) :
    exec (.nearRequest kind h body) s = .next
      (match entryCheck s.cache[setOf (pageOf r.address)].ways[w] r.kind r.mode with
        | .refuse reason kind detail => (hitState s (pageOf r.address) w).turnAwayWith r reason kind detail
        | .zero => (hitState s (pageOf r.address) w).answerIf r.agent r.tag (zeroAnswer r.kind r.len)
        | .forward => (hitState s (pageOf r.address) w).forwardHit r
            (translate s.cache[setOf (pageOf r.address)].ways[w] r.address)) := by
  rw [exec_nearRequest_arrives arrives, State.accept_admitted (s := nearTaken s) admitted, State.lookup,
    show (nearTaken s).cache[setOf r.page].lookup r.ctx r.page = some w from found]
  rfl

theorem grants_accessOf (e : Entry) (kind : ReqKind) :
    e.grants (accessOf kind) = if kind = .read then e.read else e.write := by
  cases kind <;> rfl

theorem entryCheck_user {e : Entry} {kind : ReqKind} {mode : Mode} (hm : mode = .user) (hu : e.user = false) :
    entryCheck e kind mode = .refuse .rights .rights 1 := if_pos ⟨hm, hu⟩

theorem not_user_refused {e : Entry} {mode : Mode} (h : mode = .supervisor ∨ e.user = true) :
    ¬(mode = .user ∧ e.user = false) := by
  rintro ⟨rfl, hu⟩
  rcases h with h | h
  · cases h
  · rw [hu] at h
    cases h

theorem entryCheck_access {e : Entry} {kind : ReqKind} {mode : Mode} (hu : mode = .supervisor ∨ e.user = true)
    (ha : (if kind = .read then e.read else e.write) = false) : entryCheck e kind mode = .refuse .rights .rights 2 := by
  rw [entryCheck, if_neg (not_user_refused hu), if_pos ((grants_accessOf e kind).trans ha)]

theorem entryCheck_granted {e : Entry} {kind : ReqKind} {mode : Mode} (hu : mode = .supervisor ∨ e.user = true)
    (ha : (if kind = .read then e.read else e.write) = true) : entryCheck e kind mode = match e.action with
      | .guard => .refuse .guard .guard 0
      | .zero => .zero
      | .forward => .forward := by
  have hgrants : ¬e.grants (accessOf kind) = false := by rw [grants_accessOf, ha]; decide
  exact (if_neg (not_user_refused hu)).trans (if_neg hgrants)

/-- Settles O16. -/
theorem hitsRefusedOrZero : Obligations.HitsRefusedOrZero := by
  unfold Obligations.HitsRefusedOrZero
  intro s kind h body r w e arrives admitted found way
  rw [exec_nearRequest_hit arrives admitted found, way]
  obtain ⟨⟨up, -⟩, -, -, judged, -⟩ := arrives
  obtain ⟨-, -, rfl, -⟩ := judgeBody_good judged
  have up' : (hitState s (pageOf r.address) w).near.up = true := up
  refine ⟨fun hm hu => ?_, fun hu ha => ?_, fun hu ha => ⟨fun action => ?_, fun action => ?_⟩⟩
  · rw [entryCheck_user hm hu]
    exact congrArg Host.Outcome.next (State.turnAwayWith_up up' r .rights .rights 1)
  · rw [entryCheck_access hu ha]
    exact congrArg Host.Outcome.next (State.turnAwayWith_up up' r .rights .rights 2)
  · rw [entryCheck_granted hu ha, action]
    exact congrArg Host.Outcome.next (State.turnAwayWith_up up' r .guard .guard 0)
  · rw [entryCheck_granted hu ha, action]
    refine congrArg Host.Outcome.next ?_
    dsimp only
    cases r.kind with
    | read => exact State.answer_data_up up' r.agent r.tag _
    | write => exact State.answer_done_up up' r.agent r.tag
    | post => simp [zeroAnswer, State.answerIf, onNear]

/-! ## FORWARD hits -/

theorem beBytes_five_fields (x : BitVec 40) : beBytes 5 x.toNat =
    [x.extractLsb' 32 8, x.extractLsb' 24 8, x.extractLsb' 16 8, x.extractLsb' 8 8, x.extractLsb' 0 8] := by
  rw [← extract_byte, ← extract_byte, ← extract_byte, ← extract_byte, ← extract_byte]
  rfl

/-- The far frame of a translated request is that of R74. -/
theorem requestFrame_eq (node : NodeId) (kind : ReqKind) (mode : Mode) (len : Nat) (payload : List Byte) (x : Translation)
    (tag : Byte) : requestFrame node kind mode len payload x tag = farRequest node kind mode len payload x tag := by
  have haddress : x.address.toNat = ((0#4 ++ x.address : BitVec 40)).toNat := by
    rw [BitVec.toNat_append, BitVec.toNat_ofNat, Nat.zero_mod, Nat.zero_shiftLeft, Nat.zero_or]
  have hkind : reqCode kind = match kind with
      | .read => 1
      | .write => 2
      | .post => 3 := by cases kind <;> rfl
  have hmode : modeByte mode = if mode = .user then 0 else 1 := by cases mode <;> rfl
  unfold requestFrame farRequest
  rw [haddress, beBytes_five_fields, hmode, hkind]
  rfl

theorem State.forwardHit_post {s : State} {r : Request} {x : Translation} (up : s.far.up = true)
    (alone : s.readyExists = false) (kind : r.kind = .post) :
    s.forwardHit r x = onFar s [farRequest s.node r.kind r.mode r.len r.payload x 0] := by
  rw [State.forwardHit, if_neg (by rw [alone]; decide), ← requestFrame_eq, ← State.sendFar_up up, kind, State.forwardPost,
    kind]

theorem State.forwardHit_entry {s : State} {r : Request} {x : Translation} {g : BridgeTag} (up : s.far.up = true)
    (alone : s.readyExists = false) (kind : r.kind ≠ .post) (free : s.freeTag = some g) :
    s.forwardHit r x = { onFar s [farRequest s.node r.kind r.mode r.len r.payload x (byteOf g.val)] with
      outs := s.outs.set g
        (some (newOutEntry s r.agent r.tag r.kind r.len r.ctx r.page x [] false)) } := by
  have hforward : s.forwardHit r x = s.forwardRequest r x g := by
    rw [State.forwardHit, if_neg (by rw [alone]; decide), free]
    cases hk : r.kind with
    | read => rfl
    | write => rfl
    | post => exact absurd hk kind
  rw [hforward, State.forwardRequest, State.sendFar_up (by exact up), requestFrame_eq]
  rfl

theorem State.forwardHit_waits {s : State} {r : Request} {x : Translation}
    (waits : s.readyExists = true ∨ (r.kind ≠ .post ∧ s.freeTag = none)) : s.forwardHit r x = s.parkReady r x := by
  unfold State.forwardHit
  by_cases hr : s.readyExists = true
  · exact if_pos hr
  · rw [if_neg hr]
    obtain ⟨kind, free⟩ := waits.resolve_left hr
    rw [free]
    cases hk : r.kind with
    | read => rfl
    | write => rfl
    | post => exact absurd hk kind

/-- Settles O17. -/
theorem forwardHits : Obligations.ForwardHits := by
  unfold Obligations.ForwardHits
  intro s kind h body r w e arrives admitted found way hu ha action
  rw [exec_nearRequest_hit arrives admitted found, way]
  obtain ⟨⟨up, -⟩, -, -, judged, -⟩ := arrives
  obtain ⟨-, -, rfl, -⟩ := judgeBody_good judged
  obtain ⟨-, far, -⟩ := admitted
  rw [entryCheck_granted hu ha, action]
  refine ⟨fun alone hk => ?_, fun g alone hk free => ?_, fun waits => ?_⟩
  · exact congrArg Host.Outcome.next (State.forwardHit_post (s := hitState s (pageOf r.address) w) far alone hk)
  · exact congrArg Host.Outcome.next (State.forwardHit_entry (s := hitState s (pageOf r.address) w) far alone hk free)
  · dsimp only
    rw [State.forwardHit_waits (s := hitState s (pageOf r.address) w) waits, State.parkReady]
    refine ⟨fun room => congrArg Host.Outcome.next (if_pos room), fun full => ?_⟩
    rw [if_neg (by exact Nat.not_lt_of_le full), State.turnAway_up (s := hitState s (pageOf r.address) w) up]
    rfl

/-! ## Fences (R79) -/

theorem State.busyAgent_iff {s : State} {a : Agent} : s.busyAgent a = true ↔
    (∃ r ∈ s.park, r.agent = a) ∨
      ∃ (i : BridgeTag) (o : OutEntry), s.outs[i] = some o ∧ o.phase = .waiting ∧ o.orphan = false ∧ o.agent = a := by
  have hlive (o : OutEntry) : (o.live && o.agent == a) = true ↔ o.phase = .waiting ∧ o.orphan = false ∧ o.agent = a := by
    simp only [OutEntry.live, Bool.and_eq_true, beq_iff_eq, Bool.not_eq_true', and_assoc]
  have houts : (s.outs.toList.any fun o => o.any fun e => e.live && e.agent == a) = true ↔ _ :=
    anyEntry_iff (v := s.outs)
  simp only [hlive] at houts
  rw [State.busyAgent, Bool.or_eq_true, houts]
  simp only [List.any_eq_true, beq_iff_eq]

theorem OutEntry.heldFor_eq (a : Agent) : OutEntry.heldFor a = fun o =>
    if o.phase = .waiting ∧ o.orphan = false ∧ o.agent = a then { o with held := true } else o := by
  funext o
  unfold OutEntry.heldFor
  simp only [OutEntry.live, Bool.and_eq_true, beq_iff_eq, Bool.not_eq_true', and_assoc]

/-- A FENCE that passes steps 1 to 5 of Table 3-1 (R59, R63). -/
theorem exec_fence_arrives {s : State} {h : Header} {a : Agent} {g : NearTag} (arrives : FenceArrives s h a g) :
    exec (.fence h []) s = .next (if s.bridge ≠ .running then (nearTaken s).answer a g (.refuse .busy 1)
      else (nearTaken s).takeFence a g) := by
  obtain ⟨up, ha, hg, fresh⟩ := arrives
  rw [exec_fence_takes ⟨up, by simp⟩, State.intakeFence, State.identified_both ha hg, if_neg (by simp),
    if_neg (by rw [show (nearTaken s).inFlight a g = false from fresh]; decide)]
  rfl

/-- Settles O18. -/
theorem fenceTaken : Obligations.FenceTaken := by
  unfold Obligations.FenceTaken
  intro s h a g arrives
  rw [exec_fence_arrives arrives]
  have up' : (nearTaken s).near.up = true := arrives.1
  refine ⟨fun hb => ?_, fun hb pending => ?_, fun hb idle => ?_⟩
  · rw [if_pos hb, State.answer_refuse_up up']
    rfl
  · rw [if_neg (not_not_intro hb), State.takeFence, if_pos (by exact Option.isSome_iff_ne_none.mpr pending),
      State.answer_refuse_up up']
    rfl
  · rw [if_neg (not_not_intro hb), State.takeFence,
      if_neg (by rw [show (nearTaken s).fences[a] = none from idle]; decide)]
    refine ⟨fun noPark noOuts => ?_, fun busy => ?_⟩
    · rw [if_neg (by rw [State.busyAgent_iff]; exact not_or.mpr ⟨noPark, noOuts⟩), State.answer_done_up up']
      rfl
    · rw [if_pos (by exact State.busyAgent_iff.mpr busy), OutEntry.heldFor_eq]
      rfl

end Sys2Proof.Machine
end

section
/-! PROOF. Far frames not taken, the channel's NAKs, and the commands whose effect is one reply and one change (O26, O29,
O33, O39, O41, O44, O46). -/

namespace Sys2Proof.Machine

open Sys2Proof.Safety

/-! ## Far frames not taken -/

theorem exec_foreign {s : State} {f : Frame} (takes : FarTakes s f.body) (toBridge : nodeField f.hdr.dst = s.node)
    (foreign : s.chan.manager ≠ some (nodeField f.hdr.src)) (take : State → State) :
    s.commandArrives f take = (farTaken s).makeFault (foreignFault .far f) :=
  (State.arriveFar_takes takes _).trans (State.channel_foreign (s := farTaken s) toBridge foreign take)

/-- Settles O26. -/
theorem farFramesNotTaken : Obligations.FarFramesNotTaken := by
  unfold Obligations.FarFramesNotTaken
  constructor
  · intro s kind h body takes
    have arrives (cls : FrameClass) (deal : State → State) :
        s.arriveFar { cls := cls, kind := kind, hdr := h, body := body } deal = deal (farTaken s) :=
      State.arriveFar_takes (f := { cls := cls, kind := kind, hdr := h, body := body }) takes deal
    refine ⟨congrArg Host.Outcome.next (arrives .fourth _), fun elsewhere => ⟨?_, ?_, ?_, ?_⟩⟩
    · exact congrArg Host.Outcome.next ((arrives .request _).trans (if_neg elsewhere))
    · exact congrArg Host.Outcome.next ((arrives .response _).trans (if_neg elsewhere))
    · exact congrArg Host.Outcome.next ((arrives .response _).trans (if_neg elsewhere))
    · exact congrArg Host.Outcome.next ((arrives .mgmt _).trans (State.channel_misrouted (s := farTaken s)
        (f := mgmtFrame kind h body) elsewhere _))
  · intro s kind h body takes toBridge foreign
    refine ⟨congrArg Host.Outcome.next (exec_foreign (f := mgmtFrame kind h body) takes toBridge foreign _), fun c => ?_⟩
    rw [exec_commandRow, exec_foreign (f := commandFrame c h body) takes toBridge foreign]
    rfl

/-! ## A frame taken under E -/

theorem underE_body {s : State} {h : Header} {body : List Byte} (hu : UnderE s h []) (len : body.length ≤ 300) :
    UnderE s h body := ⟨⟨hu.1.1, len⟩, hu.2⟩

theorem exec_underE {s : State} {h : Header} {body : List Byte} (hu : UnderE s h body) (c : Command) :
    exec (commandRow c h body) s = .next (takeCommand (commandFrame c h body) (farTaken s)) := by
  rw [exec_commandRow, State.commandArrives_underE hu]

/-- A command whose operands decode runs on the state that has counted its frame. -/
theorem exec_command_run {s : State} {h : Header} {body : List Byte} (hu : UnderE s h body) (c : Command) {α : Type}
    {args : Option α} {a : α} {run : α → State → State} (hargs : args = some a)
    (htake : takeCommand (commandFrame c h body) (farTaken s) = (farTaken s).withArgs (commandFrame c h body) args run) :
    exec (commandRow c h body) s = .next (run a (farTaken s)) := by
  rw [exec_underE hu, htake, State.withArgs_some _ _ hargs]

/-- A command whose operands do not decode is answered NAK RANGE (R145, R192). -/
theorem exec_command_range {s : State} {h : Header} {body : List Byte} (hu : UnderE s h body) (c : Command) {α : Type}
    {args : Option α} {run : α → State → State} (hargs : args = none)
    (htake : takeCommand (commandFrame c h body) (farTaken s) = (farTaken s).withArgs (commandFrame c h body) args run) :
    exec (commandRow c h body) s = .next (answered s h 33 [BitVec.ofNat 8 (commandCode c).toNat, 2, 0]) := by
  rw [exec_underE hu, htake, State.withArgs_none _ _ hargs, State.nak_answered hu.1.1]
  rfl

/-! ## Bodies of the wrong length (Table 10-6) -/

theorem fillArgs_badLength {body : List Byte} (h : body.length ≠ 13) : fillArgs body = none := by
  unfold fillArgs
  split
  · exact absurd rfl h
  · rfl

theorem denyArgs_badLength {body : List Byte} (h : body.length ≠ 3) : denyArgs body = none := by
  unfold denyArgs
  split
  · exact absurd rfl h
  · rfl

theorem pinArgs_badLength {body : List Byte} (h : body.length ≠ 3) : pinArgs body = none := by
  unfold pinArgs
  split
  · exact absurd rfl h
  · rfl

theorem readEntryArgs_badLength {body : List Byte} (h : body.length ≠ 2) : readEntryArgs body = none := by
  unfold readEntryArgs
  split
  · exact absurd rfl h
  · rfl

theorem purgeArgs_badLength {body : List Byte} (h : body.length ≠ 8) : purgeArgs body = none := by
  unfold purgeArgs
  split
  · exact absurd rfl h
  · rfl

theorem openArgs_badLength {body : List Byte} (h : body.length ≠ 3) : openArgs body = none := by
  unfold openArgs
  split
  · exact absurd rfl h
  · rfl

theorem closeArgs_badLength {body : List Byte} (h : body.length ≠ 1) : closeArgs body = none := by
  unfold closeArgs
  split
  · exact absurd rfl h
  · rfl

theorem setParamArgs_badLength {body : List Byte} (h : body.length ≠ 3) : setParamArgs body = none := by
  unfold setParamArgs
  split
  · exact absurd rfl h
  · rfl

theorem getParamArgs_badLength {body : List Byte} (h : body.length ≠ 1) : getParamArgs body = none := by
  unfold getParamArgs
  split
  · exact absurd rfl h
  · rfl

theorem readCountersArgs_badLength {body : List Byte} (h : body.length ≠ 1) : readCountersArgs body = none := by
  unfold readCountersArgs
  split
  · exact absurd rfl h
  · rfl

theorem readFaultsArgs_badLength {body : List Byte} (h : body.length ≠ 2) : readFaultsArgs body = none := by
  unfold readFaultsArgs
  split
  · exact absurd rfl h
  · rfl

theorem handoverArgs_badLength {body : List Byte} (h : body.length ≠ 1) : handoverArgs body = none := by
  unfold handoverArgs
  split
  · exact absurd rfl h
  · rfl

theorem noArgs_badLength {body : List Byte} (h : body.length ≠ 0) : noArgs body = none := by
  unfold noArgs
  split
  · exact absurd rfl h
  · rfl

theorem takeCommand_badLength {c : Command} {body : List Byte} (bad : body.length ≠ commandLength c) (h : Header)
    (s : State) : takeCommand (commandFrame c h body) s = s.nak (commandFrame c h body) .range := by
  cases c with
  | fill => exact State.withArgs_none _ _ (fillArgs_badLength bad) _
  | deny => exact State.withArgs_none _ _ (denyArgs_badLength bad) _
  | pin => exact State.withArgs_none _ _ (pinArgs_badLength bad) _
  | readEntry => exact State.withArgs_none _ _ (readEntryArgs_badLength bad) _
  | purge => exact State.withArgs_none _ _ (purgeArgs_badLength bad) _
  | openContext => exact State.withArgs_none _ _ (openArgs_badLength bad) _
  | closeContext => exact State.withArgs_none _ _ (closeArgs_badLength bad) _
  | quiesce => exact State.withArgs_none _ _ (noArgs_badLength bad) _
  | resume => exact State.withArgs_none _ _ (noArgs_badLength bad) _
  | setParam => exact State.withArgs_none _ _ (setParamArgs_badLength bad) _
  | getParam => exact State.withArgs_none _ _ (getParamArgs_badLength bad) _
  | readStatus => exact State.withArgs_none _ _ (noArgs_badLength bad) _
  | readCounters => exact State.withArgs_none _ _ (readCountersArgs_badLength bad) _
  | readFaults => exact State.withArgs_none _ _ (readFaultsArgs_badLength bad) _
  | clearFaults => exact State.withArgs_none _ _ (noArgs_badLength bad) _
  | handover => exact State.withArgs_none _ _ (handoverArgs_badLength bad) _
  | resetBridge => exact State.withArgs_none _ _ (noArgs_badLength bad) _

theorem commandOf_none {kind : BitVec 6} (h : kind.toNat = 0 ∨ 17 < kind.toNat) : commandOf kind = none := by
  revert kind
  decide

theorem exec_nakUnknown_underE {s : State} {h : Header} {body : List Byte} (hu : UnderE s h body) (kind : BitVec 6) :
    exec (.nakUnknown kind h body) s = .next (takeCommand (mgmtFrame kind h body) (farTaken s)) := by
  obtain ⟨takes, toBridge, manager, expected⟩ := hu
  exact congrArg Host.Outcome.next ((State.arriveFar_takes (f := mgmtFrame kind h body) takes _).trans
    (State.channel_taken (s := farTaken s) (f := mgmtFrame kind h body) toBridge manager expected _))

/-- Settles O29. -/
theorem channelNaks : Obligations.ChannelNaks := by
  unfold Obligations.ChannelNaks
  intro s h body hu
  refine ⟨fun kind unknown => ?_, fun c bad => ?_⟩
  · have hnak : takeCommand (mgmtFrame kind h body) (farTaken s) = (farTaken s).nak (mgmtFrame kind h body) .unknown := by
      unfold takeCommand
      rw [show commandOf (mgmtFrame kind h body).kind = none from commandOf_none unknown]
    rw [exec_nakUnknown_underE hu, hnak, State.nak, State.reply, State.sendFar_up (by exact hu.1.1)]
    rfl
  · rw [exec_underE hu, takeCommand_badLength bad, State.nak_answered hu.1.1]
    rfl

/-! ## PIN and READ-ENTRY -/

theorem pinArgs_range {b0 b1 b2 : Byte} (h : 63 < b0.toNat ∨ 3 < b1.toNat ∨ 1 < b2.toNat) : pinArgs [b0, b1, b2] = none := by
  unfold pinArgs
  dsimp only
  rcases h with h | h | h
  · rw [inRange_none h]
  · rw [inRange_none h]
    cases inRange 64 b0.toNat <;> rfl
  · rw [flagOf_none h]
    cases inRange 64 b0.toNat <;> cases inRange 4 b1.toNat <;> rfl

theorem readEntryArgs_range {b0 b1 : Byte} (h : 63 < b0.toNat ∨ 3 < b1.toNat) : readEntryArgs [b0, b1] = none := by
  unfold readEntryArgs
  dsimp only
  rcases h with h | h
  · rw [inRange_none h]
  · rw [inRange_none h]
    cases inRange 64 b0.toNat <;> rfl

theorem pinArgs_read (t : SetId) (w : WayId) (on : Bool) :
    pinArgs [byteOf t.val, byteOf w.val, flagByte on] = some (t, w, on) := by
  unfold pinArgs
  dsimp only
  rw [inRange_byteOf (by decide), inRange_byteOf (by decide), flagOf_flagByte]

theorem readEntryArgs_read (t : SetId) (w : WayId) : readEntryArgs [byteOf t.val, byteOf w.val] = some (t, w) := by
  unfold readEntryArgs
  dsimp only
  rw [inRange_byteOf (by decide), inRange_byteOf (by decide)]

theorem exec_pin {s : State} {h : Header} (hu : UnderE s h []) (t : SetId) (w : WayId) (on : Bool) :
    exec (.pin h [byteOf t.val, byteOf w.val, flagByte on]) s =
      .next (runPin (commandFrame .pin h [byteOf t.val, byteOf w.val, flagByte on]) (t, w, on) (farTaken s)) :=
  exec_command_run (run := runPin (commandFrame .pin h [byteOf t.val, byteOf w.val, flagByte on]))
    (underE_body hu (by simp)) .pin (pinArgs_read t w on) rfl

/-- The pin check passes unless the setting is on, the way unpinned and every other way pinned (R25). -/
theorem pinCheck_iff {t : CacheSet} {w : WayId} {on : Bool} :
    (on && !t.ways[w].pinned && decide (Config.maxPins ≤ t.pinsBut w)) = true ↔
      on = true ∧ t.ways[w].pinned = false ∧ ∀ v : WayId, v ≠ w → t.ways[v].pinned = true := by
  rw [Bool.and_eq_true, Bool.and_eq_true, Bool.not_eq_true', decide_eq_true_iff, pinsBut_full, and_assoc]

/-- Settles O33. -/
theorem pinAndReadEntry : Obligations.PinAndReadEntry := by
  unfold Obligations.PinAndReadEntry
  intro s h t w
  refine ⟨fun b0 b1 b2 hu bad => ?_, fun b0 b1 hu bad => ?_, fun hu on => ⟨fun invalid => ?_, fun valid =>
    ⟨fun hon unpinned full => ?_, fun passes => ?_⟩⟩, fun hu => ?_⟩
  · exact exec_command_range (run := runPin (commandFrame .pin h [b0, b1, b2])) hu .pin (pinArgs_range bad) rfl
  · exact exec_command_range (run := runReadEntry (commandFrame .readEntry h [b0, b1])) hu .readEntry
      (readEntryArgs_range bad) rfl
  · rw [exec_pin hu]
    have hbad : (!(farTaken s).cache[t].ways[w].valid) = true := by
      rw [show (farTaken s).cache[t].ways[w].valid = false from invalid]
      rfl
    exact congrArg Host.Outcome.next ((if_pos hbad).trans (State.nak_answered hu.1.1 .pin h _ .state))
  · rw [exec_pin hu]
    have hgood : ¬(!(farTaken s).cache[t].ways[w].valid) = true := by
      rw [show (farTaken s).cache[t].ways[w].valid = true from valid]
      decide
    exact congrArg Host.Outcome.next ((if_neg hgood).trans ((if_pos (pinCheck_iff.mpr ⟨hon, unpinned, full⟩)).trans
      (State.nak_answered hu.1.1 .pin h _ .pinnedFull)))
  · rw [exec_pin hu]
    have hgood : ¬(!(farTaken s).cache[t].ways[w].valid) = true := by
      rw [show (farTaken s).cache[t].ways[w].valid = true from valid]
      decide
    have hroom : ¬(on && !s.cache[t].ways[w].pinned && decide (Config.maxPins ≤ s.cache[t].pinsBut w)) = true := by
      rw [pinCheck_iff]
      rintro ⟨hon, unpinned, full⟩
      rcases passes with hoff | pinned | ⟨v, hv, other⟩
      · rw [hon] at hoff
        cases hoff
      · rw [unpinned] at pinned
        cases pinned
      · rw [full v hv] at other
        cases other
    exact congrArg Host.Outcome.next ((if_neg hgood).trans ((if_neg hroom).trans
      (State.ack_answered (s := s.setCache t
        { ways := s.cache[t].ways.set w { s.cache[t].ways[w] with pinned := on }, order := s.cache[t].order })
        hu.1.1 .pin h _ [])))
  · refine (exec_command_run (run := runReadEntry (commandFrame .readEntry h [byteOf t.val, byteOf w.val]))
      (underE_body hu (by simp)) .readEntry (readEntryArgs_read t w) rfl).trans ?_
    exact congrArg Host.Outcome.next (State.reply_answered hu.1.1 .readEntry h _ _ _)

/-! ## OPEN-CONTEXT -/

theorem openArgs_badFlags {x policy supOnly : Byte} (h : 1 < policy.toNat ∨ 1 < supOnly.toNat) :
    openArgs [x, policy, supOnly] = none := by
  unfold openArgs
  dsimp only
  rcases h with h | h
  · rw [flagOf_none h]
    cases inRange 16 x.toNat <;> rfl
  · rw [flagOf_none h]
    cases inRange 16 x.toNat <;> cases flagOf policy <;> rfl

theorem openArgs_badContext {x : Byte} (h : 15 < x.toNat) (policy supOnly : Byte) : openArgs [x, policy, supOnly] = none := by
  unfold openArgs
  dsimp only
  rw [inRange_none h]

theorem openArgs_read (c : Ctx) {policy supOnly : Byte} (hp : policy.toNat ≤ 1) (hs : supOnly.toNat ≤ 1) :
    openArgs [byteOf c.val, policy, supOnly] = some (c, (if policy = 1 then .refuse else .notice), supOnly == 1) := by
  unfold openArgs
  dsimp only
  rw [inRange_byteOf (by decide), flagOf_some hp, flagOf_some hs]
  simp only [beq_iff_eq]

/-- Settles O39. -/
theorem openContext : Obligations.OpenContext := by
  unfold Obligations.OpenContext
  intro s h c policy supOnly hu
  refine ⟨fun bad => ?_, fun x bad => ?_, fun hp hs => ?_⟩
  · exact exec_command_range (run := runOpenContext (commandFrame .openContext h [byteOf c.val, policy, supOnly]))
      (underE_body hu (by simp)) .openContext (openArgs_badFlags bad) rfl
  · exact exec_command_range (run := runOpenContext (commandFrame .openContext h [x, policy, supOnly]))
      (underE_body hu (by simp)) .openContext (openArgs_badContext bad policy supOnly) rfl
  · have hrun : exec (.openContext h [byteOf c.val, policy, supOnly]) s =
        .next (runOpenContext (commandFrame .openContext h [byteOf c.val, policy, supOnly])
          (c, (if policy = 1 then .refuse else .notice), supOnly == 1) (farTaken s)) :=
      exec_command_run (run := runOpenContext (commandFrame .openContext h [byteOf c.val, policy, supOnly]))
        (underE_body hu (by simp)) .openContext (openArgs_read c hp hs) rfl
    have hack := State.ack_answered (s := s.setCtx c
      { state := .opened, policy := if policy = 1 then .refuse else .notice, supOnly := supOnly == 1 }) hu.1.1
      .openContext h [byteOf c.val, policy, supOnly]
    rw [hrun]
    unfold runOpenContext
    dsimp only
    refine ⟨fun q closing => ?_, fun idle => ?_⟩
    · rw [show (farTaken s).ctxs[c].state = .closing q from closing]
      exact congrArg Host.Outcome.next (State.nak_answered hu.1.1 .openContext h _ .state)
    · rcases idle with closed | opened
      · rw [show (farTaken s).ctxs[c].state = .closed from closed, if_pos closed]
        exact congrArg Host.Outcome.next (hack [0])
      · have hopen : ¬s.ctxs[c].state = .closed := by rw [opened]; decide
        rw [show (farTaken s).ctxs[c].state = .opened from opened, if_neg hopen]
        exact congrArg Host.Outcome.next (hack [1])

/-! ## QUIESCE and RESUME -/

theorem exec_quiesce {s : State} {h : Header} (hu : UnderE s h []) :
    exec (.quiesce h []) s = .next (runQuiesce (commandFrame .quiesce h []) () (farTaken s)) :=
  exec_command_run (run := runQuiesce (commandFrame .quiesce h [])) hu .quiesce (a := ()) (args := noArgs []) rfl rfl

/-- A bridge that is not QUIESCED starts to drain, and has drained where nothing is left (R131, R132). -/
theorem runQuiesce_draining {s : State} {h : Header} (hu : UnderE s h [])
    (hb : s.bridge = .running ∨ ∃ q, s.bridge = .quiescing q) :
    runQuiesce (commandFrame .quiesce h []) () (farTaken s) =
      (answered { s with bridge := .quiescing h.seq } h 32 [8, 1]).judgeDrain := by
  have hack : ({ farTaken s with bridge := .quiescing h.seq }).ack (commandFrame .quiesce h []) [1] =
      answered { s with bridge := .quiescing h.seq } h 32 [8, 1] :=
    State.ack_answered (s := { s with bridge := .quiescing h.seq }) hu.1.1 .quiesce h [] [1]
  unfold runQuiesce
  rcases hb with hb | ⟨q, hb⟩
  · rw [show (farTaken s).bridge = .running from hb]
    exact congrArg State.judgeDrain hack
  · rw [show (farTaken s).bridge = .quiescing q from hb]
    exact congrArg State.judgeDrain hack

theorem State.judgeDrain_undrained {s : State} (h : s.drained = false) : s.judgeDrain = s := by
  unfold State.judgeDrain
  split
  · rw [if_neg (by rw [h]; decide)]
  · rfl

theorem State.judgeDrain_drained {s : State} {q : Byte} (hb : s.bridge = .quiescing q) (h : s.drained = true) :
    s.judgeDrain = { s with bridge := .quiesced q }.notice 52 [q] := by
  unfold State.judgeDrain
  rw [hb]
  exact if_pos h

/-- Settles O41. -/
theorem quiesceAndResume : Obligations.QuiesceAndResume := by
  unfold Obligations.QuiesceAndResume
  refine ⟨fun s => drained_iff, fun s h hu => ⟨fun hb => ?_, fun q hb => ?_, ?_⟩⟩
  · rw [exec_quiesce hu, runQuiesce_draining hu hb]
    refine ⟨fun hd => congrArg Host.Outcome.next ?_, fun hd => congrArg Host.Outcome.next ?_⟩
    · exact State.judgeDrain_undrained (s := answered { s with bridge := .quiescing h.seq } h 32 [8, 1]) hd
    · exact State.judgeDrain_drained (s := answered { s with bridge := .quiescing h.seq } h 32 [8, 1]) rfl hd
  · have hack : ({ farTaken s with bridge := .quiesced h.seq }).ack (commandFrame .quiesce h []) [2] =
        answered { s with bridge := .quiesced h.seq } h 32 [8, 2] :=
      State.ack_answered (s := { s with bridge := .quiesced h.seq }) hu.1.1 .quiesce h [] [2]
    rw [exec_quiesce hu, runQuiesce, show (farTaken s).bridge = .quiesced q from hb]
    exact congrArg (fun t : State => Host.Outcome.next (t.notice 52 [h.seq])) hack
  · refine (exec_command_run (run := runResume (commandFrame .resume h [])) hu .resume (a := ()) (args := noArgs []) rfl
      rfl).trans ?_
    exact congrArg Host.Outcome.next (State.ack_answered (s := { s with bridge := .running }) hu.1.1 .resume h [] [0])

/-! ## READ-STATUS, READ-COUNTERS and READ-FAULTS -/

theorem counterBytes_eq (c : Counters) : counterBytes c =
    beBytes 4 c.nearFrames.toNat ++ beBytes 4 c.farFrames.toNat ++ beBytes 4 c.nearCrc.toNat ++ beBytes 4 c.farCrc.toNat ++
      beBytes 4 c.hits.toNat ++ beBytes 4 c.misses.toNat ++ beBytes 4 c.exhaustion.toNat ++ beBytes 4 c.notices.toNat ++
      beBytes 4 c.refusals.toNat ++ beBytes 4 c.late.toNat := by
  simp only [counterBytes, List.flatMap_cons, List.flatMap_nil, List.append_nil, List.append_assoc]

theorem bridgeBytes_eq (b : BridgeState) : [bridgeByte b, quiesceByte b] = match b with
    | .running => ([0, 0] : List Byte)
    | .quiescing q => [1, q]
    | .quiesced q => [2, q] := by
  cases b <;> rfl

theorem causeByte_eq (c : ResetCause) : causeByte c = match c with
    | .powerOn => (0 : Byte)
    | .soft => 1 := by
  cases c <;> rfl

theorem ctxByte_eq : (fun c : CtxRecord => ctxByte c.state) = fun c => match c.state with
    | .closed => (0 : Byte)
    | .opened => 1
    | .closing _ => 2 := by
  funext c
  cases c.state <;> rfl

/-- The STATUS body where the far link is UP and the manager known (Table 10-6a). -/
theorem statusBody_eq {s : State} {m : NodeId} (up : s.far.up = true) (manager : s.chan.manager = some m) :
    statusBody s = [bridgeByte s.bridge, quiesceByte s.bridge] ++
      [causeByte s.cause, flagByte s.near.up, 1, byteOf s.node.val, byteOf m.val, s.chan.expected + 1,
        s.chan.noticeSeq, byteOf (s.park.countP fun r => r.isWaiting), byteOf (s.park.countP fun r => r.isUnnoticed),
        byteOf (s.park.countP fun r => r.isReady), byteOf (s.misses.toList.countP fun m => m.active.isSome),
        byteOf (s.outs.toList.countP fun x => x.any fun o => o.phase == .waiting),
        byteOf (s.outs.toList.countP fun x => x.any fun o => o.phase == .expired),
        byteOf (s.slots.toList.countP fun x => x.isSome), byteOf (s.fences.toList.countP fun x => x.isSome)] ++
      s.ctxs.toList.map (fun c => ctxByte c.state) ++ [byteOf s.log.ring.length] ++ beBytes 4 s.time.toNat := by
  unfold statusBody
  rw [up, manager]
  rfl

theorem readFaultsArgs_range {start count : Byte} (h : 31 < start.toNat ∨ count = 0 ∨ 8 < count.toNat) :
    readFaultsArgs [start, count] = none := by
  refine if_neg ?_
  rintro ⟨h1, h2, h3⟩
  rcases h with h | rfl | h
  · omega
  · simp at h2
  · omega

theorem readFaultsArgs_read {start count : Byte} (h1 : start.toNat ≤ 31) (h2 : count ≠ 0) (h3 : count.toNat ≤ 8) :
    readFaultsArgs [start, count] = some (start.toNat, count.toNat) := by
  refine if_pos ⟨h1, Nat.one_le_iff_ne_zero.mpr fun h0 => h2 (BitVec.eq_of_toNat_eq h0), h3⟩

theorem exec_readCounters {s : State} {h : Header} (hu : UnderE s h []) (clear : Bool) :
    exec (.readCounters h [flagByte clear]) s =
      .next (runReadCounters (commandFrame .readCounters h [flagByte clear]) clear (farTaken s)) :=
  exec_command_run (run := runReadCounters (commandFrame .readCounters h [flagByte clear])) (underE_body hu (by simp))
    .readCounters (args := readCountersArgs [flagByte clear]) (flagOf_flagByte clear) rfl

/-- Settles O44. -/
theorem readingCommands : Obligations.ReadingCommands := by
  unfold Obligations.ReadingCommands
  refine ⟨fun s h hu => ⟨?_, fun flag bad => ?_, ?_⟩, fun s h start count hu => ⟨fun bad => ?_, ?_⟩⟩
  · refine (exec_command_run (run := runReadStatus (commandFrame .readStatus h [])) hu .readStatus (a := ())
      (args := noArgs []) rfl rfl).trans ?_
    rw [runReadStatus, State.reply_answered hu.1.1, statusBody_eq (s := farTaken s) hu.1.1 hu.2.2.1, bridgeBytes_eq,
      causeByte_eq, ctxByte_eq, show (farTaken s).chan.expected = h.seq from hu.2.2.2.symm]
    simp only [List.append_assoc]
    rfl
  · exact exec_command_range (run := runReadCounters (commandFrame .readCounters h [flag])) (underE_body hu (by simp))
      .readCounters (args := readCountersArgs [flag]) (flagOf_none bad) rfl
  · rintro body rfl
    have hreply (clear : Bool) := State.reply_answered hu.1.1 .readCounters h [flagByte clear] 37
      (counterBytes (farTaken s).ctr)
    rw [counterBytes_eq] at hreply
    constructor
    · refine (exec_readCounters hu false).trans (congrArg Host.Outcome.next ?_)
      rw [runReadCounters, counterBytes_eq]
      exact hreply false
    · refine (exec_readCounters hu true).trans (congrArg Host.Outcome.next ?_)
      rw [runReadCounters, counterBytes_eq]
      exact congrArg (fun t : State => { t with ctr := Counters.zero }) (hreply true)
  · exact exec_command_range (run := runReadFaults (commandFrame .readFaults h [start, count])) hu .readFaults
      (readFaultsArgs_range bad) rfl
  · rintro rs h1 h2 h3 rfl
    refine (exec_command_run (run := runReadFaults (commandFrame .readFaults h [start, count])) hu .readFaults
      (readFaultsArgs_read h1 h2 h3) rfl).trans ?_
    rw [runReadFaults, State.reply_answered hu.1.1, faultsBody, byteOf_byte]
    rfl

/-! ## HANDOVER -/

/-- Settles O46. -/
theorem handover : Obligations.Handover := by
  unfold Obligations.Handover
  intro s h x hu
  have hrun {n : NodeId} (hn : x.toNat = n.val) : exec (.handover h [x]) s =
      .next (runHandover (commandFrame .handover h [x]) n (farTaken s)) := by
    have hargs : handoverArgs [x] = some n := by
      have := inRange_byteOf (k := 64) (by decide) n
      rw [byteOf_toNat (by omega), ← hn] at this
      exact this
    exact exec_command_run (run := runHandover (commandFrame .handover h [x])) hu .handover hargs rfl
  refine ⟨fun bad => ?_, fun n hn other => ?_⟩
  · rcases bad with high | own
    · exact exec_command_range (run := runHandover (commandFrame .handover h [x])) hu .handover
        (args := handoverArgs [x]) (inRange_none high) rfl
    · rw [hrun own]
      exact congrArg Host.Outcome.next ((if_pos rfl).trans (State.nak_answered hu.1.1 .handover h [x] .range))
  · have hbyte : byteOf n.val = x := by rw [← hn, byteOf_byte]
    rw [hrun hn, runHandover, if_neg (by exact other), State.sendFar_up (by exact hu.1.1), hbyte]
    rfl

end Sys2Proof.Machine
end

section
/-! PROOF. The model's consequence rows, the copies of a miss's notice, and a free miss entry offered (O24, O37, O38). -/

namespace Sys2Proof.Machine

open Sys2Proof.Safety

/-! ## The ends of waiting -/

/-- A fence ends on a near link in either state (R80). -/
theorem State.judgeFence_done {s : State} {a : Agent} {g : NearTag} (pending : s.fences[a] = some g)
    (unheld : s.heldBy a = false) : s.judgeFence a =
      { (if s.near.up then onNear s [nearResponse s.node a g 2 []] else s) with fences := s.fences.set a none } := by
  have hdone : s.judgeFence a = { s with fences := s.fences.set a none }.answer a g .done := by
    unfold State.judgeFence
    rw [pending]
    exact if_neg (by rw [unheld]; decide)
  rw [hdone]
  cases hup : s.near.up with
  | true => exact State.answer_done_up (s := { s with fences := s.fences.set a none }) hup a g
  | false => exact State.sendNear_down (s := { s with fences := s.fences.set a none }) hup _

theorem State.judgeFence_waits {s : State} {a : Agent} (waits : s.fences[a] = none ∨ s.heldBy a = true) :
    s.judgeFence a = s := by
  unfold State.judgeFence
  rcases waits with idle | held
  · rw [idle]
  · split
    · exact if_pos held
    · rfl

theorem State.completeSlot_done {s : State} {k : SlotId} {p : PurgeSlot} (inUse : s.slots[k] = some p)
    (bare : s.carriers k = 0) :
    s.completeSlot k = { s with slots := s.slots.set k none }.notice 50 [byteOf k.val, p.seq] := by
  unfold State.completeSlot
  rw [inUse]
  exact if_pos bare

theorem State.completeSlot_waits {s : State} {k : SlotId} (waits : s.slots[k] = none ∨ s.carriers k ≠ 0) :
    s.completeSlot k = s := by
  unfold State.completeSlot
  rcases waits with free | carried
  · rw [free]
  · split
    · exact if_neg carried
    · rfl

theorem ctxWaits_iff {s : State} {c : Ctx} : s.ctxWaits c = true ↔
    ∃ (g : BridgeTag) (o : OutEntry), s.outs[g] = some o ∧ o.phase = .waiting ∧ o.ctx = c := by
  rw [ctxWaits_eq, anyEntry_iff]
  simp only [Bool.and_eq_true, beq_iff_eq]

theorem State.completeClose_done {s : State} {c : Ctx} {q : Byte} (closing : s.ctxs[c].state = .closing q)
    (bare : s.ctxWaits c = false) : s.completeClose c =
      { s with ctxs := s.ctxs.set c { s.ctxs[c] with state := .closed } }.notice 51 [byteOf c.val, q] := by
  unfold State.completeClose
  rw [closing]
  exact if_neg (by rw [bare]; decide)

theorem State.completeClose_busy {s : State} {c : Ctx} {q : Byte} (closing : s.ctxs[c].state = .closing q)
    (waits : s.ctxWaits c = true) : s.completeClose c = s := by
  unfold State.completeClose
  rw [closing]
  exact if_pos waits

theorem phase_ne_waiting {o : OutEntry} : o.phase ≠ .waiting ↔ o.phase = .expired := by
  cases o.phase <;> decide

/-- Settles O24. -/
theorem endsOfWaiting : Obligations.EndsOfWaiting := by
  unfold Obligations.EndsOfWaiting
  intro s
  refine ⟨fun a g pending unheld running => ?_, fun a waits running => ?_, fun k p inUse bare => ?_, fun k waits => ?_,
    fun c q closing => ⟨fun bare => ?_, fun waits => ?_⟩, fun c idle => ?_,
    fun q draining => ⟨fun park misses outs fences => ?_, fun undrained => ?_⟩, fun running => ?_⟩
  · have hbridge : (s.judgeFence a).bridge = s.bridge := State.judgeFence_bridge ..
    exact congrArg Host.Outcome.next ((State.judgeDrain_idle fun q => by rw [hbridge]; exact running q).trans
      (State.judgeFence_done pending unheld))
  · exact congrArg Host.Outcome.next ((congrArg State.judgeDrain (State.judgeFence_waits waits)).trans
      (State.judgeDrain_idle running))
  · exact congrArg Host.Outcome.next (State.completeSlot_done inUse bare)
  · exact congrArg Host.Outcome.next (State.completeSlot_waits waits)
  · exact congrArg Host.Outcome.next (State.completeClose_done closing (Bool.eq_false_iff.mpr (mt ctxWaits_iff.mp bare)))
  · exact congrArg Host.Outcome.next (State.completeClose_busy closing (ctxWaits_iff.mpr waits))
  · exact congrArg Host.Outcome.next (State.completeClose_open idle)
  · have hd : s.drained = true := drained_iff.mpr ⟨park, misses, fun g o ho => phase_ne_waiting.mpr (outs g o ho), fences⟩
    exact congrArg Host.Outcome.next (State.judgeDrain_drained draining hd)
  · exact congrArg Host.Outcome.next (State.judgeDrain_undrained undrained)
  · exact congrArg Host.Outcome.next (State.judgeDrain_idle running)

/-! ## Copies of a miss's notice -/

/-- A copy that falls due is numbered, its successor's time held, and its notice built as things stand (R43). -/
theorem State.advanceCopy_sent (s : State) (id : MissId) (m : Miss) :
    (s.advanceCopy id m).sendMissCopy id (m.sent + 1) = (s.advanceCopy id m).notice 48
      ([byteOf id.val, s.misses[id].gen, byteOf (m.sent + 1), byteOf m.ctx.val] ++ beBytes 4 m.page.toNat ++
        [byteOf (m.page.toNat % 64), byteOf (s.cache[setOf m.page].victim).val, firstAccessByte m.access m.mode,
          byteOf (s.waiters id).length]) := by
  have hslot : (s.advanceCopy id m).misses[id] =
      { gen := s.misses[id].gen, active := some { m with sent := m.sent + 1, next := m.nextCopy (m.sent + 1) } } :=
    (getElem_set_fin _ _ _ _).trans (if_pos rfl)
  rw [State.sendMissCopy_active (congrArg MissSlot.active hslot), missNoticeBody, congrArg MissSlot.gen hslot]
  rfl

/-- Settles O37. -/
theorem missNotice : Obligations.MissNotice := by
  unfold Obligations.MissNotice
  intro s id
  refine ⟨fun m t active next => ⟨fun due => ?_, fun early => ?_⟩, fun free => ?_, fun m active spent => ?_⟩
  · have hexec : exec (.missNotice id) s = .next ((s.advanceCopy id m).sendMissCopy id (m.sent + 1)) := by
      show execMissNotice id s = _
      unfold execMissNotice
      rw [active]
      dsimp only
      rw [next]
      exact if_pos due
    rw [hexec, State.advanceCopy_sent]
    rfl
  · show execMissNotice id s = _
    unfold execMissNotice
    rw [active]
    dsimp only
    rw [next]
    exact if_neg (by rw [early]; decide)
  · show execMissNotice id s = _
    unfold execMissNotice
    rw [free]
  · show execMissNotice id s = _
    unfold execMissNotice
    rw [active]
    dsimp only
    rw [spent]

/-! ## Free miss entries -/

theorem joinMiss_eq (id : MissId) (c : Ctx) (p : Page) : joinMiss id c p = fun q =>
    if q.state = .unnoticed ∧ q.ctx = c ∧ pageOf q.address = p then { q with state := .waiting id } else q := by
  funext q
  unfold joinMiss
  simp only [Bool.and_eq_true, ParkRecord.isUnnoticed_iff, ParkRecord.onPair, beq_iff_eq, ParkRecord.page]

theorem find_unnoticed {park before behind : List ParkRecord} {r : ParkRecord} (split : park = before ++ r :: behind)
    (first : ∀ q ∈ before, q.state ≠ .unnoticed) (unnoticed : r.state = .unnoticed) :
    park.find? ParkRecord.isUnnoticed = some r := by
  have hbefore : before.find? ParkRecord.isUnnoticed = none :=
    List.find?_eq_none.mpr fun q hq => mt ParkRecord.isUnnoticed_iff.mp (first q hq)
  rw [split, List.find?_append, hbefore, Option.none_or,
    List.find?_cons_of_pos (ParkRecord.isUnnoticed_iff.mpr unnoticed)]

/-- The state of an offer that is taken, before copy 0 is sent (R48). -/
def State.offered (s : State) (id : MissId) (r : ParkRecord) : State :=
  { s with
    park := s.park.map (joinMiss id r.ctx r.page)
    misses := s.misses.set id { gen := s.misses[id].gen + 1, active := some (freshMiss s r.ctx r.page r.kind r.mode) }
    ctr := { s.ctr with misses := s.ctr.misses + 1 } }

theorem State.offered_misses_get (s : State) (id j : MissId) (r : ParkRecord) : (s.offered id r).misses[j] =
    if j = id then { gen := s.misses[id].gen + 1, active := some (freshMiss s r.ctx r.page r.kind r.mode) }
    else s.misses[j] := by
  unfold State.offered
  dsimp only
  rw [getElem_set_fin]
  exact if_congr eq_comm rfl rfl

/-- Copy 0's body at an offer that is taken (R43, R48, Table 10-7). -/
def State.offerCopy (s : State) (id : MissId) (r : ParkRecord) : List Byte :=
  [byteOf id.val, s.misses[id].gen + 1, 0, byteOf r.ctx.val] ++ beBytes 4 r.page.toNat ++
    [byteOf (r.page.toNat % 64), byteOf (s.cache[setOf r.page].victim).val,
      (if r.kind = .read then 0 else 2) + (if r.mode = .user then 0 else 1), byteOf ((s.offered id r).waiters id).length]

theorem State.offer_taken {s : State} {id : MissId} {r : ParkRecord} (free : s.misses[id].active = none)
    (first : s.park.find? ParkRecord.isUnnoticed = some r) :
    s.offer id = (s.offered id r).notice 48 (s.offerCopy id r) := by
  unfold State.offer
  rw [free, first]
  exact State.allocMiss_copy { s with park := s.park.map (joinMiss id r.ctx r.page) } id r.ctx r.page r.kind r.mode

theorem State.offer_idle {s : State} {id : MissId} (idle : s.misses[id].active ≠ none ∨ ∀ q ∈ s.park, q.state ≠ .unnoticed) :
    s.offer id = s := by
  unfold State.offer
  split
  · next r hactive hfirst =>
    rcases idle with active | none
    · exact absurd hactive active
    · exact absurd (ParkRecord.isUnnoticed_iff.mp (List.find?_some hfirst)) (none r (List.mem_of_find?_eq_some hfirst))
  · rfl

/-- Settles O38. -/
theorem missEntryOffer : Obligations.MissEntryOffer := by
  unfold Obligations.MissEntryOffer
  intro s id
  refine ⟨fun before behind r free split first unnoticed => ?_, fun idle => congrArg Host.Outcome.next (State.offer_idle idle)⟩
  refine ⟨_, congrArg Host.Outcome.next (State.offer_taken free (find_unnoticed split first unnoticed)), ?_⟩
  have hslot : ((s.offered id r).notice 48 (s.offerCopy id r)).misses[id] =
      { gen := s.misses[id].gen + 1, active := some (freshMiss s r.ctx r.page r.kind r.mode) } := by
    rw [State.notice_misses, State.offered_misses_get, if_pos rfl]
  refine ⟨?_, by rw [hslot], ⟨freshMiss s r.ctx r.page r.kind r.mode, by rw [hslot], rfl, rfl, ?_, rfl, rfl, rfl, rfl, rfl,
    rfl⟩, fun j hj => ?_, ?_, fun m up manager => ?_, ?_, ?_, ?_, ?_, ?_⟩
  · rw [State.notice_park, State.offered, joinMiss_eq]
    rfl
  · cases r.kind <;> simp [freshMiss, accessOf]
  · rw [State.notice_misses, State.offered_misses_get, if_neg hj]
  · unfold State.notice
    split <;> rfl
  · rw [State.notice_sent (s := s.offered id r) up manager]
    exact ⟨_, rfl, rfl, rfl, rfl, rfl⟩
  · rw [State.notice_near]
    rfl
  · rw [State.notice_cache]
    rfl
  · rw [State.notice_outs]
    rfl
  · rw [State.notice_fences]
    rfl
  · rw [State.notice_log]
    rfl

end Sys2Proof.Machine
end

section
/-! PROOF. FILL's operands and its checks before anything is written (O30, and the checks of O31). -/

namespace Sys2Proof.Machine

open Sys2Proof.Safety

/-! ## The operands of a FILL -/

theorem inRange_none_iff {k n : Nat} : inRange k n = none ↔ k ≤ n := by
  constructor
  · intro h
    by_contra hlt
    rw [inRange_some (Nat.lt_of_not_le hlt)] at h
    cases h
  · exact inRange_none

theorem actionOf_none_iff {flags : Byte} : actionOf flags = none ↔ flags.getLsbD 4 = true ∧ flags.getLsbD 3 = true := by
  revert flags
  decide

theorem scopeOf_none_iff {flags ctx : Byte} : scopeOf flags ctx = none ↔ flags.getLsbD 6 = false ∧ 15 < ctx.toNat := by
  unfold scopeOf
  cases flags.getLsbD 6 with
  | true => simp
  | false =>
    simp only [Bool.false_eq_true, if_false, Option.map_eq_none_iff, inRange_none_iff, true_and]
    rfl

theorem pageOfBytes_none_iff {l : List Byte} : pageOfBytes l = none ↔ 67108863 < beNat l := by
  simp only [pageOfBytes, ite_eq_right_iff, reduceCtorEq, imp_false]
  omega

theorem physPageOfBytes_none_iff {l : List Byte} : physPageOfBytes l = none ↔ 4194303 < beNat l := by
  simp only [physPageOfBytes, ite_eq_right_iff, reduceCtorEq, imp_false]
  omega

theorem wayChoiceOf_none_iff {b : Byte} : wayChoiceOf b = none ↔ 4 < b.toNat := by
  unfold wayChoiceOf
  by_cases h : b = 4
  · subst h
    simp
  · have hne : b.toNat ≠ 4 := fun hb => h (BitVec.eq_of_toNat_eq hb)
    rw [if_neg h, Option.map_eq_none_iff, inRange_none_iff]
    omega

theorem fillTicketOf_none_iff {id gen : Byte} : fillTicketOf id gen = none ↔ 15 < id.toNat ∧ id ≠ 255 := by
  unfold fillTicketOf
  by_cases h : id = 255
  · simp [h]
  · rw [if_neg h, Option.map_eq_none_iff, inRange_none_iff]
    exact ⟨fun hid => ⟨hid, h⟩, fun hid => hid.1⟩

theorem entryOfBytes_none_iff {flags ctx p3 p2 p1 p0 node q2 q1 q0 : Byte} :
    entryOfBytes flags ctx p3 p2 p1 p0 node q2 q1 q0 = none ↔
      flags.getLsbD 7 = false ∨ (flags.getLsbD 4 = true ∧ flags.getLsbD 3 = true) ∨
        (flags.getLsbD 6 = false ∧ 15 < ctx.toNat) ∨ 67108863 < beNat [p3, p2, p1, p0] ∨ 63 < node.toNat ∨
        4194303 < beNat [q2, q1, q0] := by
  have hnode : inRange 64 node.toNat = none ↔ 63 < node.toNat := inRange_none_iff
  rw [← actionOf_none_iff, ← scopeOf_none_iff, ← pageOfBytes_none_iff, ← hnode, ← physPageOfBytes_none_iff]
  unfold entryOfBytes
  cases flags.getLsbD 7 with
  | false => simp
  | true => cases actionOf flags <;> cases scopeOf flags ctx <;> cases pageOfBytes [p3, p2, p1, p0] <;>
      cases inRange 64 node.toNat <;> cases physPageOfBytes [q2, q1, q0] <;> simp

/-- A FILL's range check, field by field (R17, Table 10-6). -/
theorem fillArgs_none_iff {flags ctx p3 p2 p1 p0 node q2 q1 q0 way id gen : Byte} :
    fillArgs [flags, ctx, p3, p2, p1, p0, node, q2, q1, q0, way, id, gen] = none ↔
      entryOfBytes flags ctx p3 p2 p1 p0 node q2 q1 q0 = none ∨ wayChoiceOf way = none ∨ fillTicketOf id gen = none := by
  unfold fillArgs
  dsimp only
  cases entryOfBytes flags ctx p3 p2 p1 p0 node q2 q1 q0 <;> cases wayChoiceOf way <;> cases fillTicketOf id gen <;> simp

/-! ## The target way (R14, R19) -/

theorem Entry.sameKey_iff {x e : Entry} :
    x.sameKey e = true ↔ x.valid = true ∧ x.scope = e.scope ∧ x.page = e.page := by
  simp only [Entry.sameKey, Bool.and_eq_true, beq_iff_eq, and_assoc]

/-- The last element of a list to pass a test, none behind it passing. -/
theorem find_reverse {α : Type} {p : α → Bool} {before behind : List α} {w : α} (hw : p w = true)
    (hbehind : ∀ v ∈ behind, p v = false) : (before ++ w :: behind).reverse.find? p = some w := by
  have hnone : behind.reverse.find? p = none :=
    List.find?_eq_none.mpr fun v hv => by rw [hbehind v (List.mem_reverse.mp hv)]; decide
  rw [List.reverse_append, List.reverse_cons, List.append_assoc, List.find?_append, hnone, Option.none_or]
  exact List.find?_cons_of_pos hw

theorem CacheSet.victim_invalid {t : CacheSet} {before behind : List WayId} {w : WayId}
    (order : t.order = before ++ w :: behind) (invalid : t.ways[w].valid = false)
    (valid : ∀ v ∈ behind, t.ways[v].valid = true) : t.victim = w := by
  have hfind : t.order.reverse.find? (fun w => !t.ways[w].valid) = some w := by
    rw [order]
    exact find_reverse (by rw [invalid]; rfl) fun v hv => by rw [valid v hv]; rfl
  unfold CacheSet.victim
  rw [hfind]

theorem CacheSet.victim_unpinned {t : CacheSet} {before behind : List WayId} {w : WayId}
    (order : t.order = before ++ w :: behind) (valid : ∀ v : WayId, t.ways[v].valid = true)
    (unpinned : t.ways[w].pinned = false) (pinned : ∀ v ∈ behind, t.ways[v].pinned = true) : t.victim = w := by
  have hvalid : t.order.reverse.find? (fun w => !t.ways[w].valid) = none :=
    List.find?_eq_none.mpr fun v _ => by rw [valid v]; decide
  have hfind : t.order.reverse.find? (fun w => !t.ways[w].pinned) = some w := by
    rw [order]
    exact find_reverse (by rw [unpinned]; rfl) fun v hv => by rw [pinned v hv]; rfl
  unfold CacheSet.victim
  rw [hvalid, hfind]

theorem target_of_targetWay {t : CacheSet} {e : Entry} {choice : WayChoice} {w : WayId} (h : TargetWay t e choice w) :
    t.target e choice = w := by
  cases choice with
  | explicit v => exact (show w = v from h).symm
  | auto =>
    unfold CacheSet.target
    dsimp only
    rcases h with only | ⟨none, before, behind, order, victim⟩
    · split
      · next v hv => exact (only v).mp (Entry.sameKey_iff.mp (List.find?_some (p := fun v : WayId => t.ways[v].sameKey e) hv))
      · next hnone =>
        have := List.find?_eq_none.mp hnone w (List.mem_finRange w)
        exact absurd (Entry.sameKey_iff.mpr ((only w).mpr rfl)) this
    · have hnone : (List.finRange 4).find? (fun v => t.ways[v].sameKey e) = .none :=
        List.find?_eq_none.mpr fun v _ => mt Entry.sameKey_iff.mp (none v)
      rw [hnone]
      rcases victim with ⟨invalid, valid⟩ | ⟨valid, unpinned, pinned⟩
      · exact CacheSet.victim_invalid order invalid valid
      · exact CacheSet.victim_unpinned order valid unpinned pinned

/-! ## The checks of a FILL (Table 1-4) -/

theorem conflicts_iff {x e : Entry} : x.conflicts e = true ↔ Clash x e := by
  have hscope : x.scope.overlaps e.scope = true ↔
      x.scope = .allContexts ∨ e.scope = .allContexts ∨ x.scope = e.scope := by
    cases x.scope <;> cases e.scope <;> simp [Scope.overlaps]
  unfold Clash Entry.conflicts
  rw [Bool.and_eq_true, Bool.and_eq_true, beq_iff_eq, hscope, and_assoc]

theorem conflict_iff {t : CacheSet} {e : Entry} {w : WayId} :
    t.conflict e w = true ↔ ∃ v : WayId, v ≠ w ∧ Clash t.ways[v] e := by
  simp only [CacheSet.conflict, List.any_eq_true, List.mem_finRange, true_and, Bool.and_eq_true, bne_iff_ne, ne_eq,
    conflicts_iff]

/-- The context's part of a FILL's checks (R18). -/
def fillContextOk (s : State) (e : Entry) : Bool :=
  match e.scope with
  | .allContexts => true
  | .context c => s.isOpen c

theorem fillContextOk_iff {s : State} {e : Entry} :
    fillContextOk s e = true ↔ ∀ c, e.scope = .context c → s.ctxs[c].state = .opened := by
  unfold fillContextOk
  cases e.scope with
  | allContexts => simp
  | context c => simp [State.isOpen]

theorem judgeFill_eq (s : State) (e : Entry) (choice : WayChoice) : judgeFill s e choice =
    if !fillContextOk s e then .error .state
    else if s.cache[setOf e.page].conflict e (s.cache[setOf e.page].target e choice) then .error .duplicate
    else if e.pinned && Config.maxPins ≤ s.cache[setOf e.page].pinsBut (s.cache[setOf e.page].target e choice) then
      .error .pinnedFull
    else .ok (s.cache[setOf e.page].target e choice) := by
  unfold judgeFill fillContextOk
  cases e.scope <;> rfl

theorem judgeFill_state {s : State} {e : Entry} (choice : WayChoice)
    (shut : ∃ c, e.scope = .context c ∧ s.ctxs[c].state ≠ .opened) : judgeFill s e choice = .error .state := by
  have hbad : fillContextOk s e = false := by
    rw [Bool.eq_false_iff, ne_eq, fillContextOk_iff]
    obtain ⟨c, hc, hs⟩ := shut
    exact fun h => hs (h c hc)
  rw [judgeFill_eq, hbad]
  rfl

section
variable {s : State} {e : Entry} {choice : WayChoice} (open_ : ∀ c, e.scope = .context c → s.ctxs[c].state = .opened)
include open_

theorem judgeFill_duplicate (clash : ∃ v : WayId, v ≠ s.cache[setOf e.page].target e choice ∧
    Clash s.cache[setOf e.page].ways[v] e) : judgeFill s e choice = .error .duplicate := by
  rw [judgeFill_eq, fillContextOk_iff.mpr open_]
  exact if_pos (conflict_iff.mpr clash)

variable (apart : ∀ v : WayId, v ≠ s.cache[setOf e.page].target e choice → ¬Clash s.cache[setOf e.page].ways[v] e)
include apart

theorem judgeFill_apart : judgeFill s e choice =
    if e.pinned && Config.maxPins ≤ s.cache[setOf e.page].pinsBut (s.cache[setOf e.page].target e choice) then
      .error .pinnedFull
    else .ok (s.cache[setOf e.page].target e choice) := by
  have hapart : ¬s.cache[setOf e.page].conflict e (s.cache[setOf e.page].target e choice) = true := by
    rw [conflict_iff]
    rintro ⟨v, hv, hc⟩
    exact apart v hv hc
  rw [judgeFill_eq, fillContextOk_iff.mpr open_]
  exact if_neg hapart

theorem judgeFill_pinnedFull (pinned : e.pinned = true)
    (full : ∀ v : WayId, v ≠ s.cache[setOf e.page].target e choice → s.cache[setOf e.page].ways[v].pinned = true) :
    judgeFill s e choice = .error .pinnedFull := by
  rw [judgeFill_apart open_ apart, if_pos]
  rw [pinned, Bool.true_and, decide_eq_true_iff, pinsBut_full]
  exact full

theorem judgeFill_passes (room : e.pinned = false ∨
      ∃ v : WayId, v ≠ s.cache[setOf e.page].target e choice ∧ s.cache[setOf e.page].ways[v].pinned = false) :
    judgeFill s e choice = .ok (s.cache[setOf e.page].target e choice) := by
  rw [judgeFill_apart open_ apart, if_neg]
  rw [Bool.and_eq_true, decide_eq_true_iff, pinsBut_full]
  rintro ⟨pinned, full⟩
  rcases room with unpinned | ⟨v, hv, other⟩
  · rw [pinned] at unpinned
    cases unpinned
  · rw [full v hv] at other
    cases other

end

theorem exec_fill {s : State} {h : Header} {body : List Byte} {a : FillArgs} (hu : UnderE s h body)
    (args : fillArgs body = some a) :
    exec (.fill h body) s = .next (runFill (commandFrame .fill h body) a (farTaken s)) :=
  exec_command_run (run := runFill (commandFrame .fill h body)) hu .fill args rfl

/-- A FILL that a check refuses is answered with the check's NAK. -/
theorem exec_fill_nak {s : State} {h : Header} {body : List Byte} {a : FillArgs} {code : NakCode} (hu : UnderE s h body)
    (args : fillArgs body = some a) (judged : judgeFill s a.entry a.way = .error code) :
    exec (.fill h body) s = .next (answered s h 33 [1, nakByte code, 0]) := by
  rw [exec_fill hu args, runFill, show judgeFill (farTaken s) a.entry a.way = .error code from judged]
  exact congrArg Host.Outcome.next (State.nak_answered hu.1.1 .fill h body code)

/-- Settles O30. -/
theorem fillNaks : Obligations.FillNaks := by
  unfold Obligations.FillNaks
  intro s h body hu
  refine ⟨?_, fun bad => ?_, fun a args => ⟨fun shut => ?_, fun w target => ?_, fun open_ => ⟨fun clash => ?_,
    fun apart pinned full => ?_⟩⟩⟩
  · rintro flags ctx p3 p2 p1 p0 node q2 q1 q0 way id gen rfl
    rw [fillArgs_none_iff, entryOfBytes_none_iff, wayChoiceOf_none_iff, fillTicketOf_none_iff]
    rw [or_left_comm]
    simp only [or_assoc]
  · exact exec_command_range (run := runFill (commandFrame .fill h body)) hu .fill bad rfl
  · exact exec_fill_nak hu args (judgeFill_state a.way shut)
  · exact target_of_targetWay target
  · exact exec_fill_nak hu args (judgeFill_duplicate open_ clash)
  · exact exec_fill_nak hu args (judgeFill_pinnedFull open_ apart pinned full)

/-- The checks pass with the way that R14 and R19 choose. -/
theorem judgeFill_targetWay {s : State} {e : Entry} {choice : WayChoice} {w : WayId}
    (target : TargetWay s.cache[setOf e.page] e choice w) (open_ : ∀ c, e.scope = .context c → s.ctxs[c].state = .opened)
    (apart : ∀ v : WayId, v ≠ w → ¬Clash s.cache[setOf e.page].ways[v] e)
    (room : e.pinned = false ∨ ∃ v : WayId, v ≠ w ∧ s.cache[setOf e.page].ways[v].pinned = false) :
    judgeFill s e choice = .ok w := by
  have hw := target_of_targetWay target
  rw [← hw] at apart room ⊢
  exact judgeFill_passes open_ apart room

end Sys2Proof.Machine
end

section
/-! PROOF. PURGE (O34): its operands, what is invalidated and in what order it then stands, and what is marked. -/

namespace Sys2Proof.Machine

open Sys2Proof.Safety

/-! ## The operands of a PURGE -/

theorem patternOf_two (globalToo ctx : Byte) (page : List Byte) : patternOf 2 globalToo ctx page =
    match inRange 16 ctx.toNat, pageOfBytes page, flagOf globalToo with
    | some c, some p, some g => some (.page c p g)
    | _, _, _ => none := rfl

theorem patternOf_none {code globalToo ctx : Byte} {page : List Byte}
    (h : 3 < code.toNat ∨ (15 < ctx.toNat ∧ (code = 1 ∨ code = 2)) ∨
      (code = 2 ∧ (67108863 < beNat page ∨ 1 < globalToo.toNat))) : patternOf code globalToo ctx page = none := by
  rcases h with high | ⟨hctx, rfl | rfl⟩ | ⟨rfl, hpage | hglobal⟩
  · unfold patternOf
    split
    · omega
    · omega
    · omega
    · omega
    · rfl
  · exact congrArg (Option.map Pattern.context) (inRange_none hctx)
  · rw [patternOf_two, show inRange 16 ctx.toNat = none from inRange_none hctx]
  · rw [patternOf_two, pageOfBytes_none_iff.mpr hpage]
    cases inRange 16 ctx.toNat <;> rfl
  · rw [patternOf_two, flagOf_none hglobal]
    cases inRange 16 ctx.toNat <;> cases pageOfBytes page <;> rfl

theorem purgeArgs_range {code inc globalToo ctx p3 p2 p1 p0 : Byte}
    (h : 3 < code.toNat ∨ 1 < inc.toNat ∨ (15 < ctx.toNat ∧ (code = 1 ∨ code = 2)) ∨
      (code = 2 ∧ (67108863 < beNat [p3, p2, p1, p0] ∨ 1 < globalToo.toNat))) :
    purgeArgs [code, inc, globalToo, ctx, p3, p2, p1, p0] = none := by
  unfold purgeArgs
  dsimp only
  by_cases hinc : 1 < inc.toNat
  · rw [flagOf_none hinc]
    cases patternOf code globalToo ctx [p3, p2, p1, p0] <;> rfl
  · rw [patternOf_none (h.imp_right fun h => h.resolve_left hinc)]

theorem purgeArgs_read {code globalToo ctx p3 p2 p1 p0 : Byte} {pat : Pattern}
    (hpat : patternOf code globalToo ctx [p3, p2, p1, p0] = some pat) (inc : Bool) :
    purgeArgs [code, flagByte inc, globalToo, ctx, p3, p2, p1, p0] = some (pat, inc) := by
  unfold purgeArgs
  dsimp only
  rw [hpat, flagOf_flagByte]

theorem patternOf_context (c : Ctx) (b2 : Byte) (page : List Byte) :
    patternOf 1 b2 (byteOf c.val) page = some (.context c) :=
  congrArg (Option.map Pattern.context) (inRange_byteOf (by decide) c)

theorem patternOf_page (c : Ctx) (p : Page) (globalToo : Bool) {p3 p2 p1 p0 : Byte}
    (hp : beBytes 4 p.toNat = [p3, p2, p1, p0]) :
    patternOf 2 (flagByte globalToo) (byteOf c.val) [p3, p2, p1, p0] = some (.page c p globalToo) := by
  rw [patternOf_two, inRange_byteOf (by decide), ← hp, pageOfBytes_read, flagOf_flagByte]

/-! ## Invalidation, exactly (R3, R13) -/

theorem moveBacks_eq {gone : List WayId} (nodup : gone.Nodup) (order behind : List WayId)
    (apart : ∀ w ∈ gone, w ∉ behind) :
    gone.foldl (fun o w => moveBack w o) (order ++ behind) = order.diff gone ++ (behind ++ gone) := by
  induction gone generalizing order behind with
  | nil => rw [List.foldl_nil, List.diff_nil, List.append_nil]
  | cons w gone ih =>
    obtain ⟨fresh, nodup⟩ := List.nodup_cons.mp nodup
    have herase : (order ++ behind).erase w = order.erase w ++ behind := by
      by_cases hw : w ∈ order
      · exact List.erase_append_left behind hw
      · rw [List.erase_append_right _ hw, List.erase_of_not_mem (apart w List.mem_cons_self), List.erase_of_not_mem hw]
    have hrest : ∀ v ∈ gone, v ∉ behind ++ [w] := by
      intro v hv hmem
      rcases List.mem_append.mp hmem with hb | hw
      · exact apart v (List.mem_cons_of_mem _ hv) hb
      · exact fresh (List.mem_singleton.mp hw ▸ hv)
    rw [List.foldl_cons, moveBack, herase, List.append_assoc, ih nodup _ _ hrest, List.diff_cons, List.append_assoc,
      List.singleton_append]

theorem CacheSet.drops_order (named : Entry → Bool) {l : List WayId} (nodup : l.Nodup) (t : CacheSet) :
    (l.foldl (CacheSet.drop named) t).order =
      (l.filter fun w => t.ways[w].valid && named t.ways[w]).foldl (fun o w => moveBack w o) t.order := by
  induction l generalizing t with
  | nil => rfl
  | cons v l ih =>
    obtain ⟨fresh, nodup⟩ := List.nodup_cons.mp nodup
    have hsame : (l.filter fun w => (t.drop named v).ways[w].valid && named (t.drop named v).ways[w]) =
        l.filter fun w => t.ways[w].valid && named t.ways[w] := by
      refine List.filter_congr fun w hw => ?_
      have hne : ¬(v = w ∧ (t.ways[w].valid && named t.ways[w]) = true) := fun h => fresh (h.1 ▸ hw)
      rw [CacheSet.drop_ways, if_neg hne]
    rw [List.foldl_cons, ih nodup, hsame, List.filter_cons]
    unfold CacheSet.drop
    split <;> rfl

/-- An invalidation of a set is that of R13. -/
theorem CacheSet.dropAll_eq (named : Entry → Bool) (t : CacheSet) :
    t.dropAll named = setInvalidated (fun e => e.valid && named e) t := by
  have hways : (t.dropAll named).ways = (setInvalidated (fun e => e.valid && named e) t).ways := by
    refine Vector.ext fun i hi => ?_
    have hw := CacheSet.dropAll_ways named t ⟨i, hi⟩
    refine hw.trans ?_
    unfold setInvalidated
    rw [Vector.getElem_map]
    rfl
  have horder : (t.dropAll named).order = (setInvalidated (fun e => e.valid && named e) t).order := by
    have hgone := moveBacks_eq (gone := (List.finRange 4).filter fun w : WayId => t.ways[w].valid && named t.ways[w])
      ((List.nodup_finRange 4).filter _) t.order [] (fun _ _ => List.not_mem_nil)
    rw [List.append_nil, List.nil_append] at hgone
    exact (CacheSet.drops_order named (List.nodup_finRange 4) t).trans hgone
  calc t.dropAll named
    _ = ⟨(t.dropAll named).ways, (t.dropAll named).order⟩ := rfl
    _ = _ := by rw [hways, horder]

theorem invalidateCache_eq (named : Entry → Bool) (cache : Vector CacheSet 64) :
    invalidateCache named cache = cache.map (setInvalidated fun e => e.valid && named e) :=
  congrArg (fun f => cache.map f) (funext (CacheSet.dropAll_eq named))

theorem Vector_toList_finRange {α : Type} {n : Nat} (v : Vector α n) : v.toList = (List.finRange n).map fun i => v[i] := by
  refine List.ext_getElem (by simp) fun i h1 h2 => ?_
  simp

theorem countInvalidated_eq (named : Entry → Bool) (s : State) :
    countInvalidated named s.cache = countNamed s fun e => e.valid && named e := by
  unfold countInvalidated countNamed
  rw [Vector_toList_finRange s.cache, List.map_map]
  refine congrArg List.sum (List.map_congr_left fun i _ => ?_)
  show CacheSet.countNamed named s.cache[i] = _
  unfold CacheSet.countNamed
  rw [Vector_toList_finRange, List.countP_map]
  rfl

/-! ## What a pattern names (Table 5-1) -/

theorem purgeNames_eq (pat : Pattern) (inc : Bool) : (fun e => e.valid && purgeNames pat inc e) = entryNamed pat inc := by
  funext e
  unfold purgeNames entryNamed Pattern.namesEntry Entry.isGlobal
  cases e.valid with
  | false => simp
  | true => cases pat <;> simp only [Bool.true_and, Bool.and_comm]

theorem namesWork_eq (pat : Pattern) (c : Ctx) (p : Page) (isGlobal : Bool) :
    pat.namesWork c p isGlobal = workNamed pat c p isGlobal := by
  cases pat with
  | all => rfl
  | context d => rfl
  | page d q globalToo => cases isGlobal <;> simp [Pattern.namesWork, workNamed, Bool.and_comm]
  | allGlobal => rfl

theorem ParkRecord.markedBy_eq (pat : Pattern) (k : SlotId) : ParkRecord.markedBy pat k = fun r => match r.state with
    | .ready x m =>
      if workNamed pat r.ctx (pageOf r.address) x.isGlobal then
        { r with state := .ready x ((List.finRange 4).filter fun j => j == k || m.contains j) }
      else r
    | _ => r := by
  funext r
  unfold ParkRecord.markedBy
  cases r.state with
  | ready x m =>
    dsimp only
    rw [namesWork_eq]
    rfl
  | waiting id => rfl
  | unnoticed => rfl

theorem OutEntry.markedBy_eq (pat : Pattern) (k : SlotId) : OutEntry.markedBy pat k = fun o =>
    if o.phase = .waiting ∧ workNamed pat o.ctx o.page o.isGlobal = true then
      { o with marks := (List.finRange 4).filter fun j => j == k || o.marks.contains j }
    else o := by
  funext o
  unfold OutEntry.markedBy
  rw [namesWork_eq]
  rfl

theorem purgedCache_eq (pat : Pattern) (inc : Bool) (cache : Vector CacheSet 64) : purgedCache pat inc cache =
    cache.map fun t =>
      if pat = .all ∧ inc = true then
        { ways := t.ways.map fun e => if e.valid then { e with valid := false, pinned := false } else e
          order := [3, 2, 1, 0] }
      else setInvalidated (entryNamed pat inc) t := by
  unfold purgedCache
  by_cases h : pat = .all ∧ inc = true
  · simp only [if_pos h]
    rfl
  · simp only [if_neg h, invalidateCache_eq, purgeNames_eq]

/-! ## PURGE -/

theorem State.freeSlot_none {s : State} (h : ∀ k : SlotId, s.slots[k] ≠ none) : s.freeSlot = none := by
  unfold State.freeSlot
  exact List.find?_eq_none.mpr fun k _ => by rw [Option.isNone_iff_eq_none]; exact h k

theorem State.freeSlot_lowest {s : State} {k : SlotId} (free : s.slots[k] = none)
    (lowest : ∀ j : SlotId, j < k → s.slots[j] ≠ none) : s.freeSlot = some k := by
  cases hfree : s.freeSlot with
  | none =>
    have := List.find?_eq_none.mp hfree k (List.mem_finRange k)
    rw [Option.isNone_iff_eq_none] at this
    exact absurd free this
  | some j =>
    have hj := State.freeSlot_some hfree
    rcases lt_trichotomy j k with hlt | rfl | hgt
    · exact absurd hj (lowest j hlt)
    · rfl
    · unfold State.freeSlot at hfree
      obtain ⟨-, before, behind, hsplit, hbefore⟩ := List.find?_eq_some_iff_append.mp hfree
      have hsorted : (before ++ j :: behind).Pairwise (· < ·) := hsplit ▸ List.pairwise_lt_finRange 4
      have hmem : k ∈ before ++ j :: behind := hsplit ▸ List.mem_finRange k
      rcases List.mem_append.mp hmem with hin | hin
      · have := hbefore k hin
        rw [Option.isNone_iff_eq_none.mpr free] at this
        cases this
      · rcases List.mem_cons.mp hin with rfl | hin
        · rfl
        · have := (List.pairwise_append.mp hsorted).2.1
          exact absurd ((List.pairwise_cons.mp this).1 k hin) (lt_asymm hgt)

theorem exec_purge {s : State} {h : Header} {body : List Byte} {pat : Pattern} {inc : Bool} (hu : UnderE s h body)
    (args : purgeArgs body = some (pat, inc)) :
    exec (.purge h body) s = .next (runPurge (commandFrame .purge h body) (pat, inc) (farTaken s)) :=
  exec_command_run (run := runPurge (commandFrame .purge h body)) hu .purge args rfl

/-- A PURGE that is taken: ACK, then the judgment of its slot (R102, R108). -/
theorem runPurge_taken {s : State} {h : Header} {body : List Byte} {pat : Pattern} {inc : Bool} {k : SlotId}
    (hu : UnderE s h body) (free : s.freeSlot = some k) :
    runPurge (commandFrame .purge h body) (pat, inc) (farTaken s) =
      (answered (s.applyPurge pat inc h.seq k) h 32
        ([5, byteOf k.val] ++ beBytes 2 (countNamed s (entryNamed pat inc)))).completeSlot k := by
  unfold runPurge
  rw [show (farTaken s).freeSlot = some k from free]
  dsimp only
  rw [show (farTaken s).cache = s.cache from rfl, countInvalidated_eq, purgeNames_eq]
  exact congrArg (fun t : State => t.completeSlot k) (State.ack_answered (s := s.applyPurge pat inc h.seq k) hu.1.1 .purge
    h body _)

theorem applyPurge_eq (s : State) (pat : Pattern) (inc : Bool) (seq : Byte) (k : SlotId) :
    s.applyPurge pat inc seq k = { s with
      cache := s.cache.map fun t =>
        if pat = .all ∧ inc = true then
          { ways := t.ways.map fun e => if e.valid then { e with valid := false, pinned := false } else e
            order := [3, 2, 1, 0] }
        else setInvalidated (entryNamed pat inc) t
      slots := s.slots.set k (some { pattern := pat, seq := seq })
      park := s.park.map fun r => match r.state with
        | .ready x m =>
          if workNamed pat r.ctx (pageOf r.address) x.isGlobal then
            { r with state := .ready x ((List.finRange 4).filter fun j => j == k || m.contains j) }
          else r
        | _ => r
      outs := s.outs.map fun x => x.map fun o =>
        if o.phase = .waiting ∧ workNamed pat o.ctx o.page o.isGlobal = true then
          { o with marks := (List.finRange 4).filter fun j => j == k || o.marks.contains j }
        else o } := by
  unfold State.applyPurge
  rw [purgedCache_eq, ParkRecord.markedBy_eq, OutEntry.markedBy_eq]

/-- Settles O34. -/
theorem purge : Obligations.Purge := by
  unfold Obligations.Purge
  intro s h
  refine ⟨fun code inc globalToo ctx p3 p2 p1 p0 hu bad => ?_, fun inc globalToo c p b0 b1 b2 b3 b4 b5 => ⟨?_, ?_, ?_, ?_⟩,
    fun body pat inc hu args => ⟨fun full => ?_, ?_⟩⟩
  · exact exec_command_range (run := runPurge (commandFrame .purge h [code, inc, globalToo, ctx, p3, p2, p1, p0])) hu .purge
      (purgeArgs_range bad) rfl
  · exact purgeArgs_read rfl inc
  · exact purgeArgs_read (patternOf_context c b0 [b2, b3, b4, b5]) inc
  · obtain ⟨p3, p2, p1, p0, hp⟩ : ∃ p3 p2 p1 p0, beBytes 4 p.toNat = [p3, p2, p1, p0] := ⟨_, _, _, _, rfl⟩
    rw [hp]
    exact purgeArgs_read (patternOf_page c p globalToo hp) inc
  · exact purgeArgs_read rfl inc
  · rw [exec_purge hu args, runPurge, show (farTaken s).freeSlot = none from State.freeSlot_none full]
    exact congrArg Host.Outcome.next (State.nak_answered hu.1.1 .purge h body .busy)
  · intro k u ack free lowest hstate hack
    have hpurged : s.applyPurge pat inc h.seq k = u := (applyPurge_eq s pat inc h.seq k).trans hstate.symm
    rw [exec_purge hu args, runPurge_taken hu (State.freeSlot_lowest free lowest), ← hack, hpurged]
    have hslots : u.slots = s.slots.set k (some { pattern := pat, seq := h.seq }) := by rw [hstate]
    have hslot : u.slots[k] = some { pattern := pat, seq := h.seq } := by
      rw [hslots, getElem_set_fin, if_pos rfl]
    refine ⟨fun carried => ?_, fun bare => ?_⟩
    · exact congrArg Host.Outcome.next (State.completeSlot_waits (s := answered u h 32 ack)
        (.inr (Nat.ne_of_gt carried)))
    · have hback : u.slots.set k none = s.slots := by
        refine Vector.ext fun i hi => ?_
        have hget := getElem_set_fin (u.slots) k ⟨i, hi⟩ none
        refine hget.trans ?_
        rw [hslots, getElem_set_fin]
        split
        · next hk =>
          rw [hk] at free
          exact free.symm
        · rfl
      rw [State.completeSlot_done (s := answered u h 32 ack) hslot bare,
        State.notice_sent (m := nodeField h.src) (by rw [hstate]; exact hu.1.1) (by rw [hstate]; exact hu.2.2.1),
        show (answered u h 32 ack).slots.set k none = s.slots from hback, hstate]
      dsimp only [answered]
      rw [List.append_assoc]
      rfl

end Sys2Proof.Machine
end

section
/-! PROOF. RESET-BRIDGE (O47): the refusals in an order that their rules allow, and every block's part. -/

namespace Sys2Proof.Machine

open Sys2Proof.Safety

/-! ## The order of the refusals -/

theorem exists_last {α : Type} {p : α → Prop} {l : List α} (h : ∃ x ∈ l, p x) :
    ∃ before x after, l = before ++ x :: after ∧ p x ∧ ∀ y ∈ after, ¬p y := by
  induction l with
  | nil =>
    obtain ⟨x, hx, -⟩ := h
    cases hx
  | cons a l ih =>
    by_cases hl : ∃ x ∈ l, p x
    · obtain ⟨before, x, after, rfl, hx, hafter⟩ := ih hl
      exact ⟨a :: before, x, after, rfl, hx, hafter⟩
    · obtain ⟨x, hx, hp⟩ := h
      rcases List.mem_cons.mp hx with rfl | hx
      · exact ⟨[], x, l, rfl, hp, fun y hy hy' => hl ⟨y, hy, hy'⟩⟩
      · exact absurd ⟨x, hx, hp⟩ hl

/-- What stands, ending in `z`, in a list before which no `z` comes stands in the part that holds `z`. -/
theorem sublist_of_last {α : Type} {l before after : List α} {z : α} (h : (l ++ [z]).Sublist (before ++ after))
    (hz : z ∉ after) : (l ++ [z]).Sublist before := by
  obtain ⟨l1, l2, heq, h1, h2⟩ := List.sublist_append_iff.mp h
  rcases List.eq_nil_or_concat l2 with rfl | ⟨l2', y, rfl⟩
  · rw [List.append_nil] at heq
    rwa [heq]
  · have hlast := congrArg List.getLast? heq
    rw [List.concat_eq_append, ← List.append_assoc, List.getLast?_concat, List.getLast?_concat] at hlast
    cases hlast
    exact absurd (h2.subset (by simp)) hz

/-- The ranked refusals: those of park records and entries, none ranked above its agent's fence, and the fences'. -/
theorem resetRanked_split (rank : Nat → Nat) (s : State) : ∃ others fences, resetRanked rank s = others ++ fences ∧
    fences.map Prod.snd = fenceRefusals s ∧
    ∀ f ∈ fences, ∀ y ∈ others, y.2.1 = f.2.1 → y.1 ≤ f.1 := by
  refine ⟨_, _, rfl, (List.map_map ..).trans ((List.map_congr_left fun _ _ => rfl).trans (List.zipIdx_map_fst ..)), ?_⟩
  intro f hf y hy hagent
  obtain ⟨x, -, rfl⟩ := List.mem_map.mp hf
  exact le_foldl_max (.inr (List.mem_map.mpr ⟨y, List.mem_filter.mpr ⟨hy, beq_iff_eq.mpr hagent⟩, rfl⟩))

theorem mem_fenceRefusals {s : State} {x : Agent × NearTag} : x ∈ fenceRefusals s ↔ s.fences[x.1] = some x.2 := by
  simp only [fenceRefusals, List.mem_filterMap, List.mem_finRange, true_and, Option.map_eq_some_iff, Prod.ext_iff]
  constructor
  · rintro ⟨a, g, hg, rfl, rfl⟩
    exact hg
  · exact fun h => ⟨x.1, x.2, h, rfl, rfl⟩

/-- Behind a pending fence's refusal no other of its agent comes (R81). -/
theorem fence_last_of_agent {s : State} {a : Agent} {g : NearTag} (pending : s.fences[a] = some g) :
    ∃ before after, resetOrder s = before ++ (a, g) :: after ∧ ∀ x ∈ after, x.1 ≠ a := by
  obtain ⟨others, fences, hranked, hfences, hle⟩ := resetRanked_split (Config.resetRank s.moment) s
  have hperm : ((resetRanked (Config.resetRank s.moment) s).insertionSort fun x y => x.1 ≤ y.1).Perm (others ++ fences) :=
    hranked ▸ List.perm_insertionSort ..
  obtain ⟨f, hf, hfid⟩ : ∃ f ∈ fences, f.2 = (a, g) := by
    have := mem_fenceRefusals (x := (a, g)).mpr pending
    rw [← hfences] at this
    exact List.mem_map.mp this
  have hfence {y : Nat × Agent × NearTag} (hy : y ∈ fences) (hagent : y.2.1 = a) : y.2 = (a, g) := by
    obtain ⟨rank, b, q⟩ := y
    cases hagent
    have hq : s.fences[b] = some q := mem_fenceRefusals.mp (hfences ▸ List.mem_map_of_mem (f := Prod.snd) hy)
    rw [pending] at hq
    cases hq
    rfl
  obtain ⟨before, y, after, hsort, hy, hafter⟩ := exists_last (p := fun x : Nat × Agent × NearTag => x.2.1 = a)
    ⟨f, hperm.mem_iff.mpr (List.mem_append_right _ hf), by rw [hfid]⟩
  have hlast : y.2 = (a, g) := by
    by_contra hne
    have hnotFence : y ∉ fences := fun hy' => hne (hfence hy' hy)
    have hyf : y ≠ f := fun h => hne (h ▸ hfid)
    have hmem : y ∈ others ++ fences := hperm.mem_iff.mp (hsort ▸ by simp)
    have hother : y ∈ others := (List.mem_append.mp hmem).resolve_right hnotFence
    have hrank : y.1 ≤ f.1 := hle f hf y hother (by rw [hy, hfid])
    have hchain : (List.replicate (others.count y) y ++ [f]).Sublist (before ++ y :: after) := by
      rw [← hsort]
      refine List.sublist_insertionSort ?_ (hranked ▸ List.Sublist.append ?_ (List.singleton_sublist.mpr hf))
      · refine List.pairwise_append.mpr ⟨List.pairwise_replicate.mpr (.inr (Nat.le_refl _)), List.pairwise_singleton _ _, ?_⟩
        intro u hu v hv
        rw [List.eq_of_mem_replicate hu, List.mem_singleton.mp hv]
        exact hrank
      · exact List.replicate_sublist_iff.mpr (Nat.le_refl _)
    have hnotAfter : f ∉ y :: after := by
      rintro hmem
      rcases List.mem_cons.mp hmem with h | h
      · exact hyf h.symm
      · exact hafter f h (by rw [hfid])
    have hcount := (sublist_of_last hchain hnotAfter).count_le y
    have htotal : (before ++ y :: after).count y = others.count y := by
      rw [← hsort, hperm.count_eq, List.count_append, List.count_eq_zero.mpr hnotFence, Nat.add_zero]
    rw [List.count_append, List.count_replicate_self] at hcount
    rw [List.count_append, List.count_cons_self] at htotal
    omega
  refine ⟨before.map Prod.snd, after.map Prod.snd, ?_, fun x hx => ?_⟩
  · unfold resetOrder
    rw [hsort, List.map_append, List.map_cons, hlast]
  · obtain ⟨z, hz, rfl⟩ := List.mem_map.mp hx
    exact hafter z hz

/-! ## What the refusals leave behind -/

theorem State.answer_refuse_refusals (s : State) (a : Agent) (g : NearTag) (x : Reason) (d : Byte) :
    (s.answer a g (.refuse x d)).ctr.refusals = s.ctr.refusals + 1 := by
  rw [State.answer, State.sendNear_ctr]
  rfl

theorem State.refuseAborted_refusals (s : State) (ids : List (Agent × NearTag)) :
    (s.refuseAborted ids).ctr.refusals = s.ctr.refusals + BitVec.ofNat 32 ids.length := by
  unfold State.refuseAborted
  induction ids generalizing s with
  | nil => simp
  | cons x ids ih =>
    rw [List.foldl_cons, ih, State.answer_refuse_refusals, List.length_cons, Nat.add_comm, BitVec.ofNat_add, BitVec.add_assoc]
    rfl

theorem entries_filter {p : OutEntry → Bool} (l : List (Option OutEntry)) :
    (l.filterMap fun o => o.filter p) = (l.filterMap id).filter p := by
  induction l with
  | nil => rfl
  | cons o l ih =>
    cases o with
    | none => exact ih
    | some e =>
      rw [List.filterMap_cons, List.filterMap_cons_some (f := id) rfl, List.filter_cons, ih, Option.filter_some]
      split_ifs <;> rfl

theorem OutEntry.afterReset_eq (now : Time) (timeout : BitVec 16) (o : OutEntry) : o.afterReset now timeout =
    if o.phase = .waiting then
      { o with
        phase := .expired, orphan := true, deadline := now + timeout.setWidth 32, marks := [], held := false }
    else o := by
  unfold OutEntry.afterReset
  cases o.phase <;> rfl

theorem CtxRecord.closedIfClosing_eq (r : CtxRecord) : r.closedIfClosing = match r.state with
    | .closing _ => { r with state := .closed }
    | _ => r := by
  unfold CtxRecord.closedIfClosing
  cases r.state <;> rfl

/-! ## RESET-BRIDGE -/

/-- The state of a soft reset, before its record is made (R158, R159). -/
def resetApplied (s : State) (h : Header) : State := ((answered s h 32 [17]).refuseAborted (resetOrder s)).resetTables

theorem exec_resetBridge {s : State} {h : Header} (hu : UnderE s h []) :
    exec (.resetBridge h []) s = .next ((resetApplied s h).makeFault (resetFault s.park)) := by
  refine (exec_command_run (run := runResetBridge (commandFrame .resetBridge h [])) hu .resetBridge (a := ())
    (args := noArgs []) rfl rfl).trans ?_
  exact congrArg (fun t : State => Host.Outcome.next (((t.refuseAborted (resetOrder s)).resetTables).makeFault
    (resetFault s.park))) (State.ack_answered hu.1.1 .resetBridge h [] [])

theorem resetApplied_near (s : State) (h : Header) : NearSends s (resetApplied s h)
    ((resetOrder s).map fun x => nearResponse s.node x.1 x.2 3 [9, 0]) :=
  State.refuseAborted_nearSends (answered s h 32 [17]) (resetOrder s)

theorem resetApplied_far (s : State) (h : Header) :
    (resetApplied s h).far = { s.far with queue := s.far.queue ++ [replyTo s h 32 [17]] } :=
  State.refuseAborted_far (answered s h 32 [17]) (resetOrder s)

theorem resetApplied_chan (s : State) (h : Header) : (resetApplied s h).chan =
    { s.chan with stored := some (replyTo s h 32 [17]), expected := s.chan.expected + 1 } :=
  State.refuseAborted_chan (answered s h 32 [17]) (resetOrder s)

/-- The RESET record's FAULT-NOTICE, where one is sent (R165). -/
theorem State.makeFault_far {s : State} {m : NodeId} (up : s.far.up = true) (manager : s.chan.manager = some m)
    (w : FaultBody) :
    (s.chan.params.faultNotices = false → (s.makeFault w).far = s.far ∧ (s.makeFault w).chan = s.chan) ∧
    (s.chan.params.faultNotices = true → (s.makeFault w).chan.noticeSeq = s.chan.noticeSeq + 1 ∧
      ∃ f : Frame, (s.makeFault w).far.queue = s.far.queue ++ [f] ∧ f.kind = 49) := by
  refine ⟨fun off => ?_, fun on => ?_⟩
  · rw [State.makeFault_quiet (.inl off)]
    exact ⟨rfl, rfl⟩
  · have hmake : s.makeFault w = { s with log := s.log.append s.time w }.notice faultNoticeCode
        (faultBytes { number := s.log.nextNumber, time := s.time, what := w }) := if_pos on
    rw [hmake, State.notice_sent (s := { s with log := s.log.append s.time w }) up manager]
    exact ⟨rfl, _, rfl, rfl⟩

/-- Every counter but that of the notices sent. -/
def Counters.butNotices (c : Counters) : Counters := { c with notices := 0 }

theorem State.notice_butNotices (s : State) (k : BitVec 6) (b : List Byte) :
    (s.notice k b).ctr.butNotices = s.ctr.butNotices := by
  unfold State.notice
  split <;> rfl

theorem State.makeFault_butNotices (s : State) (w : FaultBody) :
    (s.makeFault w).ctr.butNotices = s.ctr.butNotices := by
  unfold State.makeFault
  dsimp only
  split
  · exact State.notice_butNotices ..
  · rfl

theorem State.makeFault_refusals (s : State) (w : FaultBody) : (s.makeFault w).ctr.refusals = s.ctr.refusals :=
  (congrArg Counters.refusals (State.makeFault_butNotices s w) :)

/-- What RESET-BRIDGE counts: one refusal for each of its REFUSEs. -/
theorem resetApplied_refusals (s : State) (h : Header) :
    (resetApplied s h).ctr.refusals = s.ctr.refusals + BitVec.ofNat 32 (resetOrder s).length := by
  rw [resetApplied, State.resetTables_ctr, State.refuseAborted_refusals]
  rfl

/-- Settles O47. -/
theorem resetBridge : Obligations.ResetBridge := by
  unfold Obligations.ResetBridge
  intro s h hu
  have hnear := resetApplied_near s h
  have hfar := resetApplied_far s h
  have hchan := resetApplied_chan s h
  obtain ⟨quiet, loud⟩ := State.makeFault_far (s := resetApplied s h) (m := nodeField h.src) (by rw [hfar]; exact hu.1.1)
    (by rw [hchan]; exact hu.2.2.1) (resetFault s.park)
  rw [hchan] at quiet loud
  rw [hfar] at quiet loud
  refine ⟨_, resetOrder s, exec_resetBridge hu, resetOrder_perm s, parkRefusals_sublist_resetOrder s, ?_, fun up => ?_,
    fun down => ?_, fun a g pending => fence_last_of_agent pending, ?_, ?_, ?_, fun id => ?_, fun a => ?_, fun k => ?_,
    fun g => ?_, fun c => ?_, ?_, ?_, ?_, ?_, ?_, ?_, ?_, fun off => ?_, fun on => ?_⟩
  · have := entryRefusals_sublist_resetOrder s
    rw [entryRefusals, entries_filter] at this
    exact this
  · rw [State.makeFault_near]
    exact hnear.trans (if_pos up)
  · rw [State.makeFault_near]
    exact hnear.trans (if_neg (by rw [down]; decide))
  · exact (State.makeFault_refusals ..).trans (resetApplied_refusals s h)
  · rw [State.makeFault_cache]
    rw [resetApplied, State.resetTables_cache, State.refuseAborted_cache]
    rfl
  · rw [State.makeFault_park]
    rfl
  · rw [State.makeFault_misses, resetApplied, State.resetTables_misses, getElem_map_fin, State.refuseAborted_misses]
    exact ⟨rfl, rfl⟩
  · rw [State.makeFault_fences, resetApplied, State.resetTables_fences]
    simp
  · rw [State.makeFault_slots, resetApplied, State.resetTables_slots]
    simp
  · rw [State.makeFault_outs, resetApplied, State.resetTables_outs, getElem_map_fin, State.refuseAborted_outs,
      State.refuseAborted_time, State.refuseAborted_chan]
    exact congrArg (fun f => Option.map f s.outs[g]) (funext (OutEntry.afterReset_eq _ _))
  · rw [State.makeFault_ctxs, resetApplied, State.resetTables_ctxs, getElem_map_fin, State.refuseAborted_ctxs]
    exact CtxRecord.closedIfClosing_eq _
  · rw [State.makeFault_bridge]
    rfl
  · rw [State.makeFault_cause]
    rfl
  · rw [State.makeFault_chan_manager, hchan]
  · rw [State.makeFault_chan_params, hchan]
  · rw [State.makeFault_chan_expected, hchan]
  · rw [State.makeFault_chan_stored, hchan]
  · rw [State.makeFault_log, resetApplied, State.resetTables_log, State.resetTables_time, State.refuseAborted_log,
      State.refuseAborted_time]
    rfl
  · obtain ⟨hf, hc⟩ := quiet off
    rw [hf, hc]
    exact ⟨rfl, rfl⟩
  · obtain ⟨hseq, f, hf, hkind⟩ := loud on
    refine ⟨hseq, f, ?_, hkind⟩
    rw [hf, List.append_assoc]
    rfl

end Sys2Proof.Machine
end

section
/-! PROOF. What the operations send on the far port: the notices of each, in the order they are handed over. -/

namespace Sys2Proof.Machine

open Sys2Proof.Safety

/-! ## Far outputs and notices -/

/-- These frames are queued on the far port, which is UP as before, under the same manager. -/
def FarSends (s t : State) (fs : List Frame) : Prop :=
  t.far = { s.far with queue := s.far.queue ++ fs } ∧ t.chan.manager = s.chan.manager

theorem farSends_nil {s t : State} (hf : t.far = s.far) (hm : t.chan.manager = s.chan.manager) : FarSends s t [] :=
  ⟨by rw [hf, List.append_nil], hm⟩

theorem farSends_trans {s t u : State} {l k : List Frame} (h : FarSends s t l) (hk : FarSends t u k) :
    FarSends s u (l ++ k) := by
  refine ⟨?_, hk.2.trans h.2⟩
  rw [hk.1, h.1, List.append_assoc]

theorem farSends_up {s t : State} {l : List Frame} (h : FarSends s t l) : t.far.up = s.far.up := by
  rw [h.1]

theorem areNotices_nil (s : State) : AreNotices s [] [] := by
  unfold AreNotices
  split <;> rfl

theorem areNotices_append {s : State} {fs gs : List Frame} {xs ys : List (BitVec 6 × List Byte)} (h : AreNotices s fs xs)
    (hg : AreNotices s gs ys) : AreNotices s (fs ++ gs) (xs ++ ys) := by
  unfold AreNotices at *
  rw [List.map_append, h, hg]
  split
  · rw [List.map_append]
  · rfl

theorem areNotices_at {s t : State} (hu : t.far.up = s.far.up) (hm : t.chan.manager = s.chan.manager) {fs : List Frame}
    {said : List (BitVec 6 × List Byte)} (h : AreNotices t fs said) : AreNotices s fs said := by
  unfold AreNotices at *
  rwa [hu, hm] at h

/-- An operation that hands over these notices and nothing else on the far port. -/
def Notifies (s t : State) (said : List (BitVec 6 × List Byte)) : Prop := ∃ fs, FarSends s t fs ∧ AreNotices s fs said

theorem notifies_nil {s t : State} (hf : t.far = s.far) (hm : t.chan.manager = s.chan.manager) : Notifies s t [] :=
  ⟨[], farSends_nil hf hm, areNotices_nil s⟩

theorem notifies_trans {s t u : State} {xs ys : List (BitVec 6 × List Byte)} (h : Notifies s t xs) (hu : Notifies t u ys) :
    Notifies s u (xs ++ ys) := by
  obtain ⟨fs, hfs, hxs⟩ := h
  obtain ⟨gs, hgs, hys⟩ := hu
  exact ⟨fs ++ gs, farSends_trans hfs hgs, areNotices_append hxs (areNotices_at (farSends_up hfs) hfs.2 hys)⟩

/-- The notices of a later operation, judged by the far port and manager of the first state. -/
theorem notifies_after {s t u : State} {l : List Frame} {said : List (BitVec 6 × List Byte)} (h : FarSends s t l)
    (hu : Notifies t u said) : ∃ fs, FarSends s u (l ++ fs) ∧ AreNotices s fs said := by
  obtain ⟨fs, hfs, hsaid⟩ := hu
  exact ⟨fs, farSends_trans h hfs, areNotices_at (farSends_up h) h.2 hsaid⟩

theorem State.notice_notifies (s : State) (k : BitVec 6) (b : List Byte) : Notifies s (s.notice k b) [(k, b)] := by
  by_cases h : s.far.up = true ∧ ∃ m, s.chan.manager = some m
  · obtain ⟨up, m, manager⟩ := h
    refine ⟨[noticeFrame s.node m s.chan.noticeSeq k b], ?_, ?_⟩
    · rw [State.notice_sent up manager]
      exact ⟨rfl, rfl⟩
    · unfold AreNotices
      rw [up, manager]
      rfl
  · have hun : s.far.up = false ∨ s.chan.manager = none := by
      cases hup : s.far.up with
      | false => exact .inl rfl
      | true =>
        cases hm : s.chan.manager with
        | none => exact .inr rfl
        | some m => exact absurd ⟨hup, m, hm⟩ h
    rw [State.notice_unsent hun]
    refine ⟨[], farSends_nil rfl rfl, ?_⟩
    unfold AreNotices
    rcases hun with hu | hm
    · rw [hu]
      rfl
    · rw [hm]
      cases s.far.up <;> rfl

/-! ## Fault records -/

/-- The FAULT-NOTICE of one record, while FAULT-NOTICES is ON (R165). -/
def faultSaid (s : State) (w : FaultBody) : List (BitVec 6 × List Byte) :=
  if s.chan.params.faultNotices then
    [(49, faultBytes { number := s.log.nextNumber, time := s.time, what := w })]
  else []

theorem State.makeFault_notifies (s : State) (w : FaultBody) : Notifies s (s.makeFault w) (faultSaid s w) := by
  unfold State.makeFault faultSaid
  dsimp only
  split
  · exact State.notice_notifies { s with log := s.log.append s.time w } _ _
  · exact notifies_nil rfl rfl

theorem FaultLog.append_nextNumber (l : FaultLog) (now : Time) (w : FaultBody) :
    (l.append now w).nextNumber = l.nextNumber + 1 := by
  rw [FaultLog.append_eq]

theorem faultsSaid_cons (s : State) (w : FaultBody) (ws : List FaultBody) :
    faultsSaid s (w :: ws) = faultSaid s w ++ faultsSaid (s.makeFault w) ws := by
  unfold faultsSaid faultSaid
  rw [State.makeFault_chan_params, State.makeFault_log, State.makeFault_time, FaultLog.append_nextNumber]
  split
  · rw [List.zipIdx_cons, List.map_cons, List.singleton_append, List.zipIdx_succ, List.map_map]
    congr 1
    · simp
    · refine List.map_congr_left fun x _ => ?_
      simp only [Function.comp_apply, BitVec.ofNat_add]
      rw [BitVec.add_assoc, BitVec.add_comm 1]
      rfl
  · rfl

theorem faultsSaid_singleton (s : State) (w : FaultBody) : faultsSaid s [w] = faultSaid s w := by
  rw [faultsSaid_cons]
  unfold faultsSaid
  split <;> simp

theorem State.makeFaults_notifies (s : State) (ws : List FaultBody) : Notifies s (s.makeFaults ws) (faultsSaid s ws) := by
  unfold State.makeFaults
  induction ws generalizing s with
  | nil =>
    have : faultsSaid s [] = [] := by
      unfold faultsSaid
      split <;> rfl
    rw [this]
    exact notifies_nil rfl rfl
  | cons w ws ih =>
    rw [faultsSaid_cons]
    exact notifies_trans (s.makeFault_notifies w) (ih _)

theorem State.makeFaults_log_eq (s : State) (ws : List FaultBody) :
    (s.makeFaults ws).log = ws.foldl (fun l w => l.append s.time w) s.log := by
  unfold State.makeFaults
  induction ws generalizing s with
  | nil => rfl
  | cons w ws ih =>
    rw [List.foldl_cons, List.foldl_cons, ih, State.makeFault_log, State.makeFault_time]

/-! ## PURGE-DONE -/

theorem carriers_same {s t : State} (hp : t.park = s.park) (ho : t.outs = s.outs) (k : SlotId) :
    t.carriers k = s.carriers k := by
  unfold State.carriers
  rw [hp, ho]

/-- The PURGE-DONE of one slot, where its last carrier is gone in `u`. -/
def purgeSaid (s u : State) (k : SlotId) : Option (BitVec 6 × List Byte) :=
  if u.carriers k = 0 then s.slots[k].map fun p => (50, [byteOf k.val, p.seq]) else none

theorem purgesDone_eq (s u : State) : purgesDone s u = (List.finRange 4).filterMap (purgeSaid s u) := rfl

theorem State.completeSlot_notifies (s : State) (k : SlotId) :
    Notifies s (s.completeSlot k) (purgeSaid s s k).toList := by
  unfold purgeSaid
  cases hk : s.slots[k] with
  | none =>
    rw [State.completeSlot_free hk, Option.map_none, ite_self]
    exact notifies_nil rfl rfl
  | some p =>
    by_cases hc : s.carriers k = 0
    · rw [State.completeSlot_done hk hc, if_pos hc]
      exact State.notice_notifies { s with slots := s.slots.set k none } 50 [byteOf k.val, p.seq]
    · rw [State.completeSlot_waits (.inr hc), if_neg hc]
      exact notifies_nil rfl rfl

theorem completeSlot_carriers (s : State) (k j : SlotId) : (s.completeSlot k).carriers j = s.carriers j :=
  carriers_same (State.completeSlot_park ..) (State.completeSlot_outs ..) j

theorem State.completeSlots_notifies (s : State) : Notifies s s.completeSlots (purgesDone s s) := by
  have main (l : List SlotId) (nodup : l.Nodup) (s : State) :
      Notifies s (l.foldl State.completeSlot s) (l.filterMap (purgeSaid s s)) := by
    induction l generalizing s with
    | nil => exact notifies_nil rfl rfl
    | cons k l ih =>
      obtain ⟨fresh, nodup⟩ := List.nodup_cons.mp nodup
      have hrest : l.filterMap (purgeSaid (s.completeSlot k) (s.completeSlot k)) = l.filterMap (purgeSaid s s) := by
        refine List.filterMap_congr fun j hj => ?_
        have hne : ¬(k = j ∧ s.marked k = false) := fun h => fresh (h.1 ▸ hj)
        unfold purgeSaid
        rw [completeSlot_carriers, State.completeSlot_slots_get, if_neg hne]
      have hcons : (k :: l).filterMap (purgeSaid s s) = (purgeSaid s s k).toList ++ l.filterMap (purgeSaid s s) := by
        rw [List.filterMap_cons]
        cases purgeSaid s s k <;> rfl
      rw [hcons, ← hrest]
      exact notifies_trans (s.completeSlot_notifies k) (ih nodup _)
  rw [purgesDone_eq]
  exact main _ (List.nodup_finRange 4) s

/-- Where the slots are as in the first state, the PURGE-DONEs are said of it. -/
theorem purgesDone_same {s t u v : State} (hs : t.slots = s.slots) (hc : ∀ k, v.carriers k = u.carriers k) :
    purgesDone t v = purgesDone s u := by
  unfold purgesDone
  simp only [hs, hc]

theorem State.completeSlots_slots_exact (s : State) (k : SlotId) :
    s.completeSlots.slots[k] = if s.carriers k = 0 then none else s.slots[k] := by
  have main (l : List SlotId) (s : State) : (l.foldl State.completeSlot s).slots[k] =
      if k ∈ l ∧ s.carriers k = 0 then none else s.slots[k] := by
    induction l generalizing s with
    | nil => simp
    | cons j l ih =>
      have hslot : (s.completeSlot j).slots[k] = if j = k ∧ s.carriers j = 0 then none else s.slots[k] :=
        (State.completeSlot_slots_get s j k).trans (if_congr (and_congr_right fun _ => (carriers_zero_iff s j).symm) rfl rfl)
      rw [List.foldl_cons, ih, completeSlot_carriers, hslot]
      by_cases hc : s.carriers k = 0
      · by_cases hjk : j = k
        · subst hjk
          simp [hc]
        · have hkj : k ≠ j := Ne.symm hjk
          simp [hjk, hkj, hc]
      · have hnot : ¬(j = k ∧ s.carriers j = 0) := fun h => hc (h.1 ▸ h.2)
        rw [if_neg hnot, if_neg fun h => hc h.2, if_neg fun h => hc h.2]
  refine (main _ s).trans (if_congr ?_ rfl rfl)
  simp only [List.mem_finRange, true_and]

/-! ## CLOSE-DONE -/

/-- The CLOSE-DONE of one context, where nothing of it is WAITING in `u`. -/
def closeSaid (s u : State) (c : Ctx) : Option (BitVec 6 × List Byte) :=
  match s.ctxs[c].state with
  | .closing q => if u.ctxWaits c then none else some (51, [byteOf c.val, q])
  | _ => none

theorem closesDone_eq (s u : State) : closesDone s u = (List.finRange 16).filterMap (closeSaid s u) := rfl

theorem State.completeClose_notifies (s : State) (c : Ctx) :
    Notifies s (s.completeClose c) (closeSaid s s c).toList := by
  unfold closeSaid
  cases hc : s.ctxs[c].state with
  | closed =>
    rw [State.completeClose_open (.inl hc)]
    exact notifies_nil rfl rfl
  | opened =>
    rw [State.completeClose_open (.inr hc)]
    exact notifies_nil rfl rfl
  | closing q =>
    dsimp only
    cases hw : s.ctxWaits c with
    | true =>
      rw [State.completeClose_busy hc hw]
      exact notifies_nil rfl rfl
    | false =>
      rw [State.completeClose_done hc hw]
      exact State.notice_notifies { s with ctxs := s.ctxs.set c { s.ctxs[c] with state := .closed } } 51 [byteOf c.val, q]

theorem State.completeClose_ctxs_other (s : State) {c d : Ctx} (h : c ≠ d) : (s.completeClose c).ctxs[d] = s.ctxs[d] := by
  rw [State.completeClose_ctxs_get]
  split
  · rw [if_neg fun hc => h hc.1]
  · rfl

theorem State.completeCloses_notifies (s : State) : Notifies s s.completeCloses (closesDone s s) := by
  have main (l : List Ctx) (nodup : l.Nodup) (s : State) :
      Notifies s (l.foldl State.completeClose s) (l.filterMap (closeSaid s s)) := by
    induction l generalizing s with
    | nil => exact notifies_nil rfl rfl
    | cons c l ih =>
      obtain ⟨fresh, nodup⟩ := List.nodup_cons.mp nodup
      have hrest : l.filterMap (closeSaid (s.completeClose c) (s.completeClose c)) = l.filterMap (closeSaid s s) := by
        refine List.filterMap_congr fun d hd => ?_
        have hne : c ≠ d := fun h => fresh (h ▸ hd)
        unfold closeSaid
        rw [State.completeClose_waits, State.completeClose_ctxs_other s hne]
      have hcons : (c :: l).filterMap (closeSaid s s) = (closeSaid s s c).toList ++ l.filterMap (closeSaid s s) := by
        rw [List.filterMap_cons]
        cases closeSaid s s c <;> rfl
      rw [hcons, ← hrest]
      exact notifies_trans (s.completeClose_notifies c) (ih nodup _)
  rw [closesDone_eq]
  exact main _ (List.nodup_finRange 16) s

theorem closesDone_same {s t u v : State} (hs : t.ctxs = s.ctxs) (hc : ∀ c, v.ctxWaits c = u.ctxWaits c) :
    closesDone t v = closesDone s u := by
  unfold closesDone
  simp only [hs, hc]

/-! ## QUIESCED -/

theorem drained_eq_of {s t : State} (hp : t.park = s.park) (hm : t.misses = s.misses) (ho : t.outs = s.outs)
    (hf : t.fences = s.fences) : t.drained = s.drained := by
  unfold State.drained State.countPhase
  rw [hp, hm, ho, hf]

theorem judgeDrain_drained_same (s : State) : s.judgeDrain.drained = s.drained :=
  drained_eq_of (State.judgeDrain_park s) (State.judgeDrain_misses s) (State.judgeDrain_outs s) (State.judgeDrain_fences s)

theorem State.judgeDrain_notifies (s : State) : Notifies s s.judgeDrain (quiescedSaid s s.judgeDrain) := by
  unfold quiescedSaid
  rw [judgeDrain_drained_same]
  cases hb : s.bridge with
  | running =>
    rw [State.judgeDrain_idle (by rw [hb]; exact nofun)]
    exact notifies_nil rfl rfl
  | quiesced q =>
    rw [State.judgeDrain_idle (by rw [hb]; exact nofun)]
    exact notifies_nil rfl rfl
  | quiescing q =>
    dsimp only
    cases hd : s.drained with
    | false =>
      rw [State.judgeDrain_undrained hd]
      exact notifies_nil rfl rfl
    | true =>
      rw [State.judgeDrain_drained hb hd]
      exact State.notice_notifies { s with bridge := .quiesced q } 52 [q]

theorem State.judgeDrain_judged (s : State) : BridgeJudged s s.judgeDrain := by
  unfold BridgeJudged
  rw [judgeDrain_drained_same]
  cases hb : s.bridge with
  | running => rw [State.judgeDrain_idle (by rw [hb]; exact nofun), hb]
  | quiesced q => rw [State.judgeDrain_idle (by rw [hb]; exact nofun), hb]
  | quiescing q =>
    dsimp only
    cases hd : s.drained with
    | false =>
      rw [State.judgeDrain_undrained hd, hb]
      rfl
    | true =>
      rw [State.judgeDrain_drained hb hd, State.notice_bridge]
      rfl

theorem bridgeJudged_at {s t u : State} (hb : t.bridge = s.bridge) (h : BridgeJudged t u) : BridgeJudged s u := by
  unfold BridgeJudged at *
  rwa [hb] at h

theorem quiescedSaid_at {s t : State} (hb : t.bridge = s.bridge) (u : State) : quiescedSaid t u = quiescedSaid s u := by
  unfold quiescedSaid
  rw [hb]

/-- The judgment of the drain at the end of an event that has sent `l` so far. -/
theorem judgeDrain_after {s t : State} {l : List Frame} (h : FarSends s t l) (hb : t.bridge = s.bridge) :
    (∃ fs, FarSends s t.judgeDrain (l ++ fs) ∧ AreNotices s fs (quiescedSaid s t.judgeDrain)) ∧
      BridgeJudged s t.judgeDrain :=
  ⟨quiescedSaid_at hb t.judgeDrain ▸ notifies_after h t.judgeDrain_notifies, bridgeJudged_at hb t.judgeDrain_judged⟩

/-! ## Counters -/

theorem State.completeSlot_butNotices (s : State) (k : SlotId) :
    (s.completeSlot k).ctr.butNotices = s.ctr.butNotices := by
  unfold State.completeSlot
  split
  · split
    · exact State.notice_butNotices { s with slots := s.slots.set k none } _ _
    · rfl
  · rfl

theorem State.completeSlots_butNotices (s : State) : s.completeSlots.ctr.butNotices = s.ctr.butNotices :=
  foldl_keeps (fun s : State => s.ctr.butNotices) _ State.completeSlot_butNotices _ s

theorem State.completeClose_butNotices (s : State) (c : Ctx) :
    (s.completeClose c).ctr.butNotices = s.ctr.butNotices := by
  unfold State.completeClose
  split
  · split
    · rfl
    · exact State.notice_butNotices { s with ctxs := s.ctxs.set c { s.ctxs[c] with state := .closed } } _ _
  · rfl

theorem State.completeCloses_butNotices (s : State) : s.completeCloses.ctr.butNotices = s.ctr.butNotices :=
  foldl_keeps (fun s : State => s.ctr.butNotices) _ State.completeClose_butNotices _ s

theorem State.makeFaults_butNotices (s : State) (ws : List FaultBody) :
    (s.makeFaults ws).ctr.butNotices = s.ctr.butNotices :=
  foldl_keeps (fun s : State => s.ctr.butNotices) _ State.makeFault_butNotices _ s

theorem State.judgeDrain_butNotices (s : State) : s.judgeDrain.ctr.butNotices = s.ctr.butNotices := by
  unfold State.judgeDrain
  split
  · next q _ =>
    split
    · exact State.notice_butNotices { s with bridge := .quiesced q } _ _
    · rfl
  · rfl

theorem State.forwardHead_butNotices {s u : State} (h : s.forwardHead = some u) : u.ctr.butNotices = s.ctr.butNotices := by
  refine State.forwardHead_keeps (fun s => s.ctr.butNotices) (fun _ _ _ => rfl) (fun s f => ?_)
    State.completeSlots_butNotices (fun s b a => ?_) h
  · exact congrArg Counters.butNotices (State.sendFar_ctr s f)
  · exact congrArg Counters.butNotices (State.endHold_ctr s b a)

theorem State.runArbiter_butNotices (s : State) : s.runArbiter.ctr.butNotices = s.ctr.butNotices :=
  forwardUpTo_keeps (fun s => s.ctr.butNotices) State.forwardHead_butNotices _ s

end Sys2Proof.Machine
end

section
/-! PROOF. What a sweep of the park buffer sends on the near port: each leaving record's answer, and behind the answer that
ends an agent's last hold the DONE of its fence (R80). -/

namespace Sys2Proof.Machine

open Sys2Proof.Safety

/-! ## The DONE behind a last hold -/

/-- The part of `x` ends the last hold of its agent, where the part of the others is still to end. -/
abbrev LastHold (stays : Agent → Bool) (x : Leaving) (rest : List Leaving) : Prop :=
  x.held = true ∧ stays x.agent = false ∧ ∀ y ∈ rest, y.agent = x.agent → y.held = false

/-- The DONE behind the answer of `x`, if its agent's fence then holds nothing (R80). -/
def doneOf (s : State) (stays : Agent → Bool) (x : Leaving) (rest : List Leaving) : List Frame :=
  match s.fences[x.agent] with
  | some q => if LastHold stays x rest then [nearResponse s.node x.agent q 2 []] else []
  | none => []

theorem nearOutputs_cons (s : State) (stays : Agent → Bool) (x : Leaving) (rest : List Leaving) :
    nearOutputs s stays (x :: rest) = x.frames ++ doneOf s stays x rest ++ nearOutputs s stays rest :=
  rfl

theorem doneOf_none {s : State} {stays : Agent → Bool} {x : Leaving} {rest : List Leaving}
    (h : ¬LastHold stays x rest) : doneOf s stays x rest = [] := by
  unfold doneOf
  split
  · exact if_neg h
  · rfl

theorem doneOf_eq {s t : State} {x : Leaving} (hn : t.node = s.node)
    (hf : x.held = true → t.fences[x.agent] = s.fences[x.agent]) (stays : Agent → Bool) (rest : List Leaving) :
    doneOf t stays x rest = doneOf s stays x rest := by
  by_cases hh : x.held = true
  · rw [doneOf, doneOf, hn, hf hh]
  · have hno : ¬LastHold stays x rest := fun h => hh h.1
    rw [doneOf_none hno, doneOf_none hno]

theorem nearOutputs_eq {s t : State} (hn : t.node = s.node) (stays : Agent → Bool) {l : List Leaving}
    (hf : ∀ y ∈ l, y.held = true → t.fences[y.agent] = s.fences[y.agent]) :
    nearOutputs t stays l = nearOutputs s stays l := by
  induction l with
  | nil => rfl
  | cons x l ih =>
    rw [nearOutputs_cons, nearOutputs_cons, doneOf_eq hn (hf x List.mem_cons_self),
      ih fun y hy => hf y (List.mem_cons_of_mem _ hy)]

/-- The refusals among the outputs are those of the answers: DONEs are none. -/
theorem nearOutputs_refusals (s : State) (stays : Agent → Bool) (l : List Leaving) :
    (nearOutputs s stays l).filter (fun f => f.kind == 3) = (l.flatMap Leaving.frames).filter fun f => f.kind == 3 := by
  have hdone (x : Leaving) (rest : List Leaving) : (doneOf s stays x rest).filter (fun f => f.kind == 3) = [] := by
    unfold doneOf
    split
    · split <;> rfl
    · rfl
  induction l with
  | nil => rfl
  | cons x l ih =>
    rw [nearOutputs_cons, List.flatMap_cons, List.filter_append, List.filter_append, List.filter_append, hdone, ih,
      List.append_nil]

theorem nearOutputs_kind {s : State} {stays : Agent → Bool} {l : List Leaving} {f : Frame}
    (h : f ∈ nearOutputs s stays l) : f.kind = 2 ∨ ∃ x ∈ l, f ∈ x.frames := by
  induction l with
  | nil => cases h
  | cons x l ih =>
    rw [nearOutputs_cons, List.mem_append, List.mem_append] at h
    rcases h with (h | h) | h
    · exact .inr ⟨x, List.mem_cons_self, h⟩
    · left
      unfold doneOf at h
      split at h
      · split at h
        · rw [List.mem_singleton.mp h]
          rfl
        · cases h
      · cases h
    · exact (ih h).imp_right fun ⟨y, hy, hf⟩ => ⟨y, List.mem_cons_of_mem _ hy, hf⟩

/-! ## Parts that end -/

/-- From `s` to `t` the parts `l` end one after another, each with its answer and the fence that it alone still held, where
`stays` tells of whom something stays held. -/
def Leaves (s t : State) (stays : Agent → Bool) (l : List Leaving) : Prop :=
  NearSends s t (nearOutputs s stays l) ∧
    ∀ a : Agent, t.fences[a] = if stays a = false ∧ ∃ y ∈ l, y.agent = a ∧ y.held = true then none else s.fences[a]

theorem leaves_nil {s t : State} (hn : t.near = s.near) (hf : t.fences = s.fences) (stays : Agent → Bool) :
    Leaves s t stays [] :=
  ⟨nearSends_nil hn, fun a => by rw [hf, if_neg (by rintro ⟨-, y, hy, -⟩; cases hy)]⟩

/-- The agents of whom something stays held behind the first parts, where the others are still to end. -/
def alsoHeld (stays : Agent → Bool) (l : List Leaving) (a : Agent) : Bool := stays a || l.any fun y => y.held && y.agent == a

theorem alsoHeld_false {stays : Agent → Bool} {l : List Leaving} {a : Agent} :
    alsoHeld stays l a = false ↔ stays a = false ∧ ∀ y ∈ l, y.agent = a → y.held = false := by
  simp only [alsoHeld, Bool.or_eq_false_iff, List.any_eq_false, Bool.and_eq_true, beq_iff_eq, not_and', Bool.not_eq_true]

theorem lastHold_append (stays : Agent → Bool) (x : Leaving) (l k : List Leaving) :
    LastHold stays x (l ++ k) ↔ LastHold (alsoHeld stays k) x l := by
  unfold LastHold
  rw [alsoHeld_false]
  simp only [List.mem_append]
  exact ⟨fun ⟨held, idle, all⟩ => ⟨held, ⟨idle, fun y hy => all y (.inr hy)⟩, fun y hy => all y (.inl hy)⟩,
    fun ⟨held, ⟨idle, behind⟩, before⟩ => ⟨held, idle, fun y hy => hy.elim (before y) (behind y)⟩⟩

theorem nearOutputs_append (s : State) (stays : Agent → Bool) (l k : List Leaving) :
    nearOutputs s stays (l ++ k) = nearOutputs s (alsoHeld stays k) l ++ nearOutputs s stays k := by
  induction l with
  | nil => rfl
  | cons x l ih =>
    have hdone : doneOf s stays x (l ++ k) = doneOf s (alsoHeld stays k) x l := by
      unfold doneOf
      simp only [lastHold_append]
    rw [List.cons_append, nearOutputs_cons, nearOutputs_cons, hdone, ih, ← List.append_assoc]

/-- Parts that end behind others. -/
theorem leaves_append {s t u : State} {stays : Agent → Bool} {l k : List Leaving} (node : t.node = s.node)
    (h : Leaves s t (alsoHeld stays k) l) (hk : Leaves t u stays k) : Leaves s u stays (l ++ k) := by
  obtain ⟨hnear, hfences⟩ := h
  obtain ⟨hnear', hfences'⟩ := hk
  have hsame : nearOutputs t stays k = nearOutputs s stays k := by
    refine nearOutputs_eq node stays fun y hy held => (hfences _).trans (if_neg ?_)
    rintro ⟨none, -⟩
    rw [(alsoHeld_false.mp none).2 y hy rfl] at held
    cases held
  rw [hsame] at hnear'
  refine ⟨nearOutputs_append s stays l k ▸ nearSends_trans hnear hnear', fun a => ?_⟩
  rw [hfences', hfences]
  by_cases hs : stays a = false
  · by_cases hl : ∃ y ∈ k, y.agent = a ∧ y.held = true
    · obtain ⟨y, hy, hya⟩ := hl
      rw [if_pos ⟨hs, y, hy, hya⟩, if_pos ⟨hs, y, List.mem_append_right _ hy, hya⟩]
    · have hnone : alsoHeld stays k a = false :=
        alsoHeld_false.mpr ⟨hs, fun y hy hya => Bool.eq_false_iff.mpr fun held => hl ⟨y, hy, hya, held⟩⟩
      rw [if_neg fun h => hl h.2]
      refine if_congr ⟨fun ⟨_, y, hy, hya⟩ => ⟨hs, y, List.mem_append_left _ hy, hya⟩, ?_⟩ rfl rfl
      rintro ⟨-, y, hy, hya⟩
      rcases List.mem_append.mp hy with hy | hy
      · exact ⟨hnone, y, hy, hya⟩
      · exact absurd ⟨y, hy, hya⟩ hl
  · have hnot : ¬alsoHeld stays k a = false := fun h => hs (alsoHeld_false.mp h).1
    rw [if_neg fun h => hs h.1, if_neg fun h => hnot h.1, if_neg fun h => hs h.1]

/-- One part ends: its answer, and the judgment of its agent's fence. -/
theorem leaves_one {s u : State} {x : Leaving} {stays : Agent → Bool} (answer : NearSends s u x.frames)
    (fences : u.fences = s.fences) (node : u.node = s.node) (held : u.heldBy x.agent = stays x.agent) :
    Leaves s (u.endHold x.held x.agent) stays [x] := by
  have houtputs : nearOutputs s stays [x] = x.frames ++ doneOf s stays x [] := by
    rw [nearOutputs_cons, nearOutputs, List.append_nil]
  have hmem (a : Agent) : (∃ y ∈ [x], y.agent = a ∧ y.held = true) ↔ x.agent = a ∧ x.held = true := by
    simp only [List.mem_singleton, exists_eq_left]
  unfold Leaves
  rw [houtputs]
  simp only [hmem, ← fences]
  by_cases last : ∃ q, x.held = true ∧ stays x.agent = false ∧ u.fences[x.agent] = some q
  · obtain ⟨q, hh, hs, pending⟩ := last
    have hdone : doneOf s stays x [] = [nearResponse s.node x.agent q 2 []] := by
      unfold doneOf
      rw [← fences, pending]
      exact if_pos ⟨hh, hs, nofun⟩
    have hjudge : u.endHold x.held x.agent = u.judgeFence x.agent := by
      rw [hh]
      rfl
    rw [hdone, hjudge, State.judgeFence_done pending (held.trans hs)]
    refine ⟨nearSends_trans answer ?_, fun a => ?_⟩
    · rw [← node]
      unfold NearSends
      cases u.near.up <;> rfl
    · refine (getElem_set_fin ..).trans ?_
      by_cases ha : x.agent = a
      · rw [if_pos ha, if_pos ⟨ha ▸ hs, ha, hh⟩]
      · rw [if_neg ha, if_neg fun h => ha h.2.1]
  · have hdone : doneOf s stays x [] = [] := by
      unfold doneOf
      split
      · next q pending => exact if_neg fun h => last ⟨q, h.1, h.2.1, by rw [fences]; exact pending⟩
      · rfl
    have hidle : u.endHold x.held x.agent = u := by
      by_cases hh : x.held = true
      · by_cases pending : u.fences[x.agent] = none
        · exact State.endHold_idle pending _
        · obtain ⟨q, hq⟩ := Option.ne_none_iff_exists'.mp pending
          rw [hh]
          refine State.judgeFence_waits (.inr (held.trans ?_))
          rw [← Bool.not_eq_false]
          exact fun hs => last ⟨q, hh, hs, hq⟩
      · rw [Bool.eq_false_iff.mpr hh]
        rfl
    rw [hdone, hidle, List.append_nil]
    refine ⟨answer, fun a => ?_⟩
    split
    · next h =>
      obtain ⟨hs, rfl, hh⟩ := h
      cases hq : u.fences[x.agent] with
      | none => rfl
      | some q => exact absurd ⟨q, hh, hs, hq⟩ last
    · rfl

/-! ## The sweep -/

/-- A record's part in a sweep that it leaves by. -/
def leavingOf (node : NodeId) (fate : ParkRecord → Fate) (r : ParkRecord) : Option Leaving :=
  match fate r with
  | .keep _ => none
  | .leave y => some { agent := r.agent, held := r.held, frames := (y.map (answerFrame node r.agent r.tag)).toList }

theorem State.answerIf_nearSends (s : State) (a : Agent) (g : NearTag) (y : Option Answer) :
    NearSends s (s.answerIf a g y) (y.map (answerFrame s.node a g)).toList := by
  cases y with
  | none => exact nearSends_nil rfl
  | some y => exact s.answer_nearSends a g y

/-- What a list of records holds: what stays after the sweep, and what leaves by it. -/
theorem parkHolds_sweep {fate : ParkRecord → Fate} (hkeep : ∀ r q, fate r = .keep q → SameHold q r) (node : NodeId)
    (l : List ParkRecord) (a : Agent) : parkHolds l a =
      (parkHolds (l.filterMap fun r => (fate r).kept) a ||
        (l.filterMap (leavingOf node fate)).any fun y => y.held && y.agent == a) := by
  induction l with
  | nil => rfl
  | cons r l ih =>
    have hcons (k : List ParkRecord) (q : ParkRecord) : parkHolds (q :: k) a = (q.held && q.agent == a || parkHolds k a) :=
      List.any_cons
    cases hf : fate r with
    | keep q =>
      have hq := hkeep r q hf
      rw [List.filterMap_cons_some (b := q) (by rw [hf]; rfl), List.filterMap_cons_none (by rw [leavingOf, hf]), hcons, hcons,
        ih, hq.1, hq.2, Bool.or_assoc]
    | leave y =>
      rw [List.filterMap_cons_none (by rw [hf]; rfl), List.filterMap_cons_some (by rw [leavingOf, hf]), hcons, ih,
        List.any_cons]
      exact Bool.or_left_comm ..

theorem parkHolds_append (l k : List ParkRecord) (a : Agent) : parkHolds (l ++ k) a = (parkHolds l a || parkHolds k a) :=
  List.any_append

theorem sweepFrom_leaves {fate : ParkRecord → Fate} (hkeep : ∀ r q, fate r = .keep q → SameHold q r)
    {stays : Agent → Bool} (l kept : List ParkRecord) (s : State)
    (hstays : ∀ a, stays a = (parkHolds (kept ++ l.filterMap fun r => (fate r).kept) a || outsHold s.outs a)) :
    Leaves s (sweepFrom fate kept l s) stays (l.filterMap (leavingOf s.node fate)) := by
  induction l generalizing kept s with
  | nil => exact leaves_nil rfl rfl stays
  | cons r l ih =>
    cases hf : fate r with
    | keep q =>
      have hsweep : sweepFrom fate kept (r :: l) s = sweepFrom fate (kept ++ [q]) l s := by
        rw [sweepFrom, hf]
      rw [hsweep, List.filterMap_cons_none (f := leavingOf s.node fate) (by rw [leavingOf, hf])]
      refine ih _ _ fun a => ?_
      rw [hstays, List.filterMap_cons_some (b := q) (by rw [hf]; rfl), List.append_assoc, List.singleton_append]
    | leave y =>
      obtain ⟨u, hu⟩ : ∃ u, u = { s with park := kept ++ l }.answerIf r.agent r.tag y := ⟨_, rfl⟩
      obtain ⟨x, hx⟩ : ∃ x : Leaving, x = { agent := r.agent, held := r.held
                                            frames := (y.map (answerFrame s.node r.agent r.tag)).toList } := ⟨_, rfl⟩
      have hsweep : sweepFrom fate kept (r :: l) s = sweepFrom fate kept l (u.endHold x.held x.agent) := by
        rw [sweepFrom, hf, hu, hx]
      have hleaving : (r :: l).filterMap (leavingOf s.node fate) = [x] ++ l.filterMap (leavingOf s.node fate) :=
        List.filterMap_cons_some (by rw [leavingOf, hf, hx])
      have hrest : (r :: l).filterMap (fun r => (fate r).kept) = l.filterMap fun r => (fate r).kept :=
        List.filterMap_cons_none (by rw [hf]; rfl)
      rw [hrest] at hstays
      have hanswer : NearSends s u x.frames := by
        rw [hu, hx]
        exact State.answerIf_nearSends { s with park := kept ++ l } r.agent r.tag y
      have houts : u.outs = s.outs := by rw [hu, State.answerIf_outs]
      have hnode : u.node = s.node := by rw [hu, State.answerIf_node]
      have hheld : u.heldBy x.agent = alsoHeld stays (l.filterMap (leavingOf s.node fate)) x.agent := by
        have hpark : u.park = kept ++ l := by rw [hu, State.answerIf_park]
        rw [alsoHeld, heldBy_eq, hpark, houts, hstays, parkHolds_append, parkHolds_append, parkHolds_sweep hkeep s.node l,
          ← Bool.or_assoc, Bool.or_right_comm]
      have hlater := ih kept (u.endHold x.held x.agent) fun a => by rw [State.endHold_outs, houts, hstays]
      rw [State.endHold_node, hnode] at hlater
      rw [hsweep, hleaving]
      exact leaves_append (by rw [State.endHold_node, hnode])
        (leaves_one hanswer (by rw [hu, State.answerIf_fences]) hnode hheld) hlater

/-- The near outputs of a sweep that keeps holds, and the fences it ends. -/
theorem State.sweep_outputs {fate : ParkRecord → Fate} (hkeep : ∀ r q, fate r = .keep q → SameHold q r) (s : State)
    {stays : Agent → Bool}
    (hstays : ∀ a, stays a = (parkHolds (s.park.filterMap fun r => (fate r).kept) a || outsHold s.outs a)) :
    Leaves s (s.sweep fate) stays (s.park.filterMap (leavingOf s.node fate)) :=
  sweepFrom_leaves hkeep s.park [] s hstays

/-! ## Refusals counted -/

/-- The record leaves with a REFUSE. -/
def refusedBy (fate : ParkRecord → Fate) (r : ParkRecord) : Bool :=
  match fate r with
  | .leave (some (.refuse _ _)) => true
  | _ => false

theorem refusedBy_other {fate : ParkRecord → Fate} {r : ParkRecord} {w : Fate} (h : fate r = w)
    (hw : ∀ x d, w ≠ .leave (some (.refuse x d))) : ¬refusedBy fate r = true := by
  unfold refusedBy
  rw [h]
  split
  · next x d => exact absurd rfl (hw x d)
  · exact Bool.false_ne_true

theorem sweepFrom_ctr (fate : ParkRecord → Fate) (l kept : List ParkRecord) (s : State) :
    (sweepFrom fate kept l s).ctr =
      { s.ctr with refusals := s.ctr.refusals + BitVec.ofNat 32 (l.countP (refusedBy fate)) } := by
  induction l generalizing kept s with
  | nil => simp [sweepFrom]
  | cons r l ih =>
    unfold sweepFrom
    rw [List.countP_cons]
    cases hf : fate r with
    | keep q =>
      dsimp only
      rw [ih, if_neg (refusedBy_other hf fun _ _ h => by cases h), Nat.add_zero]
    | leave y =>
      dsimp only
      rw [ih, State.endHold_ctr]
      cases y with
      | none => rw [if_neg (refusedBy_other hf fun _ _ h => by cases h), Nat.add_zero]; rfl
      | some y =>
        have hctr : ({ s with park := kept ++ l }.answerIf r.agent r.tag (some y)).ctr =
            ({ s with park := kept ++ l }.countAnswer y).ctr := State.sendNear_ctr ..
        rw [hctr]
        cases y with
        | refuse x d =>
          rw [if_pos (by rw [refusedBy, hf]), Nat.add_comm, BitVec.ofNat_add, ← BitVec.add_assoc]
          rfl
        | data p => rw [if_neg (refusedBy_other hf fun _ _ h => by cases h), Nat.add_zero]; rfl
        | done => rw [if_neg (refusedBy_other hf fun _ _ h => by cases h), Nat.add_zero]; rfl

theorem State.sweep_ctr_eq (s : State) (fate : ParkRecord → Fate) : (s.sweep fate).ctr =
    { s.ctr with refusals := s.ctr.refusals + BitVec.ofNat 32 (s.park.countP (refusedBy fate)) } :=
  sweepFrom_ctr fate s.park [] s

/-! ## Sweeps that refuse -/

/-- A refused record's part in the sweep: a POST is not answered. -/
def refusedPart (node : NodeId) (x : Reason) (d : Byte) (r : ParkRecord) : Leaving :=
  { agent := r.agent, held := r.held
    frames := if r.kind = .post then [] else [nearResponse node r.agent r.tag 3 [reasonCode x, d]] }

theorem refusalTo_frames (node : NodeId) (x : Reason) (d : Byte) (r : ParkRecord) :
    ((refusalTo r.kind x d).map (answerFrame node r.agent r.tag)).toList = (refusedPart node x d r).frames := by
  unfold refusedPart
  cases r.kind <;> rfl

theorem refuseFate_leavings (node : NodeId) (p : ParkRecord → Bool) (x : Reason) (d : Byte) (l : List ParkRecord) :
    l.filterMap (leavingOf node (refuseFate p x d)) = (l.filter p).map (refusedPart node x d) := by
  rw [← List.filterMap_eq_map, ← List.filterMap_eq_filter, List.filterMap_filterMap]
  refine List.filterMap_congr fun r _ => ?_
  unfold leavingOf refuseFate
  cases hp : p r with
  | true =>
    simp only [if_true, refusalTo_frames, Option.guard, hp, Option.bind_some, Function.comp_apply]
    rfl
  | false => simp [Option.guard, hp]

theorem refuseFate_sameHold {p : ParkRecord → Bool} {x : Reason} {d : Byte} (r q : ParkRecord)
    (h : refuseFate p x d r = .keep q) : SameHold q r := by
  rw [refuseFate_keep h]
  exact ⟨rfl, rfl⟩

theorem refuseFate_kept (p : ParkRecord → Bool) (x : Reason) (d : Byte) (l : List ParkRecord) :
    (l.filterMap fun r => (refuseFate p x d r).kept) = l.filter fun r => !p r := by
  rw [← List.filterMap_eq_filter]
  refine List.filterMap_congr fun r _ => ?_
  unfold refuseFate
  cases hp : p r <;> simp [Fate.kept, Option.guard, hp]

theorem refusedParts_refusals (node : NodeId) (x : Reason) (d : Byte) (l : List ParkRecord) :
    ((l.map (refusedPart node x d)).flatMap Leaving.frames).filter (fun f => f.kind == 3) =
      (l.filter fun r => r.kind != .post).map fun r => nearResponse node r.agent r.tag 3 [reasonCode x, d] := by
  induction l with
  | nil => rfl
  | cons r l ih =>
    rw [List.map_cons, List.flatMap_cons, List.filter_append, ih, List.filter_cons]
    unfold refusedPart
    cases r.kind <;> rfl

theorem refusedParts_kind {node : NodeId} {x : Reason} {d : Byte} {l : List ParkRecord} {f : Frame}
    (h : ∃ y ∈ l.map (refusedPart node x d), f ∈ y.frames) : f.kind = 3 := by
  obtain ⟨y, hy, hf⟩ := h
  obtain ⟨r, -, rfl⟩ := List.mem_map.mp hy
  unfold refusedPart at hf
  dsimp only at hf
  split at hf
  · cases hf
  · rw [List.mem_singleton.mp hf]
    rfl

theorem refuseFate_refusals (p : ParkRecord → Bool) (x : Reason) (d : Byte) (l : List ParkRecord) :
    l.countP (refusedBy (refuseFate p x d)) = l.countP fun r => p r && r.kind != .post := by
  refine List.countP_congr fun r _ => ?_
  unfold refusedBy refuseFate
  cases hp : p r with
  | true => cases r.kind <;> simp [refusalTo]
  | false => simp

/-- The near outputs of a sweep that refuses, without the places of the DONEs. -/
theorem State.sweep_refuse_outputs (s : State) (p : ParkRecord → Bool) (x : Reason) (d : Byte) :
    ∃ l : List Frame, NearSends s (s.sweep (refuseFate p x d)) l ∧
      l.filter (fun f => f.kind == 3) = ((s.park.filter p).filter fun r => r.kind != .post).map (fun r =>
        nearResponse s.node r.agent r.tag 3 [reasonCode x, d]) ∧ ∀ f ∈ l, f.kind = 2 ∨ f.kind = 3 := by
  have hout := (State.sweep_outputs (refuseFate_sameHold (p := p) (x := x) (d := d)) s fun _ => rfl).1
  rw [refuseFate_leavings] at hout
  refine ⟨_, hout, ?_, fun f hf => (nearOutputs_kind hf).imp_right refusedParts_kind⟩
  rw [nearOutputs_refusals, refusedParts_refusals]

theorem State.sweep_refuse_ctr (s : State) (p : ParkRecord → Bool) (x : Reason) (d : Byte) :
    (s.sweep (refuseFate p x d)).ctr = { s.ctr with
      refusals := s.ctr.refusals + BitVec.ofNat 32 (s.park.countP fun r => p r && r.kind != .post) } := by
  rw [State.sweep_ctr_eq, refuseFate_refusals]

end Sys2Proof.Machine
end

section
/-! PROOF. The end of a miss (O35, O36): its waiters refused, its entry freed and offered, its record. -/

namespace Sys2Proof.Machine

open Sys2Proof.Safety

/-! ## Counters -/

theorem Counters.refusals_of_butNotices {a b : Counters} (h : a.butNotices = b.butNotices) : a.refusals = b.refusals :=
  (congrArg Counters.refusals h :)

theorem Counters.misses_of_butNotices {a b : Counters} (h : a.butNotices = b.butNotices) : a.misses = b.misses :=
  (congrArg Counters.misses h :)

/-! ## Sweeps of records that hold no fence -/

theorem nearOutputs_unheld (s : State) (stays : Agent → Bool) {l : List Leaving} (h : ∀ x ∈ l, x.held = false) :
    nearOutputs s stays l = l.flatMap Leaving.frames := by
  induction l with
  | nil => rfl
  | cons x l ih =>
    have hno : ¬LastHold stays x l := fun hl => by
      have hheld := hl.1
      rw [h x List.mem_cons_self] at hheld
      cases hheld
    rw [nearOutputs_cons, doneOf_none hno, List.append_nil, List.flatMap_cons,
      ih fun y hy => h y (List.mem_cons_of_mem _ hy)]

theorem refusedParts_frames (node : NodeId) (x : Reason) (d : Byte) (l : List ParkRecord) :
    (l.map (refusedPart node x d)).flatMap Leaving.frames =
      (l.filter fun r => r.kind != .post).map fun r => nearResponse node r.agent r.tag 3 [reasonCode x, d] := by
  induction l with
  | nil => rfl
  | cons r l ih =>
    rw [List.map_cons, List.flatMap_cons, ih, List.filter_cons]
    unfold refusedPart
    cases r.kind <;> rfl

/-- A state with the parts that a sweep may change as they are in another. -/
def State.swept (s u : State) : State :=
  { s with park := u.park, near := u.near, fences := u.fences, ctr := u.ctr }

theorem State.sweep_frame (s : State) (fate : ParkRecord → Fate) : s.sweep fate = s.swept (s.sweep fate) :=
  sweepFrom_keeps (fun t => t.swept (s.sweep fate)) (fun _ _ => rfl)
    (fun t a g x => (congrArg (fun t => State.swept t (s.sweep fate)) (State.answerIf_frame t a g x) :))
    (fun t b a => (congrArg (fun t => State.swept t (s.sweep fate)) (State.endHold_frame t b a) :)) fate [] s.park s

/-- Records without a hold refused on an UP near link: no fence ends. -/
theorem State.sweep_refuse_unheld {s : State} {p : ParkRecord → Bool} (up : s.near.up = true)
    (unheld : ∀ r ∈ s.park.filter p, r.held = false) (x : Reason) (d : Byte) :
    s.sweep (refuseFate p x d) =
      { onNear s (((s.park.filter p).filter fun r => r.kind != .post).map fun r =>
          nearResponse s.node r.agent r.tag 3 [reasonCode x, d]) with
        park := s.park.filter fun r => !p r
        ctr := { s.ctr with
          refusals := s.ctr.refusals + BitVec.ofNat 32 ((s.park.filter p).countP fun r => r.kind != .post) } } := by
  have hparts : ∀ y ∈ (s.park.filter p).map (refusedPart s.node x d), y.held = false := by
    intro y hy
    obtain ⟨r, hr, rfl⟩ := List.mem_map.mp hy
    exact unheld r hr
  obtain ⟨hnear, hfences⟩ := State.sweep_outputs (refuseFate_sameHold (p := p) (x := x) (d := d)) s fun _ => rfl
  rw [refuseFate_leavings] at hnear hfences
  rw [nearOutputs_unheld _ _ hparts, refusedParts_frames, NearSends, if_pos up] at hnear
  have hsame : (s.sweep (refuseFate p x d)).fences = s.fences := by
    refine Vector.ext fun i hi => (hfences ⟨i, hi⟩).trans (if_neg ?_)
    rintro ⟨-, y, hy, -, hheld⟩
    rw [hparts y hy] at hheld
    cases hheld
  rw [State.sweep_frame, State.swept, hnear, hsame, State.sweep_refuse_park, State.sweep_refuse_ctr, List.countP_filter]
  simp only [Bool.and_comm]
  rfl

/-! ## Commands that have sent their reply -/

/-- Between `e` and `u` these frames were handed to the UP far port, as a command's reply is, and nothing else happened but in
the channel. -/
structure OnlySends (e u : State) (fs : List Frame) : Prop where
  frame : u = { e with far := u.far, chan := u.chan }
  sends : FarSends e u fs
  params : u.chan.params = e.chan.params

theorem onlySends_nil (s : State) : OnlySends s s [] := ⟨rfl, farSends_nil rfl rfl, rfl⟩

theorem State.ack_onlySends {s : State} (up : s.far.up = true) (c : Command) (h : Header) (body fields : List Byte) :
    OnlySends s (s.ack (commandFrame c h body) fields)
      [replyTo s h 32 (BitVec.ofNat 8 (commandCode c).toNat :: fields)] := by
  refine ⟨State.ack_frame .., ⟨?_, State.ack_chan_manager ..⟩, State.ack_chan_params ..⟩
  unfold State.ack State.reply
  rw [State.sendFar_up (by exact up)]
  rfl

theorem replyTo_node {s t : State} (h : t.node = s.node) (hd : Header) (k : BitVec 6) (b : List Byte) :
    replyTo t hd k b = replyTo s hd k b := by
  unfold replyTo
  rw [h]

theorem State.ack_stored (s : State) (c : Command) (h : Header) (body fields : List Byte) :
    (s.ack (commandFrame c h body) fields).chan.stored =
      some (replyTo s h 32 (BitVec.ofNat 8 (commandCode c).toNat :: fields)) := rfl

theorem State.ack_expected (s : State) (f : Frame) (fields : List Byte) :
    (s.ack f fields).chan.expected = s.chan.expected + 1 := rfl

/-! ## A freed entry offered -/

/-- The UNNOTICED records of a page are the waiters of the miss it is given, where none waited on its id before. -/
theorem State.offered_waiters {s : State} {id : MissId} (none : ∀ q ∈ s.park, q.waitsOn id = false) (r : ParkRecord) :
    ((s.offered id r).waiters id).length = s.park.countP fun q =>
      q.state == .unnoticed && q.ctx == r.ctx && pageOf q.address == pageOf r.address := by
  unfold State.waiters State.offered
  dsimp only
  rw [← List.countP_eq_length_filter, List.countP_map]
  refine List.countP_congr fun q hq => ?_
  have hq := none q hq
  rw [Function.comp_apply, joinMiss_eq]
  dsimp only
  split
  · next h =>
    obtain ⟨hs, hc, hp⟩ := h
    have hp : pageOf q.address = pageOf r.address := hp
    simp [ParkRecord.waitsOn, hs, hc, hp]
  · next h =>
    rw [hq]
    simp only [Bool.false_eq_true, false_iff, Bool.and_eq_true, beq_iff_eq, and_assoc]
    exact h

theorem State.offer_sends (s : State) (id : MissId) : ∃ copies, FarSends s (s.offer id) copies ∧
    ((∀ q ∈ s.park, q.state ≠ .unnoticed) → copies = []) ∧
    ∀ r, s.misses[id].active = none → s.park.find? ParkRecord.isUnnoticed = some r →
      AreNotices s copies [(48, s.offerCopy id r)] := by
  rcases s.offer_cases id with ⟨r, free, first, -⟩ | ⟨idle, hsame⟩
  · obtain ⟨copies, sends, said⟩ := State.notice_notifies (s.offered id r) 48 (s.offerCopy id r)
    rw [State.offer_taken free first]
    refine ⟨copies, sends, fun none => ?_, fun q _ hq => ?_⟩
    · exact absurd (ParkRecord.isUnnoticed_iff.mp (List.find?_some first)) (none r (List.mem_of_find?_eq_some first))
    · rw [first] at hq
      cases hq
      exact said
  · rw [hsame]
    refine ⟨[], farSends_nil rfl rfl, fun _ => rfl, fun r free first => ?_⟩
    rcases idle with active | none
    · exact absurd free active
    · exact absurd (ParkRecord.isUnnoticed_iff.mp (List.find?_some first)) (none r (List.mem_of_find?_eq_some first))

/-! ## The end of a miss -/

theorem State.endMiss_park (s : State) (id : MissId) (x : Reason) (d : Byte) :
    (s.endMiss id x d).park = s.park.filter fun r => !r.waitsOn id := by
  rw [State.endMiss, State.freeMiss_park, State.sweep_refuse_park]

theorem State.endMiss_misses_get (s : State) (id j : MissId) (x : Reason) (d : Byte) :
    (s.endMiss id x d).misses[j] = if id = j then { gen := s.misses[id].gen, active := none } else s.misses[j] := by
  rw [State.endMiss, State.freeMiss_misses_get, State.sweep_misses]

theorem State.endMiss_ctr_eq (s : State) (id : MissId) (x : Reason) (d : Byte) : (s.endMiss id x d).ctr = { s.ctr with
    refusals := s.ctr.refusals + BitVec.ofNat 32 ((s.waiters id).countP fun r => r.kind != .post) } := by
  rw [State.endMiss, State.freeMiss_ctr, State.sweep_refuse_ctr, State.waiters, List.countP_filter]
  simp only [Bool.and_comm]

/-- The waiters of a miss hold no fence and the near link is UP: its end is just the refusals. -/
theorem State.endMiss_unheld {s : State} {id : MissId} (up : s.near.up = true) (unheld : ∀ r ∈ s.waiters id, r.held = false)
    (x : Reason) (d : Byte) : s.endMiss id x d = missEnded s id (reasonCode x) d := by
  rw [State.endMiss, State.sweep_refuse_unheld up unheld]
  rfl

theorem State.offer_misses_other (s : State) {id j : MissId} (h : j ≠ id) : (s.offer id).misses[j] = s.misses[j] := by
  rcases s.offer_cases id with ⟨r, free, first, -⟩ | ⟨-, hsame⟩
  · rw [State.offer_taken free first, State.notice_misses, State.offered_misses_get, if_neg h]
  · rw [hsame]

theorem State.offer_refusals (s : State) (id : MissId) : (s.offer id).ctr.refusals = s.ctr.refusals := by
  rcases s.offer_cases id with ⟨r, free, first, -⟩ | ⟨-, hsame⟩
  · rw [State.offer_taken free first, Counters.refusals_of_butNotices (State.notice_butNotices ..)]
    rfl
  · rw [hsame]

/-- UNNOTICED records do not wait on a miss: the oldest is the same among those that do not. -/
theorem find_unnoticed_filter (park : List ParkRecord) (id : MissId) :
    (park.filter fun r => !r.waitsOn id).find? ParkRecord.isUnnoticed = park.find? ParkRecord.isUnnoticed := by
  rw [List.find?_filter]
  congr 1
  funext r
  cases h : r.isUnnoticed with
  | false => simp
  | true =>
    have := ParkRecord.isUnnoticed_iff.mp h
    simp [ParkRecord.waitsOn, this]

theorem countP_unnoticed_filter (park : List ParkRecord) (id : MissId) (c : Ctx) (p : Page) :
    (park.filter fun r => !r.waitsOn id).countP (fun q => q.state == .unnoticed && q.ctx == c && pageOf q.address == p) =
      park.countP fun q => q.state == .unnoticed && q.ctx == c && pageOf q.address == p := by
  rw [List.countP_filter]
  refine List.countP_congr fun q _ => ?_
  simp only [Bool.and_eq_true, beq_iff_eq, ParkRecord.waitsOn, Bool.not_eq_true', beq_eq_false_iff_ne, and_iff_left_iff_imp]
  rintro ⟨⟨hs, -⟩, -⟩
  rw [hs]
  exact nofun

/-- A miss ended, the reply of the command that ended it sent, its entry offered, the record made and the drain judged. -/
theorem missEnds_of {s u : State} {id : MissId} {x : Reason} {d : Byte} {ack : List Frame}
    (hu : OnlySends (s.endMiss id x d) u ack) (w : FaultBody) :
    MissEnds s ((u.offer id).makeFault w).judgeDrain id (reasonCode x) d ack w := by
  obtain ⟨frame, sends, params⟩ := hu
  have hsends : FarSends s u ack := by
    unfold FarSends at *
    rwa [State.endMiss_far, State.endMiss_chan] at sends
  have hparams : u.chan.params = s.chan.params := by rw [params, State.endMiss_chan]
  have hpark : u.park = s.park.filter fun r => !r.waitsOn id :=
    (congrArg State.park frame).trans (State.endMiss_park ..)
  have hmisses : u.misses = (s.endMiss id x d).misses := (congrArg State.misses frame :)
  have hcache : u.cache = s.cache := (congrArg State.cache frame).trans (State.endMiss_cache ..)
  have htime : u.time = s.time := (congrArg State.time frame).trans (State.endMiss_time ..)
  have hlog : u.log = s.log := (congrArg State.log frame).trans (State.endMiss_log ..)
  have hbridge : u.bridge = s.bridge := (congrArg State.bridge frame).trans (State.endMiss_bridge ..)
  have hctr : u.ctr = (s.endMiss id x d).ctr := (congrArg State.ctr frame :)
  have hslot : u.misses[id] = { gen := s.misses[id].gen, active := none } := by
    rw [hmisses, State.endMiss_misses_get, if_pos rfl]
  have hnear : ((u.offer id).makeFault w).judgeDrain.near = (s.sweep (refuseFate (fun r => r.waitsOn id) x d)).near := by
    rw [State.judgeDrain_near, State.makeFault_near, State.offer_near]
    exact (congrArg State.near frame :)
  have hbut : ((u.offer id).makeFault w).judgeDrain.ctr.butNotices = (u.offer id).ctr.butNotices :=
    (State.judgeDrain_butNotices _).trans (State.makeFault_butNotices ..)
  obtain ⟨l, hl, hrefusals, hkinds⟩ := State.sweep_refuse_outputs s (fun r => r.waitsOn id) x d
  unfold NearSends at hl
  obtain ⟨copies, hcopies, quiet, loud⟩ := u.offer_sends id
  have hoffer : FarSends s (u.offer id) (ack ++ copies) := farSends_trans hsends hcopies
  obtain ⟨faults, hfaults, hfaultSaid⟩ := notifies_after hoffer ((u.offer id).makeFault_notifies w)
  obtain ⟨⟨quiesced, hquiesced, hquiescedSaid⟩, hjudged⟩ :=
    judgeDrain_after hfaults (by rw [State.makeFault_bridge, State.offer_bridge, hbridge])
  refine ⟨fun up => ⟨l, ?_, hrefusals, hkinds⟩, fun down => ?_, ?_, fun j hj => ?_, ⟨copies, faults, quiesced, ?_,
    fun none => ?_, fun before behind r split first unnoticed => ?_, ?_, hquiescedSaid⟩, ?_, hjudged, ?_, ?_, ?_, ?_⟩
  · rw [hnear, hl, if_pos up]
  · rw [hnear, hl, if_neg (by rw [down]; decide)]
  · rw [Counters.refusals_of_butNotices hbut]
    have hoffered : (u.offer id).ctr.refusals = u.ctr.refusals := State.offer_refusals ..
    rw [hoffered, hctr, State.endMiss_ctr_eq]
  · rw [State.judgeDrain_misses, State.makeFault_misses, State.offer_misses_other _ hj, hmisses, State.endMiss_misses_get,
      if_neg (Ne.symm hj)]
  · rw [hquiesced.1]
    simp only [List.append_assoc]
  · have hnone : ∀ q ∈ u.park, q.state ≠ .unnoticed := by
      rw [hpark]
      exact fun q hq => none q (List.mem_of_mem_filter hq)
    have hidle := State.offer_idle (s := u) (id := id) (.inr hnone)
    rw [State.judgeDrain_misses, State.makeFault_misses, Counters.misses_of_butNotices hbut, State.judgeDrain_park,
      State.makeFault_park, hidle, hctr, State.endMiss_ctr_eq]
    exact ⟨hslot, rfl, hpark, quiet hnone⟩
  · have hfree : u.misses[id].active = Option.none := by rw [hslot]
    have hfirst : u.park.find? ParkRecord.isUnnoticed = some r := by
      rw [hpark, find_unnoticed_filter]
      exact find_unnoticed split first unnoticed
    have htaken := State.offer_taken hfree hfirst
    have hno : ∀ q ∈ u.park, q.waitsOn id = false := by
      rw [hpark]
      exact fun q hq => Bool.not_eq_true' _ ▸ (List.mem_filter.mp hq).2
    have hsaid := areNotices_at (farSends_up hsends) hsends.2 (loud r hfree hfirst)
    refine ⟨?_, ?_, ?_, ?_⟩
    · rw [State.judgeDrain_misses, State.makeFault_misses, htaken, State.notice_misses, State.offered_misses_get, if_pos rfl,
        hslot]
      unfold freshMiss
      rw [htime, hparams]
      rfl
    · rw [Counters.misses_of_butNotices hbut, htaken, Counters.misses_of_butNotices (State.notice_butNotices ..)]
      show u.ctr.misses + 1 = _
      rw [hctr, State.endMiss_ctr_eq]
    · rw [State.judgeDrain_park, State.makeFault_park, htaken, State.notice_park, State.offered, joinMiss_eq, ← hpark]
      rfl
    · rw [State.offerCopy, State.offered_waiters hno, hslot, hcache, hpark, countP_unnoticed_filter] at hsaid
      exact hsaid
  · unfold faultSaid at hfaultSaid
    rw [State.offer_chan_params, hparams, State.offer_log, hlog, State.offer_time, htime] at hfaultSaid
    exact hfaultSaid
  · rw [State.judgeDrain_log, State.makeFault_log, State.offer_log, State.offer_time, hlog, htime]
  · rw [State.judgeDrain_cache, State.makeFault_cache, State.offer_cache, hcache]
  · rw [State.judgeDrain_ctxs, State.makeFault_ctxs, State.offer_ctxs]
    exact (congrArg State.ctxs frame).trans (State.endMiss_ctxs ..)
  · rw [State.judgeDrain_outs, State.makeFault_outs, State.offer_outs]
    exact (congrArg State.outs frame).trans (State.endMiss_outs ..)
  · rw [State.judgeDrain_slots, State.makeFault_slots, State.offer_slots]
    exact (congrArg State.slots frame).trans (State.endMiss_slots ..)

/-! ## The deadline of a miss -/

theorem exec_missTimeout {s : State} {id : MissId} {m : Miss} (active : s.misses[id].active = some m)
    (due : reached m.deadline s.time = true) : exec (.missTimeout id) s =
      .next (((s.endMiss id .missTimeout 0).offer id).makeFault
        (missFault .missTimeout m (s.waiters id).length id)).judgeDrain := by
  show execMissTimeout id s = _
  unfold execMissTimeout
  rw [active]
  exact if_pos due

/-- Settles O36. -/
theorem missTimeout : Obligations.MissTimeout := by
  unfold Obligations.MissTimeout
  refine fun s id => ⟨fun free => ?_, fun m w active hw => ⟨fun early => ?_, fun due => ⟨?_, fun none unheld calm up => ?_⟩⟩⟩
  · show execMissTimeout id s = _
    unfold execMissTimeout
    rw [free]
  · show execMissTimeout id s = _
    unfold execMissTimeout
    rw [active]
    exact if_neg (by rw [early]; decide)
  · rw [hw]
    exact ⟨_, exec_missTimeout active due, missEnds_of (onlySends_nil _) _⟩
  · have hidle : (missEnded s id 4 0).offer id = missEnded s id 4 0 :=
      State.offer_idle (.inr fun q hq => none q (List.mem_of_mem_filter hq))
    rw [exec_missTimeout active due, hw, State.endMiss_unheld up unheld]
    exact congrArg Host.Outcome.next ((congrArg (fun t => (State.makeFault t _).judgeDrain) hidle).trans
      (State.judgeDrain_idle (by rw [State.makeFault_bridge]; exact calm)))

/-! ## DENY -/

theorem denyArgs_read (id : MissId) (gen detail : Byte) :
    denyArgs [byteOf id.val, gen, detail] = some ({ id := id, gen := gen }, detail) := by
  unfold denyArgs
  dsimp only
  rw [inRange_byteOf (by decide)]
  rfl

theorem denyArgs_badId {x : Byte} (h : 15 < x.toNat) (gen detail : Byte) : denyArgs [x, gen, detail] = none := by
  unfold denyArgs
  dsimp only
  rw [inRange_none h]
  rfl

theorem exec_deny {s : State} {h : Header} (hu : UnderE s h []) (id : MissId) (gen detail : Byte) :
    exec (.deny h [byteOf id.val, gen, detail]) s = .next (runDeny (commandFrame .deny h [byteOf id.val, gen, detail])
      ({ id := id, gen := gen }, detail) (farTaken s)) :=
  exec_command_run (run := runDeny (commandFrame .deny h [byteOf id.val, gen, detail])) (underE_body hu (by simp)) .deny
    (denyArgs_read id gen detail) rfl

theorem runDeny_live {s : State} {f : Frame} {id : MissId} {gen detail : Byte} {m : Miss}
    (active : s.misses[id].active = some m) (live : s.misses[id].gen = gen) :
    runDeny f ({ id := id, gen := gen }, detail) s =
      ((((s.endMiss id .noTranslation detail).ack f [byteOf (s.waiters id).length]).offer id).makeFault
        (missFault .denied m (s.waiters id).length id)).judgeDrain := by
  have hlive : s.liveMiss { id := id, gen := gen } = some m := (if_pos live).trans active
  rw [runDeny, hlive]

theorem runDeny_stale {s : State} {f : Frame} {id : MissId} {gen detail : Byte}
    (stale : s.misses[id].active = none ∨ s.misses[id].gen ≠ gen) :
    runDeny f ({ id := id, gen := gen }, detail) s = s.ack f [0] := by
  have hstale : s.liveMiss { id := id, gen := gen } = none := by
    unfold State.liveMiss
    rcases stale with free | old
    · rw [free, ite_self]
    · exact if_neg old
  rw [runDeny, hstale]

/-- Settles O35. -/
theorem deny : Obligations.Deny := by
  unfold Obligations.Deny
  intro s h id gen detail hu
  refine ⟨fun x hx => ?_, fun stale => ?_, fun m w active live hw => ?_⟩
  · exact exec_command_range (run := runDeny (commandFrame .deny h [x, gen, detail])) (underE_body hu (by simp)) .deny
      (denyArgs_badId hx gen detail) rfl
  · rw [exec_deny hu, runDeny_stale (s := farTaken s) stale]
    exact congrArg Host.Outcome.next (State.ack_answered hu.1.1 .deny h _ _)
  · rw [exec_deny hu, runDeny_live (s := farTaken s) active live, hw]
    have hacked := State.ack_onlySends (s := (farTaken s).endMiss id .noTranslation detail)
      (by rw [State.endMiss_far]; exact hu.1.1) .deny h [byteOf id.val, gen, detail] [byteOf (s.waiters id).length]
    have hnode : ((farTaken s).endMiss id .noTranslation detail).node = s.node := State.endMiss_node ..
    rw [replyTo_node hnode] at hacked
    refine ⟨⟨_, rfl, missEnds_of (s := farTaken s) hacked _, ?_, ?_⟩, fun none unheld calm up => ?_⟩
    · rw [State.judgeDrain_chan_stored, State.makeFault_chan_stored, State.offer_chan_stored, State.ack_stored,
        replyTo_node hnode]
      rfl
    · rw [State.judgeDrain_chan_expected, State.makeFault_chan_expected, State.offer_chan_expected, State.ack_expected,
        State.endMiss_chan]
      rfl
    · rw [State.endMiss_unheld (s := farTaken s) up unheld]
      have hack := State.ack_answered (s := missEnded s id 3 detail) hu.1.1 .deny h [byteOf id.val, gen, detail]
        [byteOf (s.waiters id).length]
      have hidle : (answered (missEnded s id 3 detail) h 32 [2, byteOf (s.waiters id).length]).offer id =
          answered (missEnded s id 3 detail) h 32 [2, byteOf (s.waiters id).length] :=
        State.offer_idle (.inr fun q hq => none q (List.mem_of_mem_filter hq))
      exact congrArg Host.Outcome.next ((congrArg (fun t => ((State.offer t id).makeFault _).judgeDrain) hack).trans
        ((congrArg (fun t => (State.makeFault t _).judgeDrain) hidle).trans
          (State.judgeDrain_idle (by rw [State.makeFault_bridge]; exact calm))))

end Sys2Proof.Machine
end

section
/-! PROOF. The loss of the near link (O6): what goes, what becomes an orphan, and what the far port is handed. -/

namespace Sys2Proof.Machine

open Sys2Proof.Safety

theorem OutEntry.live_iff {o : OutEntry} : o.live = true ↔ o.phase = .waiting ∧ o.orphan = false := by
  unfold OutEntry.live
  rw [Bool.and_eq_true, beq_iff_eq, Bool.not_eq_true']

theorem OutEntry.orphaned_eq (o : OutEntry) : o.orphaned =
    if o.phase = .waiting ∧ o.orphan = false then { o with orphan := true, held := false } else o :=
  if_congr OutEntry.live_iff rfl rfl

theorem OutEntry.orphaned_phase (o : OutEntry) : o.orphaned.phase = o.phase := by
  unfold OutEntry.orphaned
  split <;> rfl

theorem OutEntry.orphaned_marks (o : OutEntry) : o.orphaned.marks = o.marks := by
  unfold OutEntry.orphaned
  split <;> rfl

theorem nearLost_outs_get (s : State) (g : BridgeTag) : s.nearLost.outs[g] = (s.outs[g]).map OutEntry.orphaned :=
  getElem_map_fin ..

/-- The loss of the near link leaves each slot the carriers that the entries are. -/
theorem nearLost_carriers (s : State) (k : SlotId) : s.nearLost.carriers k = { s with park := [] }.carriers k := by
  have hentry (o : Option OutEntry) : (o.map OutEntry.orphaned).any (fun e => e.phase == .waiting && e.marks.contains k) =
      o.any fun e => e.phase == .waiting && e.marks.contains k := by
    cases o with
    | none => rfl
    | some o => rw [Option.map_some, Option.any_some, Option.any_some, OutEntry.orphaned_phase, OutEntry.orphaned_marks]
  unfold State.carriers
  rw [State.nearLost_outs, Vector.toList_map, List.countP_map]
  congr 1
  refine List.countP_congr fun o _ => ?_
  rw [Function.comp_apply, hentry]

/-- Without records, a slot's carriers are the WAITING entries that it marks. -/
theorem carriers_entries (s : State) (k : SlotId) : { s with park := [] }.carriers k = 0 ↔
    ¬∃ (g : BridgeTag) (o : OutEntry), s.outs[g] = some o ∧ o.phase = .waiting ∧ k ∈ o.marks := by
  rw [carriers_zero_iff, ← Bool.not_eq_true]
  have hmarked : { s with park := [] }.marked k = anyEntry (OutEntry.carries k) s.outs := Bool.false_or _
  rw [hmarked, anyEntry_iff]
  simp only [OutEntry.carries, Bool.and_eq_true, beq_iff_eq, List.contains_iff_mem]

/-- The loss of the near link drains the bridge unless a miss is active or an entry is WAITING (R132). -/
theorem nearLost_drained_iff (s : State) : s.nearLost.drained = true ↔ (∀ id : MissId, s.misses[id].active = none) ∧
    ∀ (g : BridgeTag) (o : OutEntry), s.outs[g] = some o → o.phase = .expired := by
  rw [drained_iff]
  have hfences : ∀ a : Agent, s.nearLost.fences[a] = none := fun a => by simp
  have hentries : (∀ (g : BridgeTag) (o : OutEntry), s.nearLost.outs[g] = some o → o.phase ≠ .waiting) ↔
      ∀ (g : BridgeTag) (o : OutEntry), s.outs[g] = some o → o.phase = .expired := by
    constructor
    · intro h g o ho
      have := h g o.orphaned (by rw [nearLost_outs_get, ho]; rfl)
      rw [OutEntry.orphaned_phase] at this
      exact phase_ne_waiting.mp this
    · intro h g o ho
      rw [nearLost_outs_get] at ho
      obtain ⟨q, hq, rfl⟩ := Option.map_eq_some_iff.mp ho
      rw [OutEntry.orphaned_phase]
      exact phase_ne_waiting.mpr (h g q hq)
  rw [hentries]
  exact ⟨fun ⟨_, hm, he, _⟩ => ⟨hm, he⟩, fun ⟨hm, he⟩ => ⟨rfl, hm, he, hfences⟩⟩

theorem faultSaid_same {s t : State} (hp : t.chan.params = s.chan.params) (hl : t.log = s.log) (ht : t.time = s.time)
    (w : FaultBody) : faultSaid t w = faultSaid s w := by
  unfold faultSaid
  rw [hp, hl, ht]

theorem nearDownFault_eq (s : State) : nearDownFault s =
    { kind := .linkDown, port := some .near
      count := some (byteOf (s.park.length + s.outs.toList.countP fun o => o.any fun e => e.phase == .waiting && !e.orphan))
      detail := byteOf (s.park.countP fun r => r.kind == .post) } := rfl

/-- Settles O6. -/
theorem nearLinkDown : Obligations.NearLinkDown := by
  unfold Obligations.NearLinkDown
  refine fun s => ⟨fun down => if_neg (by rw [down]; decide), fun up => ⟨_, if_pos up, ?_⟩⟩
  obtain ⟨purges, hpurges, hpurgesSaid⟩ := State.completeSlots_notifies s.nearLost
  obtain ⟨faults, hfaults, hfaultSaid⟩ := notifies_after hpurges (State.makeFault_notifies _ (nearDownFault s))
  have hbridge : (s.nearLost.completeSlots.makeFault (nearDownFault s)).bridge = s.nearLost.bridge := by simp
  obtain ⟨⟨quiesced, hquiesced, hquiescedSaid⟩, hjudged⟩ := judgeDrain_after hfaults hbridge
  have hdrained : (s.nearLost.completeSlots.makeFault (nearDownFault s)).judgeDrain.drained = s.nearLost.drained := by
    rw [judgeDrain_drained_same]
    exact drained_eq_of (by simp) (by simp) (by simp) (by simp)
  refine ⟨?_, ?_, fun a => ?_, fun g => ?_, fun k => ?_, ?_, ?_, ⟨purges, faults, quiesced, ?_, ?_, fun w hw => ?_, ?_⟩,
    ?_, ?_, ?_, ?_, ?_, ?_, ?_, ?_, ?_⟩
  · simp [PortState.lost]
  · simp
  · simp
  · rw [State.judgeDrain_outs, State.makeFault_outs, State.completeSlots_outs, nearLost_outs_get]
    congr 1
    exact funext OutEntry.orphaned_eq
  · rw [State.judgeDrain_slots, State.makeFault_slots, State.completeSlots_slots_exact, nearLost_carriers]
    by_cases carried : ∃ (g : BridgeTag) (o : OutEntry), s.outs[g] = some o ∧ o.phase = .waiting ∧ k ∈ o.marks
    · rw [if_neg (mt (carriers_entries s k).mp (not_not.mpr carried)), if_pos carried]
      rfl
    · rw [if_pos ((carriers_entries s k).mpr carried), if_neg carried]
  · simp [nearDownFault_eq]
  · unfold BridgeJudged at hjudged
    rw [hjudged, hdrained]
    rw [State.nearLost_bridge]
    cases s.bridge with
    | running => rfl
    | quiesced q => rfl
    | quiescing q => exact if_congr (nearLost_drained_iff s) rfl rfl
  · rw [hquiesced.1]
    simp only [List.append_assoc]
    rfl
  · rw [purgesDone_same (s := s) (t := s.nearLost) rfl (nearLost_carriers s)] at hpurgesSaid
    exact hpurgesSaid
  · rw [hw, ← nearDownFault_eq, faultsSaid_singleton]
    rw [faultSaid_same (s := s) (by simp) (by simp) (by simp)] at hfaultSaid
    exact hfaultSaid
  · exact hquiescedSaid
  · simp
  · simp
  · simp
  · simp
  · simp
  · simp
  · simp
  · simp
  · rw [Counters.refusals_of_butNotices (State.judgeDrain_butNotices _), State.makeFault_refusals,
      Counters.refusals_of_butNotices (State.completeSlots_butNotices _)]
    rfl

end Sys2Proof.Machine
end

section
/-! PROOF. The arbiter (R72 to R76): what one forward does, and what a run of forwards does. -/

namespace Sys2Proof.Machine

open Sys2Proof.Safety

/-! ## DONEs on the near port -/

/-- Handed to the near port: DONE frames and nothing else. -/
def NearDones (s t : State) : Prop :=
  ∃ l, NearSends s t l ∧ ∀ f ∈ l, f.cls = .response ∧ f.kind = 2 ∧ f.body = []

theorem nearDones_same {s t : State} (h : t.near = s.near) : NearDones s t := ⟨[], nearSends_nil h, nofun⟩

theorem nearDones_trans {s t u : State} (h : NearDones s t) (hu : NearDones t u) : NearDones s u := by
  obtain ⟨l, hl, hdones⟩ := h
  obtain ⟨k, hk, hmore⟩ := hu
  exact ⟨l ++ k, nearSends_trans hl hk, fun f hf => (List.mem_append.mp hf).elim (hdones f) (hmore f)⟩

theorem State.judgeFence_dones (s : State) (a : Agent) : NearDones s (s.judgeFence a) := by
  by_cases h : s.fences[a] = none ∨ s.heldBy a = true
  · exact nearDones_same (by rw [State.judgeFence_waits h])
  · obtain ⟨pending, held⟩ := not_or.mp h
    obtain ⟨q, hq⟩ := Option.ne_none_iff_exists'.mp pending
    refine ⟨[nearResponse s.node a q 2 []], ?_, fun f hf => by rw [List.mem_singleton.mp hf]; exact ⟨rfl, rfl, rfl⟩⟩
    rw [State.judgeFence_done hq (Bool.eq_false_iff.mpr held)]
    unfold NearSends
    cases s.near.up <;> rfl

theorem State.endHold_dones (s : State) (b : Bool) (a : Agent) : NearDones s (s.endHold b a) := by
  cases b
  · exact nearDones_same rfl
  · exact State.judgeFence_dones s a

theorem State.endHold_fences_none {s : State} {j : Agent} (h : s.fences[j] = none) (b : Bool) (a : Agent) :
    (s.endHold b a).fences[j] = none := by
  cases b
  · exact h
  · show (s.judgeFence a).fences[j] = none
    by_cases hw : s.fences[a] = none ∨ s.heldBy a = true
    · rw [State.judgeFence_waits hw, h]
    · obtain ⟨pending, held⟩ := not_or.mp hw
      obtain ⟨q, hq⟩ := Option.ne_none_iff_exists'.mp pending
      rw [State.judgeFence_done hq (Bool.eq_false_iff.mpr held)]
      refine (getElem_set_fin ..).trans ?_
      split
      · rfl
      · cases s.near.up <;> exact h

/-! ## Slots without a carrier -/

/-- Every slot is as in `base` while it has a carrier, and free otherwise. -/
def SlotsJudged (base s : State) : Prop := ∀ k : SlotId, s.slots[k] = if s.carriers k = 0 then none else base.slots[k]

theorem State.completeSlots_judged {base s : State} (h : ∀ k, s.carriers k ≠ 0 → s.slots[k] = base.slots[k]) :
    SlotsJudged base s.completeSlots := by
  intro k
  rw [State.completeSlots_slots_exact, carriers_same (State.completeSlots_park s) (State.completeSlots_outs s)]
  split
  · rfl
  · next hc => exact h k hc

theorem slotsJudged_same {base s t : State} (h : SlotsJudged base s) (hs : t.slots = s.slots)
    (hc : ∀ k, t.carriers k = 0 ↔ s.carriers k = 0) : SlotsJudged base t := by
  intro k
  rw [hs, h k]
  exact if_congr (hc k).symm rfl rfl

/-! ## One forward -/

/-- The entry that a READY record takes when it is forwarded now (R75). -/
def entryOf (s : State) (r : ParkRecord) (x : Translation) (m : List SlotId) : OutEntry :=
  newOutEntry s r.agent r.tag r.kind r.len r.ctx r.page x m r.held

/-- The far REQUEST of a READY record, without its bridge tag. -/
def untaggedRequest (node : NodeId) (r : ParkRecord) : Option Frame :=
  match r.state with
  | .ready x _ => some (farRequest node r.kind r.mode r.len r.payload x 0)
  | _ => none

/-- A run of forwards from `s` to `t`: the frames it hands to the far port, and the READY records that leave by it. -/
structure Forwards (s t : State) (fs : List Frame) (gone : List ParkRecord) : Prop where
  sends : FarSends s t fs
  forwards : AreForwards fs
  stay : t.park.filter (fun r => !r.isReady) = s.park.filter fun r => !r.isReady
  heads : s.park.filter ParkRecord.isReady = gone ++ t.park.filter ParkRecord.isReady
  requests : (fs.filter fun f => f.cls == .request).map (fun f => { f with hdr := { f.hdr with tag := 0 } }) =
    gone.filterMap (untaggedRequest s.node)
  entries : ∀ r ∈ gone, r.kind ≠ .post → ∀ (x : Translation) (m : List SlotId), r.state = .ready x m →
    ∃ g : BridgeTag, s.outs[g] = none ∧ farRequest s.node r.kind r.mode r.len r.payload x (byteOf g.val) ∈ fs ∧
      t.outs[g] = some (entryOf s r x m)
  kept : ∀ (g : BridgeTag) (o : OutEntry), s.outs[g] = some o → t.outs[g] = some o
  taken : ∀ (g : BridgeTag) (o : OutEntry), s.outs[g] = none → t.outs[g] = some o →
    ∃ r ∈ s.park, r.isReady = true ∧ ∃ x m, o = entryOf s r x m
  near : NearDones s t
  node : t.node = s.node
  time : t.time = s.time
  params : t.chan.params = s.chan.params

theorem Forwards.refl (s : State) : Forwards s s [] [] where
  sends := farSends_nil rfl rfl
  forwards := nofun
  stay := rfl
  heads := rfl
  requests := rfl
  entries := nofun
  kept := fun _ _ h => h
  taken := fun _ _ h ho => by rw [h] at ho; cases ho
  near := nearDones_same rfl
  node := rfl
  time := rfl
  params := rfl

theorem entryOf_same {s t : State} (ht : t.time = s.time) (hp : t.chan.params = s.chan.params) (r : ParkRecord)
    (x : Translation) (m : List SlotId) : entryOf t r x m = entryOf s r x m := by
  unfold entryOf newOutEntry
  rw [ht, hp]

theorem Forwards.trans {s t u : State} {fs fs' : List Frame} {gone gone' : List ParkRecord} (h : Forwards s t fs gone)
    (h' : Forwards t u fs' gone') : Forwards s u (fs ++ fs') (gone ++ gone') where
  sends := farSends_trans h.sends h'.sends
  forwards := fun f hf => (List.mem_append.mp hf).elim (h.forwards f) (h'.forwards f)
  stay := h'.stay.trans h.stay
  heads := by rw [h.heads, h'.heads, List.append_assoc]
  requests := by rw [List.filter_append, List.map_append, h.requests, h'.requests, h.node, List.filterMap_append]
  entries := by
    intro r hr hk x m hs
    rcases List.mem_append.mp hr with hr | hr
    · obtain ⟨g, hfree, hsent, hentry⟩ := h.entries r hr hk x m hs
      exact ⟨g, hfree, List.mem_append_left _ hsent, h'.kept g _ hentry⟩
    · obtain ⟨g, hfree, hsent, hentry⟩ := h'.entries r hr hk x m hs
      rw [h.node] at hsent
      rw [entryOf_same h.time h.params] at hentry
      refine ⟨g, ?_, List.mem_append_right _ hsent, hentry⟩
      cases ho : s.outs[g] with
      | none => rfl
      | some o =>
        rw [h.kept g o ho] at hfree
        cases hfree
  kept := fun g o ho => h'.kept g o (h.kept g o ho)
  taken := by
    intro g o hfree ho
    cases ht : t.outs[g] with
    | some y =>
      have hy := h'.kept g y ht
      rw [ho] at hy
      cases hy
      exact h.taken g o hfree ht
    | none =>
      obtain ⟨r, hr, hready, x, m, rfl⟩ := h'.taken g o ht ho
      have hmem : r ∈ s.park.filter ParkRecord.isReady := by
        rw [h.heads]
        exact List.mem_append_right _ (List.mem_filter.mpr ⟨hr, hready⟩)
      exact ⟨r, (List.mem_filter.mp hmem).1, hready, x, m, entryOf_same h.time h.params r x m⟩
  near := nearDones_trans h.near h'.near
  node := h'.node.trans h.node
  time := h'.time.trans h.time
  params := h'.params.trans h.params

theorem areForwards_notices {s : State} {fs : List Frame} {said : List (BitVec 6 × List Byte)} (h : AreNotices s fs said)
    (hsaid : ∀ y ∈ said, y.1 = 50) : ∀ f ∈ fs, f.cls = .mgmt ∧ f.kind = 50 := by
  unfold AreNotices at h
  split at h
  · intro f hf
    have hmem : (f.cls, f.hdr.dst, f.kind, f.body) ∈ fs.map fun f => (f.cls, f.hdr.dst, f.kind, f.body) :=
      List.mem_map_of_mem hf
    rw [h] at hmem
    obtain ⟨y, hy, heq⟩ := List.mem_map.mp hmem
    simp only [Prod.mk.injEq] at heq
    exact ⟨heq.1.symm, heq.2.2.1.symm.trans (hsaid y hy)⟩
  · rw [List.map_eq_nil_iff.mp h]
    exact nofun

theorem purgesDone_kind {s u : State} : ∀ y ∈ purgesDone s u, y.1 = 50 := by
  intro y hy
  obtain ⟨k, -, hk⟩ := List.mem_filterMap.mp hy
  split at hk
  · obtain ⟨p, -, rfl⟩ := Option.map_eq_some_iff.mp hk
    rfl
  · cases hk

theorem ParkRecord.isReady_of_state {r : ParkRecord} {x : Translation} {m : List SlotId} (h : r.state = .ready x m) :
    r.isReady = true := by
  rw [ParkRecord.isReady, h]

/-- The park buffer without its READY head. -/
theorem park_without_head {before behind : List ParkRecord} {r : ParkRecord} (first : ∀ q ∈ before, q.isReady = false)
    (ready : r.isReady = true) :
    (before ++ behind).filter (fun q => !q.isReady) = (before ++ r :: behind).filter (fun q => !q.isReady) ∧
      (before ++ r :: behind).filter ParkRecord.isReady = r :: (before ++ behind).filter ParkRecord.isReady := by
  have hbefore : before.filter ParkRecord.isReady = [] :=
    List.filter_eq_nil_iff.mpr fun q hq => by rw [first q hq]; exact Bool.false_ne_true
  constructor
  · rw [List.filter_append, List.filter_append, List.filter_cons_of_neg (by rw [ready]; decide)]
  · rw [List.filter_append, List.filter_append, hbefore, List.filter_cons_of_pos ready]
    rfl

/-- A forwarded READ or WRITE: its frame, and its entry. -/
theorem forwards_entry {s : State} {before behind : List ParkRecord} {r : ParkRecord} {x : Translation} {m : List SlotId}
    {g : BridgeTag} (split : s.park = before ++ r :: behind) (state : r.state = .ready x m)
    (first : ∀ q ∈ before, q.isReady = false) (up : s.far.up = true) (free : s.freeTag = some g) :
    Forwards s ({ s with park := before ++ behind, outs := s.outs.set g (some (entryOf s r x m)) }.sendFar
      (requestFrame s.node r.kind r.mode r.len r.payload x (byteOf g.val)))
      [farRequest s.node r.kind r.mode r.len r.payload x (byteOf g.val)] [r] := by
  have hready := ParkRecord.isReady_of_state state
  obtain ⟨hstay, hheads⟩ := park_without_head (behind := behind) first hready
  have hnone := State.freeTag_some free
  rw [State.sendFar_up (by exact up), requestFrame_eq]
  have hget (j : BridgeTag) : (s.outs.set g (some (entryOf s r x m)))[j] = if g = j then some (entryOf s r x m) else s.outs[j] :=
    getElem_set_fin ..
  refine ⟨⟨rfl, rfl⟩, fun f hf => .inl (by rw [List.mem_singleton.mp hf]; rfl), ?_, ?_, ?_, ?_, fun j o ho => ?_,
    fun j o hj ho => ?_, nearDones_same rfl, rfl, rfl, rfl⟩
  · rw [split]
    exact hstay
  · rw [split]
    exact hheads
  · rw [List.filterMap_cons_some (b := farRequest s.node r.kind r.mode r.len r.payload x 0) (by rw [untaggedRequest, state])]
    rfl
  · intro q hq hk y l hs
    cases List.mem_singleton.mp hq
    rw [state] at hs
    cases hs
    exact ⟨g, hnone, List.mem_singleton_self _, (hget g).trans (if_pos rfl)⟩
  · refine (hget j).trans ((if_neg ?_).trans ho)
    rintro rfl
    rw [hnone] at ho
    cases ho
  · have ho := (hget j).symm.trans ho
    split at ho
    · cases ho
      exact ⟨r, by rw [split]; simp, hready, x, m, rfl⟩
    · rw [hj] at ho
      cases ho

/-- A forwarded POST: its frame, the PURGE-DONEs it completes, and the DONE of the fence it held (R76, R80, R110). -/
theorem forwards_post {s : State} {before behind : List ParkRecord} {r : ParkRecord} {x : Translation} {m : List SlotId}
    (split : s.park = before ++ r :: behind) (state : r.state = .ready x m) (first : ∀ q ∈ before, q.isReady = false)
    (up : s.far.up = true) (post : r.kind = .post) :
    ∃ purges, AreNotices s purges (purgesDone s { s with park := before ++ behind }) ∧
      Forwards s (({ s with park := before ++ behind }.sendFar
        (requestFrame s.node r.kind r.mode r.len r.payload x 0)).completeSlots.endHold r.held r.agent)
        ([farRequest s.node r.kind r.mode r.len r.payload x 0] ++ purges) [r] := by
  have hready := ParkRecord.isReady_of_state state
  obtain ⟨hstay, hheads⟩ := park_without_head (behind := behind) first hready
  rw [State.sendFar_up (by exact up), requestFrame_eq]
  obtain ⟨u, hu⟩ : ∃ u, u = onFar { s with park := before ++ behind } [farRequest s.node r.kind r.mode r.len r.payload x 0] :=
    ⟨_, rfl⟩
  have hsent : FarSends s u [farRequest s.node r.kind r.mode r.len r.payload x 0] := by rw [hu]; exact ⟨rfl, rfl⟩
  obtain ⟨purges, hpurges, hsaid⟩ := notifies_after hsent u.completeSlots_notifies
  have hdone : purgesDone u u = purgesDone s { s with park := before ++ behind } := by
    rw [hu]
    exact purgesDone_same rfl fun k => rfl
  rw [hdone] at hsaid
  have hkinds := areForwards_notices hsaid purgesDone_kind
  have houts : (u.completeSlots.endHold r.held r.agent).outs = s.outs := by
    rw [State.endHold_outs, State.completeSlots_outs, hu]
    rfl
  have hpark : (u.completeSlots.endHold r.held r.agent).park = before ++ behind := by
    rw [State.endHold_park, State.completeSlots_park, hu]
    rfl
  have hnone : purges.filter (fun f => f.cls == .request) = [] := by
    refine List.filter_eq_nil_iff.mpr fun f hf => ?_
    rw [(hkinds f hf).1]
    decide
  refine ⟨purges, hsaid, ?_⟩
  show Forwards s ((onFar { s with park := before ++ behind }
    [farRequest s.node r.kind r.mode r.len r.payload x 0]).completeSlots.endHold r.held r.agent) _ _
  rw [← hu]
  refine ⟨?_, fun f hf => ?_, ?_, ?_, ?_, ?_, fun j o ho => ?_, fun j o hj ho => ?_, ?_, ?_, ?_, ?_⟩
  · unfold FarSends
    rw [State.endHold_far, State.endHold_chan]
    exact hpurges
  · rcases List.mem_append.mp hf with hf | hf
    · exact .inl (by rw [List.mem_singleton.mp hf]; rfl)
    · exact .inr (hkinds f hf)
  · rw [hpark, split]
    exact hstay
  · rw [hpark, split]
    exact hheads
  · rw [List.filterMap_cons_some (b := farRequest s.node r.kind r.mode r.len r.payload x 0) (by rw [untaggedRequest, state]),
      List.filter_append, hnone]
    rfl
  · intro q hq hk
    cases List.mem_singleton.mp hq
    exact absurd post hk
  · rw [houts, ho]
  · rw [houts, hj] at ho
    cases ho
  · refine nearDones_trans (nearDones_same ?_) (State.endHold_dones _ _ _)
    rw [State.completeSlots_near, hu]
    rfl
  · rw [State.endHold_node, State.completeSlots_node, hu]
    rfl
  · rw [State.endHold_time, State.completeSlots_time, hu]
    rfl
  · rw [State.endHold_chan, State.completeSlots_chan_params, hu]
    rfl

theorem State.forwardHead_forwards {s u : State} (h : s.forwardHead = some u) : ∃ fs gone, Forwards s u fs gone := by
  obtain ⟨before, r, x, m, behind, split, state, first, up, ⟨post, rfl⟩ | ⟨g, -, free, rfl⟩⟩ := State.forwardHead_cases h
  · obtain ⟨purges, -, hrun⟩ := forwards_post split state first up post
    exact ⟨_, _, hrun⟩
  · exact ⟨_, _, forwards_entry split state first up free⟩

theorem State.runArbiter_forwards (s : State) : ∃ fs gone, Forwards s s.runArbiter fs gone :=
  s.runArbiter_induct (fun u => ∃ fs gone, Forwards s u fs gone)
    (fun h ⟨_, _, hs⟩ => let ⟨_, _, hu⟩ := State.forwardHead_forwards h; ⟨_, _, hs.trans hu⟩) ⟨_, _, .refl s⟩

theorem State.runArbiter_settled (s : State) : s.runArbiter.forwardHead = none := forwardUpTo_settles _ s (Nat.le_refl _)

/-! ## What a run of forwards shows -/

section
variable {s t : State} {fs : List Frame} {gone : List ParkRecord} (h : Forwards s t fs gone)
include h

theorem Forwards.readyHeadsLeft : ReadyHeadsLeft s t := ⟨h.stay, gone, h.heads.symm⟩

theorem Forwards.freeOrForwarded {g : BridgeTag} (free : s.outs[g] = none) : FreeOrForwarded s t g := by
  intro o ho
  obtain ⟨r, hr, hready, x, m, rfl⟩ := h.taken g o free ho
  exact ⟨rfl, rfl, rfl, r, hr, hready, rfl, rfl, rfl⟩

theorem Forwards.headsForwarded (stuck : t.forwardHead = none) : HeadsForwarded s s t fs :=
  ⟨stuck, gone, h.heads, h.requests, h.entries⟩

end

end Sys2Proof.Machine
end

section
/-! PROOF. The arbiter (O23), and the ends that only let it run: late responses (O21). -/

namespace Sys2Proof.Machine

open Sys2Proof.Safety

/-! ## When the head leaves -/

theorem splitReady_of {before behind : List ParkRecord} {r : ParkRecord} {x : Translation} {m : List SlotId}
    (first : ∀ q ∈ before, q.isReady = false) (state : r.state = .ready x m) :
    splitReady (before ++ r :: behind) = some (before, r, x, m, behind) := by
  induction before with
  | nil =>
    rw [List.nil_append, splitReady, state]
  | cons q before ih =>
    rw [List.cons_append, splitReady, ih fun p hp => first p (List.mem_cons_of_mem _ hp)]
    rcases ParkRecord.isReady_false_iff.mp (first q List.mem_cons_self) with hq | ⟨id, hq⟩
    · rw [hq]
    · rw [hq]

section
variable {s : State} {before behind : List ParkRecord} {r : ParkRecord} {x : Translation} {m : List SlotId}
  (split : s.park = before ++ r :: behind) (first : ∀ q ∈ before, q.isReady = false) (state : r.state = .ready x m)
  (up : s.far.up = true)
include split first state up

theorem State.forwardHead_entry {g : BridgeTag} (kind : r.kind ≠ .post) (free : s.freeTag = some g) :
    s.forwardHead = some ({ s with
      park := before ++ behind, outs := s.outs.set g (some (entryOf s r x m)) }.sendFar
        (requestFrame s.node r.kind r.mode r.len r.payload x (byteOf g.val))) := by
  unfold State.forwardHead
  rw [split, splitReady_of first state]
  dsimp only
  rw [if_neg (by rw [up]; decide), if_neg kind, free]
  rfl

theorem State.forwardHead_post (kind : r.kind = .post) :
    s.forwardHead = some (({ s with park := before ++ behind }.sendFar
      (requestFrame s.node r.kind r.mode r.len r.payload x 0)).completeSlots.endHold r.held r.agent) := by
  unfold State.forwardHead
  rw [split, splitReady_of first state]
  dsimp only
  rw [if_neg (by rw [up]; decide), if_pos kind]

theorem State.forwardHead_full (kind : r.kind ≠ .post) (full : s.freeTag = none) : s.forwardHead = none := by
  unfold State.forwardHead
  rw [split, splitReady_of first state]
  dsimp only
  rw [if_neg (by rw [up]; decide), if_neg kind, full]

end

theorem State.forwardHead_nothing {s : State} (h : s.far.up = false ∨ s.readyExists = false) : s.forwardHead = none := by
  rw [forwardHead_none_iff]
  intro k hk up
  rcases h with down | none
  · rw [down] at up
    cases up
  · rw [headKind_none.mpr none] at hk
    cases hk

theorem State.freeTag_same {s t : State} (h : t.outs = s.outs) : t.freeTag = s.freeTag := by
  unfold State.freeTag
  rw [h]

theorem forwardHead_none_same {s t : State} (hp : t.park = s.park) (ho : t.outs = s.outs) (hu : t.far.up = s.far.up)
    (h : s.forwardHead = none) : t.forwardHead = none := by
  rw [forwardHead_none_iff] at *
  rw [hp, hu, State.freeTag_same ho]
  exact h

theorem exec_arbiterForward_some {s u : State} (h : s.forwardHead = some u) :
    exec .arbiterForward s = .next u.judgeDrain := by
  show execArbiterForward s = _
  unfold execArbiterForward
  rw [h]

theorem exec_arbiterForward_none {s : State} (h : s.forwardHead = none) : exec .arbiterForward s = .next s := by
  show execArbiterForward s = _
  unfold execArbiterForward
  rw [h]

/-! ## The judgment of the drain behind a run of forwards -/

section
variable {s t : State} {fs : List Frame} {gone : List ParkRecord} (h : Forwards s t fs gone)
include h

/-- The drain judged behind a run of forwards: QUIESCED is the last output. -/
theorem Forwards.judged (hb : t.bridge = s.bridge) : ∃ quiesced,
    t.judgeDrain.far = { s.far with queue := s.far.queue ++ fs ++ quiesced } ∧
      AreNotices s quiesced (quiescedSaid s t.judgeDrain) ∧ BridgeJudged s t.judgeDrain := by
  obtain ⟨⟨quiesced, hsent, hsaid⟩, hjudged⟩ := judgeDrain_after h.sends hb
  exact ⟨quiesced, by rw [hsent.1, List.append_assoc], hsaid, hjudged⟩

theorem Forwards.judged_readyHeadsLeft : ReadyHeadsLeft s t.judgeDrain := by
  unfold ReadyHeadsLeft
  rw [State.judgeDrain_park]
  exact h.readyHeadsLeft

theorem Forwards.judged_freeOrForwarded {g : BridgeTag} (free : s.outs[g] = none) : FreeOrForwarded s t.judgeDrain g := by
  unfold FreeOrForwarded
  rw [State.judgeDrain_outs]
  exact h.freeOrForwarded free

theorem Forwards.judged_headsForwarded (stuck : t.forwardHead = none) : HeadsForwarded s s t.judgeDrain fs := by
  have hstuck : t.judgeDrain.forwardHead = none :=
    forwardHead_none_same (State.judgeDrain_park t) (State.judgeDrain_outs t) (State.judgeDrain_far_up t) stuck
  refine ⟨hstuck, ?_⟩
  rw [State.judgeDrain_park, State.judgeDrain_outs]
  exact (h.headsForwarded stuck).2

theorem Forwards.judged_kept {g : BridgeTag} {o : OutEntry} (ho : s.outs[g] = some o) : t.judgeDrain.outs[g] = some o := by
  rw [State.judgeDrain_outs]
  exact h.kept g o ho

end

/-! ## The arbiter's row -/

/-- Behind a forwarded POST (R80, R107, R110, R132). -/
theorem arbiterForward_post {s : State} {before behind : List ParkRecord} {r : ParkRecord} {x : Translation} {m : List SlotId}
    (split : s.park = before ++ r :: behind) (first : ∀ q ∈ before, q.isReady = false) (state : r.state = .ready x m)
    (up : s.far.up = true) (kind : r.kind = .post) {u : State} (hu : u = { s with park := before ++ behind }) :
    ∃ (t : State) (purges quiesced : List Frame), exec .arbiterForward s = .next t ∧
      t.park = before ++ behind ∧
      t.far = { s.far with queue := s.far.queue ++ [farRequest s.node r.kind r.mode r.len r.payload x 0] ++ purges ++
        quiesced } ∧
      AreNotices s purges (purgesDone s u) ∧ AreNotices s quiesced (quiescedSaid s t) ∧ BridgeJudged s t ∧
      (∀ k : SlotId, t.slots[k] = if u.carriers k = 0 then none else s.slots[k]) ∧
      (∀ q : NearTag, r.held = true → u.heldBy r.agent = false → s.fences[r.agent] = some q →
        t.fences = s.fences.set r.agent none ∧
        t.near = if s.near.up then { s.near with queue := s.near.queue ++ [nearResponse s.node r.agent q 2 []] }
          else s.near) ∧
      (r.held = false ∨ u.heldBy r.agent = true ∨ s.fences[r.agent] = none → t.fences = s.fences ∧ t.near = s.near) ∧
      t.outs = s.outs ∧ t.ctxs = s.ctxs ∧ t.misses = s.misses ∧ t.cache = s.cache ∧ t.log = s.log ∧
      t.ctr.refusals = s.ctr.refusals := by
  obtain ⟨purges, hpurges, hrun⟩ := forwards_post split state first up kind
  obtain ⟨v, hv⟩ : ∃ v, v = ({ s with park := before ++ behind }.sendFar
    (requestFrame s.node r.kind r.mode r.len r.payload x 0)).completeSlots := ⟨_, rfl⟩
  have hexec := exec_arbiterForward_some (State.forwardHead_post split first state up kind)
  rw [← hv] at hrun hexec
  have hpark : v.park = before ++ behind := by rw [hv, State.completeSlots_park, State.sendFar_park]
  have houts : v.outs = s.outs := by rw [hv, State.completeSlots_outs, State.sendFar_outs]
  have hfences : v.fences = s.fences := by rw [hv, State.completeSlots_fences, State.sendFar_fences]
  have hnear : v.near = s.near := by rw [hv, State.completeSlots_near, State.sendFar_near]
  have hnode : v.node = s.node := by rw [hv, State.completeSlots_node, State.sendFar_node]
  have hheld : v.heldBy r.agent = u.heldBy r.agent := by
    rw [heldBy_eq, heldBy_eq, hpark, houts, hu]
  obtain ⟨quiesced, hfar, hsaid, hjudged⟩ := hrun.judged (by rw [hv]; simp)
  refine ⟨_, purges, quiesced, hexec, ?_, ?_, ?_, hsaid, hjudged, fun k => ?_, fun q held last pending => ?_, fun waits => ?_,
    ?_, ?_, ?_, ?_, ?_, ?_⟩
  · rw [State.judgeDrain_park, State.endHold_park, hpark]
  · rw [hfar, ← List.append_assoc]
  · rw [hu]
    exact hpurges
  · have hc : ({ s with park := before ++ behind }.sendFar
        (requestFrame s.node r.kind r.mode r.len r.payload x 0)).carriers k = u.carriers k := by
      rw [hu]
      exact carriers_same (State.sendFar_park ..) (State.sendFar_outs ..) k
    rw [State.judgeDrain_slots, State.endHold_slots, hv, State.completeSlots_slots_exact, hc, State.sendFar_slots]
  · rw [held]
    rw [State.judgeDrain_fences, State.judgeDrain_near]
    rw [show v.endHold true r.agent = v.judgeFence r.agent from rfl,
      State.judgeFence_done (by rw [hfences]; exact pending) (by rw [hheld]; exact last)]
    rw [← hfences, ← hnear, ← hnode]
    cases v.near.up <;> exact ⟨rfl, rfl⟩
  · have hsame : v.endHold r.held r.agent = v := by
      rcases waits with unheld | others | idle
      · rw [unheld]
        rfl
      · cases r.held
        · rfl
        · exact State.judgeFence_waits (.inr (by rw [hheld]; exact others))
      · exact State.endHold_idle (by rw [hfences]; exact idle) _
    rw [hsame, State.judgeDrain_fences, State.judgeDrain_near]
    exact ⟨hfences, hnear⟩
  · rw [State.judgeDrain_outs, State.endHold_outs, houts]
  · rw [hv]; simp
  · rw [hv]; simp
  · rw [hv]; simp
  · rw [hv]; simp
  · rw [Counters.refusals_of_butNotices (State.judgeDrain_butNotices _), State.endHold_ctr, hv,
      Counters.refusals_of_butNotices (State.completeSlots_butNotices _), State.sendFar_ctr]

/-- Settles O23. -/
theorem arbiterForwards : Obligations.ArbiterForwards := by
  unfold Obligations.ArbiterForwards
  refine fun s => ⟨fun before behind r x m split first state up => ⟨fun g kind free => ?_, fun kind unheld noSlots calm => ?_,
    fun kind u hu => arbiterForward_post split first state up kind hu, fun kind full => ?_⟩, fun h => ?_,
    State.runArbiter_settled s⟩
  · rw [exec_arbiterForward_some (State.forwardHead_entry split first state up kind free), State.judgeDrain_undrained,
      State.sendFar_up (by exact up), requestFrame_eq]
    · rfl
    · rw [← Bool.not_eq_true, drained_iff]
      rintro ⟨-, -, waiting, -⟩
      refine waiting g (entryOf s r x m) ?_ rfl
      rw [State.sendFar_outs]
      exact (getElem_set_fin ..).trans (if_pos rfl)
  · rw [exec_arbiterForward_some (State.forwardHead_post split first state up kind), unheld, State.sendFar_up (by exact up),
      requestFrame_eq, State.completeSlots_free (by exact noSlots)]
    exact congrArg Host.Outcome.next (State.judgeDrain_idle (by exact calm))
  · exact exec_arbiterForward_none (State.forwardHead_full split first state up kind full)
  · exact exec_arbiterForward_none (State.forwardHead_nothing h)

end Sys2Proof.Machine
end

section
/-! PROOF. Responses that end no transaction (O21): what matches no entry, and what matches an EXPIRED one. -/

namespace Sys2Proof.Machine

open Sys2Proof.Safety

/-! ## Matching -/

theorem State.matchResponse_entry {s : State} {h : Header} {g : BridgeTag} {o : OutEntry} (tag : h.tag.toNat = g.val)
    (entry : s.outs[g] = some o) (source : nodeField h.src = o.node) : s.matchResponse h = some (g, o) := by
  have hg : inRange 128 h.tag.toNat = some g := by
    rw [inRange_some (by rw [tag]; exact g.isLt)]
    exact congrArg some (Fin.ext tag)
  unfold State.matchResponse
  rw [hg]
  dsimp only
  rw [entry]
  exact if_pos source

theorem State.matchResponse_none {s : State} {h : Header}
    (none : ¬∃ (g : BridgeTag) (o : OutEntry), h.tag.toNat = g.val ∧ s.outs[g] = some o ∧ nodeField h.src = o.node) :
    s.matchResponse h = Option.none := by
  cases hm : s.matchResponse h with
  | none => rfl
  | some p =>
    obtain ⟨g, o⟩ := p
    obtain ⟨range, entry, source⟩ := State.matchResponse_some hm
    refine absurd ⟨g, o, ?_, entry, source⟩ none
    unfold inRange at range
    split at range
    · cases range
      rfl
    · cases range

theorem exec_farResponse {s : State} {kind : BitVec 6} {h : Header} {body : List Byte} (takes : FarTakes s body)
    (dst : nodeField h.dst = s.node) : exec (.farResponse kind h body) s =
      .next ((farTaken s).response { cls := .response, kind := kind, hdr := h, body := body }) := by
  refine congrArg Host.Outcome.next ((State.arriveFar_takes takes _).trans ?_)
  exact if_pos dst

theorem State.response_late {s : State} {f : Frame} (none : s.matchResponse f.hdr = Option.none) :
    s.response f = s.countLate.makeFault (lateFault f.hdr) := by
  rw [State.response, none]

theorem State.response_expired {s : State} {f : Frame} {g : BridgeTag} {o : OutEntry}
    (entry : s.matchResponse f.hdr = some (g, o)) (expired : o.phase = .expired) : s.response f = s.countLate.endExpired g := by
  rw [State.response, entry]
  dsimp only
  rw [expired]

/-! ## An EXPIRED entry goes -/

theorem Counters.late_of_butNotices {a b : Counters} (h : a.butNotices = b.butNotices) : a.late = b.late :=
  (congrArg Counters.late h :)

theorem Counters.farFrames_of_butNotices {a b : Counters} (h : a.butNotices = b.butNotices) : a.farFrames = b.farFrames :=
  (congrArg Counters.farFrames h :)

theorem State.setOut_get (s : State) (g i : BridgeTag) (o : Option OutEntry) :
    (s.setOut g o).outs[i] = if g = i then o else s.outs[i] := getElem_set_fin ..

theorem State.endExpired_butNotices (s : State) (g : BridgeTag) : (s.endExpired g).ctr.butNotices = s.ctr.butNotices :=
  (State.judgeDrain_butNotices _).trans (State.runArbiter_butNotices _)

theorem State.endExpired_idle {s : State} (nothing : s.readyExists = false) (calm : ∀ q, s.bridge ≠ .quiescing q)
    (g : BridgeTag) : s.endExpired g = s.setOut g none := by
  rw [State.endExpired, State.runArbiter_idle (by exact nothing), State.judgeDrain_idle (by exact calm)]

/-- What the end of an EXPIRED entry brings: READY heads leave, and the drain is judged (R73, R91, R132). -/
theorem State.endExpired_ends (s : State) (g : BridgeTag) : ∃ forwards quiesced,
    (s.endExpired g).far = { s.far with queue := s.far.queue ++ forwards ++ quiesced } ∧ AreForwards forwards ∧
      HeadsForwarded { s with outs := s.outs.set g none } s (s.endExpired g) forwards ∧
      AreNotices s quiesced (quiescedSaid s (s.endExpired g)) ∧ BridgeJudged s (s.endExpired g) ∧
      ReadyHeadsLeft s (s.endExpired g) ∧ FreeOrForwarded s (s.endExpired g) g ∧
      (∀ (i : BridgeTag) (x : OutEntry), i ≠ g → s.outs[i] = some x → (s.endExpired g).outs[i] = some x) ∧
      (s.endExpired g).log = s.log ∧ (s.endExpired g).cache = s.cache ∧ (s.endExpired g).misses = s.misses ∧
      (s.endExpired g).ctxs = s.ctxs := by
  obtain ⟨fs, gone, hrun⟩ := (s.setOut g none).runArbiter_forwards
  obtain ⟨quiesced, hfar, hsaid, hjudged⟩ := hrun.judged (State.runArbiter_bridge _)
  refine ⟨fs, quiesced, hfar, hrun.forwards, hrun.judged_headsForwarded (State.runArbiter_settled _), hsaid, hjudged,
    hrun.judged_readyHeadsLeft, hrun.judged_freeOrForwarded ?_, fun i x hi hx => hrun.judged_kept ?_, ?_, ?_, ?_, ?_⟩
  · exact (State.setOut_get ..).trans (if_pos rfl)
  · exact (State.setOut_get ..).trans ((if_neg (Ne.symm hi)).trans hx)
  · rw [State.endExpired, State.judgeDrain_log, State.runArbiter_log]
    rfl
  · rw [State.endExpired, State.judgeDrain_cache, State.runArbiter_cache]
    rfl
  · rw [State.endExpired, State.judgeDrain_misses, State.runArbiter_misses]
    rfl
  · rw [State.endExpired, State.judgeDrain_ctxs, State.runArbiter_ctxs]
    rfl

/-- Settles O21. -/
theorem lateResponses : Obligations.LateResponses := by
  unfold Obligations.LateResponses
  refine fun s kind h body takes dst => ⟨fun none => ?_, fun g o tag entry source expired => ?_⟩
  · rw [exec_farResponse takes dst, State.response_late (State.matchResponse_none (s := farTaken s) none)]
    rfl
  · have hmatch : (farTaken s).matchResponse h = some (g, o) := State.matchResponse_entry (s := farTaken s) tag entry source
    rw [exec_farResponse takes dst, State.response_expired hmatch expired]
    refine ⟨?_, fun nothing calm => ?_⟩
    · obtain ⟨forwards, quiesced, hfar, hforwards, hheads, hsaid, hjudged, hleft, hfree, hkept, hlog, hcache, hmisses, hctxs⟩ :=
        (farTaken s).countLate.endExpired_ends g
      have hctr := (farTaken s).countLate.endExpired_butNotices g
      have hrefusals := Counters.refusals_of_butNotices hctr
      have hlate := Counters.late_of_butNotices hctr
      have hframes := Counters.farFrames_of_butNotices hctr
      exact ⟨_, forwards, quiesced, rfl, hfar, hforwards, hheads, hsaid, hjudged, hleft, hfree, hkept, hlog, hrefusals, hlate,
        hframes, hcache, hmisses, hctxs⟩
    · rw [State.endExpired_idle (s := (farTaken s).countLate) nothing calm]
      rfl

end Sys2Proof.Machine
end

section
/-! PROOF. The end of an entry's part (O20, O22): what waits on it, in the order of R98. -/

namespace Sys2Proof.Machine

open Sys2Proof.Safety

/-! ## What the entry's end changes for those that wait on it -/

/-- An entry replaced by one that a test does not meet counts for it as one made FREE. -/
theorem anyEntry_replaced {p : OutEntry → Bool} {v : Vector (Option OutEntry) 128} {g : BridgeTag} {o : Option OutEntry}
    (fails : ∀ e, o = some e → p e = false) : anyEntry p (v.set g o) = anyEntry p (v.set g none) := by
  rw [Bool.eq_iff_iff, anyEntry_set, anyEntry_set]
  have hno : ¬∃ e, o = some e ∧ p e = true := by
    rintro ⟨e, he, hp⟩
    rw [fails e he] at hp
    cases hp
  have hnone : ¬∃ e : OutEntry, (none : Option OutEntry) = some e ∧ p e = true := nofun
  rw [or_iff_left hno, or_iff_left hnone]

theorem purgesDone_iff {s t u v : State} (hs : t.slots = s.slots) (hc : ∀ k, v.carriers k = 0 ↔ u.carriers k = 0) :
    purgesDone t v = purgesDone s u := by
  unfold purgesDone
  rw [hs]
  exact List.filterMap_congr fun k _ => if_congr (hc k) rfl rfl

/-- A context at the judgment of its close (R126). -/
def CtxRecord.judged (waits : Bool) (x : CtxRecord) : CtxRecord :=
  match x.state with
  | .closing _ => if waits then x else { x with state := .closed }
  | _ => x

theorem CtxRecord.judged_judged (waits : Bool) (x : CtxRecord) : (x.judged waits).judged waits = x.judged waits := by
  unfold CtxRecord.judged
  cases hx : x.state with
  | closing q => cases waits <;> simp [hx]
  | closed => simp [hx]
  | opened => simp [hx]

theorem State.completeClose_judged (s : State) (c d : Ctx) :
    (s.completeClose c).ctxs[d] = if c = d then s.ctxs[d].judged (s.ctxWaits d) else s.ctxs[d] := by
  rw [State.completeClose_ctxs_get]
  unfold CtxRecord.judged
  by_cases hcd : c = d
  · rw [if_pos hcd]
    cases s.ctxs[d].state with
    | closing q => cases s.ctxWaits d <;> simp [hcd]
    | closed => rfl
    | opened => rfl
  · rw [if_neg hcd]
    cases s.ctxs[d].state with
    | closing q => exact if_neg fun h => hcd h.1
    | closed => rfl
    | opened => rfl

/-- Every context is CLOSED that was CLOSING and for which nothing is WAITING (R126). -/
theorem State.completeCloses_judged (s : State) (d : Ctx) :
    s.completeCloses.ctxs[d] = s.ctxs[d].judged (s.ctxWaits d) := by
  have main (l : List Ctx) (s : State) : (l.foldl State.completeClose s).ctxs[d] =
      if d ∈ l then s.ctxs[d].judged (s.ctxWaits d) else s.ctxs[d] := by
    induction l generalizing s with
    | nil => rfl
    | cons c l ih =>
      rw [List.foldl_cons, ih, State.completeClose_waits, State.completeClose_judged]
      by_cases hcd : c = d
      · simp [hcd, CtxRecord.judged_judged]
      · simp [hcd, Ne.symm hcd]
  exact (main _ s).trans (if_pos (List.mem_finRange d))

/-! ## Forwards keep the slots judged, and idle fences idle -/

theorem carriers_without_head {s : State} {before behind : List ParkRecord} {r : ParkRecord}
    (split : s.park = before ++ r :: behind) (f : Frame) {k : SlotId} (h : s.carriers k = 0) :
    ({ s with park := before ++ behind }.sendFar f).carriers k = 0 := by
  rw [carriers_zero_iff] at h ⊢
  simp only [State.marked, split, parkMarked_remove, Bool.or_eq_false_iff] at h
  simp only [State.marked, State.sendFar_park, State.sendFar_outs, Bool.or_eq_false_iff]
  exact ⟨h.1.1, h.2⟩

/-- A forwarded READ or WRITE takes its marks with it. -/
theorem carriers_forwarded {s : State} {before behind : List ParkRecord} {r : ParkRecord} {x : Translation} {m : List SlotId}
    {g : BridgeTag} (split : s.park = before ++ r :: behind) (state : r.state = .ready x m) (free : s.freeTag = some g)
    (f : Frame) (k : SlotId) :
    ({ s with park := before ++ behind, outs := s.outs.set g (some (entryOf s r x m)) }.sendFar f).carriers k = 0 ↔
      s.carriers k = 0 := by
  rw [carriers_zero_iff, carriers_zero_iff]
  simp only [State.marked, State.sendFar_park, State.sendFar_outs, split, parkMarked_remove,
    anyEntry_take (State.freeTag_some free), ParkRecord.marks_of_ready state, OutEntry.carries, entryOf, newOutEntry,
    beq_self_eq_true, Bool.true_and]
  rw [Bool.or_right_comm, Bool.or_assoc]

theorem State.forwardHead_slotsJudged {base s u : State} (leaves : s.forwardHead = some u) (h : SlotsJudged base s) :
    SlotsJudged base u := by
  obtain ⟨before, r, x, m, behind, split, state, -, -, ⟨-, rfl⟩ | ⟨g, -, free, rfl⟩⟩ := State.forwardHead_cases leaves
  · have judged : SlotsJudged base ({ s with park := before ++ behind }.sendFar
        (requestFrame s.node r.kind r.mode r.len r.payload x 0)).completeSlots := by
      refine State.completeSlots_judged fun k carried => ?_
      rw [State.sendFar_slots]
      exact (h k).trans (if_neg fun hzero => carried (carriers_without_head split _ hzero))
    exact slotsJudged_same judged (State.endHold_slots ..) fun k => by
      rw [carriers_same (State.endHold_park ..) (State.endHold_outs ..)]
  · exact slotsJudged_same h (State.sendFar_slots ..) fun k => carriers_forwarded split state free _ k

theorem State.runArbiter_slotsJudged {base s : State} (h : SlotsJudged base s) : SlotsJudged base s.runArbiter :=
  s.runArbiter_induct (SlotsJudged base) (fun leaves => State.forwardHead_slotsJudged leaves) h

theorem State.runArbiter_fences_none {s : State} {a : Agent} (h : s.fences[a] = none) : s.runArbiter.fences[a] = none := by
  refine s.runArbiter_induct (fun u => u.fences[a] = none) (fun {t u} leaves ht => ?_) h
  obtain ⟨before, r, x, m, behind, -, -, -, -, ⟨-, rfl⟩ | ⟨g, -, -, rfl⟩⟩ := State.forwardHead_cases leaves
  · exact State.endHold_fences_none (by rw [State.completeSlots_fences, State.sendFar_fences]; exact ht) _ _
  · rw [State.sendFar_fences]
    exact ht

/-! ## The end of an entry's part -/

/-- `v` is `s` after an entry's answer and record, and with its place taken by `o'`: FREE, or EXPIRED without a hold. -/
structure EntryEnded (s v : State) (g : BridgeTag) (o' : Option OutEntry) (faults : List Frame) : Prop where
  outs : v.outs = s.outs.set g o'
  bare : ∀ e, o' = some e → e.phase = .expired ∧ e.held = false
  sends : FarSends s v faults
  park : v.park = s.park
  slots : v.slots = s.slots
  fences : v.fences = s.fences
  ctxs : v.ctxs = s.ctxs
  bridge : v.bridge = s.bridge
  node : v.node = s.node
  time : v.time = s.time
  up : v.near.up = s.near.up

section
variable {s v : State} {g : BridgeTag} {o' : Option OutEntry} {faults : List Frame} (h : EntryEnded s v g o' faults)
include h

theorem EntryEnded.marked (k : SlotId) : v.marked k = { s with outs := s.outs.set g none }.marked k := by
  unfold State.marked
  rw [h.outs, h.park, anyEntry_replaced fun e he => ?_]
  unfold OutEntry.carries
  rw [(h.bare e he).1]
  rfl

theorem EntryEnded.carriers (k : SlotId) : v.carriers k = 0 ↔ { s with outs := s.outs.set g none }.carriers k = 0 := by
  rw [carriers_zero_iff, carriers_zero_iff, h.marked]

theorem EntryEnded.ctxWaits (c : Ctx) : v.ctxWaits c = { s with outs := s.outs.set g none }.ctxWaits c := by
  rw [ctxWaits_eq, ctxWaits_eq, h.outs, anyEntry_replaced fun e he => ?_]
  rw [(h.bare e he).1]
  rfl

theorem EntryEnded.heldBy (a : Agent) : v.heldBy a = { s with outs := s.outs.set g none }.heldBy a := by
  rw [heldBy_eq, heldBy_eq, h.outs, h.park]
  unfold outsHold
  rw [anyEntry_replaced fun e he => ?_]
  rw [(h.bare e he).2]
  rfl

end

/-- The judgment of the fence that a hold's end brings: its DONE, if it was the last (R80). -/
theorem State.endHold_dones_last (s : State) (b : Bool) (a : Agent) :
    ∃ l, NearSends s (s.endHold b a) l ∧ (∀ f ∈ l, f.cls = .response ∧ f.kind = 2 ∧ f.body = []) ∧
      ∀ q : NearTag, s.fences[a] = some q → b = true → s.heldBy a = false →
        l = [nearResponse s.node a q 2 []] ∧ (s.endHold b a).fences[a] = none := by
  by_cases last : ∃ q : NearTag, s.fences[a] = some q ∧ b = true ∧ s.heldBy a = false
  · obtain ⟨q, pending, rfl, unheld⟩ := last
    refine ⟨[nearResponse s.node a q 2 []], ?_, fun f hf => by rw [List.mem_singleton.mp hf]; exact ⟨rfl, rfl, rfl⟩,
      fun q' pending' _ _ => ?_⟩
    · rw [show s.endHold true a = s.judgeFence a from rfl, State.judgeFence_done pending unheld]
      unfold NearSends
      cases s.near.up <;> rfl
    · rw [pending] at pending'
      cases pending'
      refine ⟨rfl, ?_⟩
      rw [show s.endHold true a = s.judgeFence a from rfl, State.judgeFence_done pending unheld]
      exact (getElem_set_fin ..).trans (if_pos rfl)
  · obtain ⟨l, hl, hdones⟩ := s.endHold_dones b a
    exact ⟨l, hl, hdones, fun q pending held unheld => absurd ⟨q, pending, held, unheld⟩ last⟩

/-- What follows the end of an entry's part sends nothing on the near port but DONEs, first that of the fence it alone held. -/
theorem EntryEnded.near {s v : State} {g : BridgeTag} {o' : Option OutEntry} {faults : List Frame}
    (h : EntryEnded s v g o' faults) (o : OutEntry) : ∃ near,
      (s.near.up = true → (v.afterEntry o).near = { v.near with queue := v.near.queue ++ near }) ∧
      (s.near.up = false → (v.afterEntry o).near = v.near ∧ near = []) ∧
      (∀ f ∈ near, f.cls = .response ∧ f.kind = 2 ∧ f.body = []) ∧
      ∀ q : NearTag, s.fences[o.agent] = some q → o.held = true →
        { s with outs := s.outs.set g none }.heldBy o.agent = false → s.near.up = true →
        near.head? = some (nearResponse s.node o.agent q 2 []) := by
  obtain ⟨l, hl, hfirst, hlast⟩ := v.completeSlots.endHold_dones_last o.held o.agent
  obtain ⟨fs, gone, hrun⟩ := (v.completeSlots.endHold o.held o.agent).completeCloses.runArbiter_forwards
  obtain ⟨k, hk, hmore⟩ := hrun.near
  have hnear : NearSends v (v.afterEntry o) (l ++ k) := by
    have hslots : NearSends v v.completeSlots [] := nearSends_nil (State.completeSlots_near v)
    have hcloses : NearSends (v.completeSlots.endHold o.held o.agent)
        (v.completeSlots.endHold o.held o.agent).completeCloses [] := nearSends_nil (State.completeCloses_near _)
    have hall := nearSends_trans (nearSends_trans (nearSends_trans hslots hl) hcloses) hk
    rw [List.nil_append, List.append_nil] at hall
    unfold NearSends at *
    rw [State.afterEntry, State.judgeDrain_near]
    exact hall
  unfold NearSends at hnear
  rw [h.up] at hnear
  cases up : s.near.up with
  | false =>
    rw [up, if_neg Bool.false_ne_true] at hnear
    exact ⟨[], nofun, fun _ => ⟨hnear, rfl⟩, nofun, nofun⟩
  | true =>
    rw [up, if_pos rfl] at hnear
    refine ⟨l ++ k, fun _ => hnear, nofun, fun f hf => (List.mem_append.mp hf).elim (hfirst f) (hmore f), ?_⟩
    intro q pending held last _
    have hheld : v.completeSlots.heldBy o.agent = false := by
      rw [heldBy_eq, State.completeSlots_park, State.completeSlots_outs, ← heldBy_eq, h.heldBy]
      exact last
    rw [(hlast q (by rw [State.completeSlots_fences, h.fences]; exact pending) held hheld).1, State.completeSlots_node, h.node]
    rfl

theorem EntryEnded.fenceEnds {s v : State} {g : BridgeTag} {o' : Option OutEntry} {faults : List Frame}
    (h : EntryEnded s v g o' faults) {o : OutEntry} {q : NearTag} (pending : s.fences[o.agent] = some q) (held : o.held = true)
    (last : { s with outs := s.outs.set g none }.heldBy o.agent = false) :
    (v.completeSlots.endHold o.held o.agent).fences[o.agent] = none := by
  obtain ⟨l, -, -, hlast⟩ := v.completeSlots.endHold_dones_last o.held o.agent
  have hheld : v.completeSlots.heldBy o.agent = false := by
    rw [heldBy_eq, State.completeSlots_park, State.completeSlots_outs, ← heldBy_eq, h.heldBy]
    exact last
  exact (hlast q (by rw [State.completeSlots_fences, h.fences]; exact pending) held hheld).2

/-- What follows the end of an entry's part (R98, R109, R126, R132). -/
theorem EntryEnded.partEnds {s v : State} {g : BridgeTag} {o' : Option OutEntry} {faults : List Frame}
    (h : EntryEnded s v g o' faults) (o : OutEntry) : ∃ near far,
      (v.afterEntry o).far = { s.far with queue := s.far.queue ++ faults ++ far } ∧
      (s.near.up = true → (v.afterEntry o).near = { v.near with queue := v.near.queue ++ near }) ∧
      (s.near.up = false → (v.afterEntry o).near = v.near ∧ near = []) ∧
      PartEnds s { s with outs := s.outs.set g none } (v.afterEntry o) o near far ∧
      (∀ (i : BridgeTag) (x : OutEntry), v.outs[i] = some x → (v.afterEntry o).outs[i] = some x) ∧
      (v.outs[g] = none → FreeOrForwarded s (v.afterEntry o) g) := by
  obtain ⟨u, hu⟩ : ∃ u : State, u = { s with outs := s.outs.set g none } := ⟨_, rfl⟩
  obtain ⟨w, hw⟩ : ∃ w, w = v.completeSlots.endHold o.held o.agent := ⟨_, rfl⟩
  obtain ⟨purges, hpurges, hpurgesSaid⟩ := notifies_after h.sends v.completeSlots_notifies
  have hw_far : FarSends s w (faults ++ purges) := by
    rw [hw]
    unfold FarSends
    rw [State.endHold_far, State.endHold_chan]
    exact hpurges
  obtain ⟨closes, hcloses, hclosesSaid⟩ := notifies_after hw_far w.completeCloses_notifies
  obtain ⟨forwards, gone, hrun⟩ := w.completeCloses.runArbiter_forwards
  have hbridge : w.completeCloses.runArbiter.bridge = s.bridge := by rw [hw]; simp [h.bridge]
  obtain ⟨⟨quiesced, hquiesced, hquiescedSaid⟩, hjudged⟩ := judgeDrain_after (farSends_trans hcloses hrun.sends) hbridge
  have hafter : v.afterEntry o = w.completeCloses.runArbiter.judgeDrain := by rw [hw]; rfl
  have hpark : w.completeCloses.park = s.park := by rw [hw]; simp [h.park]
  have houts : w.completeCloses.outs = v.outs := by rw [hw]; simp
  have hctxs : w.ctxs = s.ctxs := by rw [hw]; simp [h.ctxs]
  have hwaits (c : Ctx) : w.ctxWaits c = u.ctxWaits c := by
    rw [hu, ← h.ctxWaits]
    exact ctxWaits_same (by rw [hw]; simp) c
  obtain ⟨near, hnearUp, hnearDown, hdones, hlast⟩ := h.near o
  refine ⟨near, purges ++ closes ++ forwards ++ quiesced, ?_, hnearUp, hnearDown, ⟨⟨purges, closes, forwards, quiesced, rfl, ?_,
    ?_, hrun.forwards, ?_⟩, ?_, fun c => ?_, ?_, ?_, hdones, fun q pending held last => ?_⟩, fun i x hx => ?_,
    fun free x hx => ?_⟩
  · rw [hafter, hquiesced.1]
    simp only [List.append_assoc]
  · rw [purgesDone_iff h.slots h.carriers] at hpurgesSaid
    exact hpurgesSaid
  · rw [closesDone_same hctxs hwaits, hu] at hclosesSaid
    exact hclosesSaid
  · rw [hafter]
    exact hquiescedSaid
  · have judged : SlotsJudged s v.completeSlots := State.completeSlots_judged fun k _ => by rw [h.slots]
    have judged : SlotsJudged s w.completeCloses :=
      slotsJudged_same judged (by rw [hw]; simp) fun k => by rw [carriers_same (t := w.completeCloses) (s := v.completeSlots)
        (by rw [hw]; simp) (by rw [hw]; simp)]
    have judged := State.runArbiter_slotsJudged judged
    rw [hafter]
    exact slotsJudged_same judged (State.judgeDrain_slots _) fun k => by
      rw [carriers_same (State.judgeDrain_park _) (State.judgeDrain_outs _)]
  · rw [hafter, State.judgeDrain_ctxs, State.runArbiter_ctxs, State.completeCloses_judged, hctxs, hwaits, hu]
    rfl
  · rw [hafter]
    exact hjudged
  · have hleft := hrun.judged_readyHeadsLeft
    unfold ReadyHeadsLeft at *
    rwa [hpark, ← hafter] at hleft
  · have hend := h.fenceEnds pending held last
    refine ⟨?_, fun up => ?_⟩
    · rw [hafter, State.judgeDrain_fences]
      refine State.runArbiter_fences_none ?_
      rw [State.completeCloses_fences, hw]
      exact hend
    · exact hlast q pending held last up
  · rw [hafter]
    exact hrun.judged_kept (by rw [houts]; exact hx)
  · rw [hafter] at hx
    have := hrun.judged_freeOrForwarded (g := g) (by rw [houts]; exact free) x hx
    have htime : w.completeCloses.time = s.time := by rw [hw]; simp [h.time]
    rw [hpark, htime] at this
    exact this

end Sys2Proof.Machine
end

section
/-! PROOF. An entry's response and its deadlines (O20, O22). -/

namespace Sys2Proof.Machine

open Sys2Proof.Safety

/-! ## The entry's own answer -/

theorem State.answerEntry_sends (s : State) (o : OutEntry) (a : Answer) : NearSends s (s.answerEntry o a)
    (if o.orphan then [] else [nearResponse s.node o.agent o.tag a.kind a.body]) := by
  unfold State.answerEntry
  cases o.orphan with
  | true => exact nearSends_nil rfl
  | false => exact s.answer_nearSends o.agent o.tag a

theorem State.answerEntry_refusals (s : State) (o : OutEntry) (a : Answer) : (s.answerEntry o a).ctr.refusals =
    s.ctr.refusals + if o.orphan = false ∧ a.kind = 3 then 1 else 0 := by
  unfold State.answerEntry
  cases o.orphan with
  | true => simp
  | false =>
    have hctr : (s.answer o.agent o.tag a).ctr = (s.countAnswer a).ctr := State.sendNear_ctr ..
    rw [if_neg Bool.false_ne_true, hctr]
    cases a with
    | refuse x d => rfl
    | data p => exact (BitVec.add_zero _).symm
    | done => exact (BitVec.add_zero _).symm

theorem State.answerEntry_orphan (s : State) {o : OutEntry} (orphan : o.orphan = true) (a : Answer) : s.answerEntry o a = s :=
  if_pos orphan

theorem State.afterEntry_butNotices (s : State) (o : OutEntry) : (s.afterEntry o).ctr.butNotices = s.ctr.butNotices := by
  rw [State.afterEntry, State.judgeDrain_butNotices, State.runArbiter_butNotices, State.completeCloses_butNotices,
    State.endHold_ctr, State.completeSlots_butNotices]

section
variable (s : State) (o : OutEntry)

theorem State.afterEntry_cache : (s.afterEntry o).cache = s.cache := by simp [State.afterEntry]

theorem State.afterEntry_params : (s.afterEntry o).chan.params = s.chan.params := by simp [State.afterEntry]

theorem State.afterEntry_expected : (s.afterEntry o).chan.expected = s.chan.expected := by simp [State.afterEntry]

end

theorem nothingWaits_of {s t : State} (h : NothingWaits s) (hp : t.park = s.park) (hs : t.slots = s.slots)
    (hf : t.fences = s.fences) (hc : t.ctxs = s.ctxs) (hb : t.bridge = s.bridge) : NothingWaits t := by
  unfold NothingWaits State.readyExists at *
  rw [hp, hs, hf, hc, hb]
  exact h

/-! ## The entry replaced, before what waits on it -/

/-- The state at the end of an entry's part: the near answer, the record if one is made, and the entry FREE or EXPIRED. -/
def State.entryOver (s : State) (g : BridgeTag) (o : OutEntry) (a : Answer) (w : Option FaultBody) (o' : Option OutEntry) :
    State := ((s.answerEntry o a).makeFaultIf w).setOut g o'

theorem State.makeFaultIf_notifies (s : State) (w : Option FaultBody) :
    Notifies s (s.makeFaultIf w) (w.elim [] (faultSaid s)) := by
  cases w with
  | none => exact notifies_nil rfl rfl
  | some w => exact s.makeFault_notifies w

section
variable (s : State) (g : BridgeTag) (o : OutEntry) (a : Answer) (w : Option FaultBody) (o' : Option OutEntry)

theorem State.entryOver_outs : (s.entryOver g o a w o').outs = s.outs.set g o' := by simp [State.entryOver]

theorem State.entryOver_near : (s.entryOver g o a w o').near = (s.answerEntry o a).near := by simp [State.entryOver]

theorem State.entryOver_cache : (s.entryOver g o a w o').cache = s.cache := by simp [State.entryOver]

theorem State.entryOver_misses : (s.entryOver g o a w o').misses = s.misses := by simp [State.entryOver]

theorem State.entryOver_log : (s.entryOver g o a w o').log = w.elim s.log (s.log.append s.time) := by
  cases w with
  | none => simp [State.entryOver, State.makeFaultIf]
  | some w => simp [State.entryOver, State.makeFaultIf]

theorem State.entryOver_params : (s.entryOver g o a w o').chan.params = s.chan.params := by simp [State.entryOver]

theorem State.entryOver_expected : (s.entryOver g o a w o').chan.expected = s.chan.expected := by simp [State.entryOver]

theorem State.makeFaultIf_butNotices (s : State) (w : Option FaultBody) :
    (s.makeFaultIf w).ctr.butNotices = s.ctr.butNotices := by
  cases w with
  | none => rfl
  | some w => exact s.makeFault_butNotices w

theorem State.entryOver_refusals : (s.entryOver g o a w o').ctr.refusals =
    s.ctr.refusals + if o.orphan = false ∧ a.kind = 3 then 1 else 0 := by
  rw [← State.answerEntry_refusals]
  exact Counters.refusals_of_butNotices (State.makeFaultIf_butNotices (s.answerEntry o a) w)

/-- With nothing waiting on it, the entry's end is just this. -/
theorem State.entryOver_idle (nothing : NothingWaits s) : (s.entryOver g o a w o').afterEntry o = s.entryOver g o a w o' := by
  refine State.afterEntry_idle (nothingWaits_of nothing ?_ ?_ ?_ ?_ ?_) o
  all_goals simp [State.entryOver]

theorem State.entryOver_ended (bare : ∀ e, o' = some e → e.phase = .expired ∧ e.held = false) : ∃ faults,
    EntryEnded s (s.entryOver g o a w o') g o' faults ∧ AreNotices s faults (w.elim [] (faultSaid s)) := by
  obtain ⟨faults, hsends, hsaid⟩ := (s.answerEntry o a).makeFaultIf_notifies w
  have hsaid := areNotices_at (s := s) (by rw [State.answerEntry_far]) (by rw [State.answerEntry_chan]) hsaid
  have hfault : faultSaid (s.answerEntry o a) = faultSaid s :=
    funext (faultSaid_same (by rw [State.answerEntry_chan]) (by rw [State.answerEntry_log]) (by rw [State.answerEntry_time]))
  rw [hfault] at hsaid
  unfold FarSends at hsends
  rw [State.answerEntry_far, State.answerEntry_chan] at hsends
  refine ⟨faults, ⟨State.entryOver_outs .., bare, hsends, ?_, ?_, ?_, ?_, ?_, ?_, ?_, ?_⟩, hsaid⟩
  all_goals simp [State.entryOver]

/-- The end of an entry's part, with what waits on it: the outputs and the rest. -/
theorem State.entryOver_ends (bare : ∀ e, o' = some e → e.phase = .expired ∧ e.held = false) : ∃ near far faults,
    (s.near.up = true → ((s.entryOver g o a w o').afterEntry o).near = { s.near with
      queue := s.near.queue ++ (if o.orphan then [] else [nearResponse s.node o.agent o.tag a.kind a.body]) ++ near }) ∧
    (s.near.up = false → ((s.entryOver g o a w o').afterEntry o).near = s.near ∧ near = []) ∧
    ((s.entryOver g o a w o').afterEntry o).far = { s.far with queue := s.far.queue ++ faults ++ far } ∧
    PartEnds s { s with outs := s.outs.set g none } ((s.entryOver g o a w o').afterEntry o) o near far ∧
    AreNotices s faults (w.elim [] (faultSaid s)) ∧
    (∀ x, o' = some x → ((s.entryOver g o a w o').afterEntry o).outs[g] = some x) ∧
    (o' = none → FreeOrForwarded s ((s.entryOver g o a w o').afterEntry o) g) ∧
    (∀ (i : BridgeTag) (x : OutEntry), i ≠ g → s.outs[i] = some x →
      ((s.entryOver g o a w o').afterEntry o).outs[i] = some x) := by
  obtain ⟨faults, hended, hsaid⟩ := s.entryOver_ended g o a w o' bare
  obtain ⟨near, far, hfar, hup, hdown, hends, hkept, hfree⟩ := hended.partEnds o
  have hanswer := s.answerEntry_sends o a
  unfold NearSends at hanswer
  rw [State.entryOver_near] at hup hdown
  rw [State.entryOver_outs] at hkept hfree
  have hget (i : BridgeTag) : (s.outs.set g o')[i] = if g = i then o' else s.outs[i] := getElem_set_fin ..
  refine ⟨near, far, faults, fun up => ?_, fun down => ?_, hfar, hends, hsaid, fun x hx => hkept g x ?_, fun hx => hfree ?_,
    fun i x hi hx => hkept i x ?_⟩
  · rw [hup up, hanswer, if_pos up]
  · obtain ⟨hnear, hnone⟩ := hdown down
    exact ⟨hnear.trans (hanswer.trans (if_neg (by rw [down]; decide))), hnone⟩
  · exact (hget g).trans ((if_pos rfl).trans hx)
  · exact (hget g).trans ((if_pos rfl).trans hx)
  · exact (hget i).trans ((if_neg (Ne.symm hi)).trans hx)

end

/-! ## The deadlines -/

theorem exec_responseTimeout {s : State} {g : BridgeTag} {o : OutEntry} (entry : s.outs[g] = some o)
    (due : reached o.deadline s.time = true) (waiting : o.phase = .waiting) : exec (.responseTimeout g) s =
      .next ((s.entryOver g o (.refuse .responseTimeout 0) (some (outFault .responseTimeout o (byteOf g.val)))
        (some o.timedOut)).afterEntry o) := by
  show execResponseTimeout g s = _
  unfold execResponseTimeout
  rw [entry]
  exact if_pos ⟨waiting, due⟩

theorem exec_secondDeadline {s : State} {g : BridgeTag} {o : OutEntry} (entry : s.outs[g] = some o)
    (due : reached o.deadline s.time = true) (expired : o.phase = .expired) :
    exec (.secondDeadline g) s = .next (s.endExpired g) := by
  show execSecondDeadline g s = _
  unfold execSecondDeadline
  rw [entry]
  exact if_pos ⟨expired, due⟩

theorem exec_deadline_early {s : State} {g : BridgeTag} {o : OutEntry} (entry : s.outs[g] = some o)
    (early : reached o.deadline s.time = false) :
    exec (.responseTimeout g) s = .next s ∧ exec (.secondDeadline g) s = .next s := by
  have hno (p : Prop) : ¬(p ∧ reached o.deadline s.time = true) := by
    rintro ⟨-, due⟩
    rw [early] at due
    cases due
  constructor
  · show execResponseTimeout g s = _
    unfold execResponseTimeout
    rw [entry]
    exact if_neg (hno _)
  · show execSecondDeadline g s = _
    unfold execSecondDeadline
    rw [entry]
    exact if_neg (hno _)

/-- Settles O22. -/
theorem entryDeadlines : Obligations.EntryDeadlines := by
  unfold Obligations.EntryDeadlines
  refine fun s g o entry => ⟨exec_deadline_early entry, fun due waiting => ⟨?_, fun up nothing => ?_⟩,
    fun due expired => ⟨?_, fun nothing calm => ?_⟩⟩
  · have bare : ∀ e, some o.timedOut = some e → e.phase = .expired ∧ e.held = false := by
      intro e he
      cases he
      exact ⟨rfl, rfl⟩
    obtain ⟨near, far, faults, hup, hdown, hfar, hends, hsaid, hentry, -, hkept⟩ := s.entryOver_ends g o
      (.refuse .responseTimeout 0) (some (outFault .responseTimeout o (byteOf g.val))) (some o.timedOut) bare
    refine ⟨_, near, far, faults, _, exec_responseTimeout entry due waiting, rfl, hentry _ rfl, hup, hdown, hfar, hends, ?_,
      hsaid, hkept, ?_, ?_, ?_, ?_⟩
    · rw [State.afterEntry_log, State.entryOver_log]
      rfl
    · rw [Counters.refusals_of_butNotices (State.afterEntry_butNotices ..), State.entryOver_refusals]
      cases o.orphan <;> rfl
    · rw [State.afterEntry_cache, State.entryOver_cache]
    · rw [State.afterEntry_misses, State.entryOver_misses]
    · rw [State.afterEntry_params, State.entryOver_params]
  · rw [exec_responseTimeout entry due waiting, State.entryOver_idle _ _ _ _ _ _ nothing]
    have hanswer : s.answerEntry o (.refuse .responseTimeout 0) =
        if o.orphan then s else refuseNear s .read o.agent o.tag 5 0 := by
      unfold State.answerEntry
      rw [State.answer_refuse_up up]
      rfl
    rw [State.entryOver, State.setOut, State.makeFaultIf_outs, State.answerEntry_outs, hanswer]
    rfl
  · obtain ⟨forwards, quiesced, hfar, hforwards, -, hsaid, hjudged, hleft, hfree, hkept, hlog, hcache, hmisses, -⟩ :=
      s.endExpired_ends g
    have hctr := s.endExpired_butNotices g
    exact ⟨_, forwards, quiesced, exec_secondDeadline entry due expired, hfar, hforwards, hsaid, hjudged, hleft, hfree, hkept,
      hlog, Counters.refusals_of_butNotices hctr, Counters.late_of_butNotices hctr, hcache, hmisses⟩
  · rw [exec_secondDeadline entry due expired, State.endExpired_idle nothing calm]
    rfl

/-! ## The response -/

theorem areNotices_none {s : State} {fs : List Frame} (h : AreNotices s fs []) : fs = [] := by
  unfold AreNotices at h
  split at h
  · exact List.map_eq_nil_iff.mp h
  · exact List.map_eq_nil_iff.mp h

theorem exec_response_taken {s : State} {kind : BitVec 6} {h : Header} {body : List Byte} {g : BridgeTag} {o : OutEntry}
    (takes : FarTakes s body) (dst : nodeField h.dst = s.node) (tag : h.tag = byteOf g.val) (entry : s.outs[g] = some o)
    (waiting : o.phase = .waiting) (source : nodeField h.src = o.node) : exec (.farResponse kind h body) s =
      .next (((farTaken s).entryOver g o (judgeResponse o.kind o.len kind body).answer
        ((judgeResponse o.kind o.len kind body).error.map (outFault .targetError o)) none).afterEntry o) := by
  have htag : h.tag.toNat = g.val := by
    rw [tag]
    exact Nat.mod_eq_of_lt (Nat.lt_trans g.isLt (by decide))
  have hmatch : (farTaken s).matchResponse h = some (g, o) := State.matchResponse_entry (s := farTaken s) htag entry source
  rw [exec_farResponse takes dst, State.response, hmatch]
  dsimp only
  rw [waiting]
  rfl

theorem State.entryOver_answered {s : State} {g : BridgeTag} {o : OutEntry} {a : Answer} (up : s.near.up = true)
    (live : o.orphan = false) : s.entryOver g o a none none =
      { onNear s [nearResponse s.node o.agent o.tag a.kind a.body] with
        outs := s.outs.set g none
        ctr := { s.ctr with refusals := s.ctr.refusals + (if a.kind = 3 then 1 else 0) } } := by
  have hanswer : s.answerEntry o a = s.answer o.agent o.tag a := if_neg (by rw [live]; decide)
  have hctr (t : State) : t = { t with ctr := { t.ctr with refusals := t.ctr.refusals + 0 } } := by
    have hzero : t.ctr.refusals + 0 = t.ctr.refusals := BitVec.add_zero _
    rw [hzero]
  rw [State.entryOver, hanswer]
  cases a with
  | refuse x d =>
    rw [State.answer_refuse_up up]
    rfl
  | data p =>
    rw [State.answer_data_up up]
    exact hctr _
  | done =>
    rw [State.answer_done_up up]
    exact hctr _

theorem State.entryOver_orphan {s : State} {g : BridgeTag} {o : OutEntry} (orphan : o.orphan = true) (a : Answer)
    (w : Option FaultBody) : s.entryOver g o a w none = { s.makeFaultIf w with outs := s.outs.set g none } := by
  rw [State.entryOver, State.answerEntry_orphan s orphan, State.setOut, State.makeFaultIf_outs]

/-- Settles O20. -/
theorem responseTaken : Obligations.ResponseTaken := by
  unfold Obligations.ResponseTaken
  intro s kind h body g o takes dst tag entry waiting source
  rw [exec_response_taken takes dst tag entry waiting source]
  obtain ⟨j, hj⟩ : ∃ j, j = judgeResponse o.kind o.len kind body := ⟨_, rfl⟩
  rw [← hj]
  refine ⟨?_, fun up nothing sound live => ?_, fun nothing orphan => ?_⟩
  · obtain ⟨near, far, faults, hup, hdown, hfar, hends, hsaid, -, hfree, hkept⟩ := (farTaken s).entryOver_ends g o j.answer
      (j.error.map (outFault .targetError o)) none nofun
    refine ⟨_, near, far, faults, rfl, hup, hdown, hfar, hends, ?_, hfree rfl, hkept, ?_, ?_, ?_, ?_, ?_⟩
    · rw [State.afterEntry_log, State.entryOver_log]
      cases he : j.error with
      | none =>
        rw [he] at hsaid
        exact ⟨rfl, areNotices_none hsaid⟩
      | some d =>
        intro w hw
        rw [he] at hsaid
        rw [hw]
        exact ⟨rfl, hsaid⟩
    · rw [Counters.refusals_of_butNotices (State.afterEntry_butNotices ..), State.entryOver_refusals]
      rfl
    · rw [State.afterEntry_cache, State.entryOver_cache]
      rfl
    · rw [State.afterEntry_misses, State.entryOver_misses]
      rfl
    · rw [State.afterEntry_params, State.entryOver_params]
      rfl
    · rw [State.afterEntry_expected, State.entryOver_expected]
      rfl
  · rw [sound]
    exact congrArg Host.Outcome.next ((State.entryOver_idle (farTaken s) _ _ _ _ _ nothing).trans
      (State.entryOver_answered (s := farTaken s) up live))
  · refine congrArg Host.Outcome.next ((State.entryOver_idle (farTaken s) _ _ _ _ _ nothing).trans
      ((State.entryOver_orphan (s := farTaken s) orphan _ _).trans ?_))
    cases j.error <;> rfl

end Sys2Proof.Machine
end

section
/-! PROOF. The loss of the far link (O7): the READY records and every entry go, refused LINK. -/

namespace Sys2Proof.Machine

open Sys2Proof.Safety

/-! ## Entries cleared in ascending bridge tag -/

/-- The live entry under a bridge tag. -/
def State.liveAt (s : State) (g : BridgeTag) : Option OutEntry := s.outs[g].filter OutEntry.live

theorem State.liveAt_some {s : State} {g : BridgeTag} {o : OutEntry} :
    s.liveAt g = some o ↔ s.outs[g] = some o ∧ o.live = true := by
  rw [State.liveAt, Option.filter_eq_some_iff]

theorem liveAt_list (s : State) : (List.finRange 128).filterMap s.liveAt =
    (s.outs.toList.filterMap id).filter fun o => o.phase == .waiting && !o.orphan := by
  have htable : s.outs.toList.filterMap (fun o => o.filter OutEntry.live) = (List.finRange 128).filterMap s.liveAt := by
    rw [Vector_toList_finRange, List.filterMap_map]
    rfl
  rw [← htable, entries_filter]
  rfl

/-- A refused entry's part in the loss of the far link. -/
def refusedEntry (node : NodeId) (o : OutEntry) : Leaving :=
  { agent := o.agent, held := o.held, frames := [nearResponse node o.agent o.tag 3 [11, 0]] }

theorem State.clearEntry_live {s : State} {g : BridgeTag} {o : OutEntry} (h : s.liveAt g = some o) :
    s.clearEntry g = ((s.setOut g none).answer o.agent o.tag (.refuse .link 0)).endHold o.held o.agent := by
  obtain ⟨entry, live⟩ := State.liveAt_some.mp h
  unfold State.clearEntry
  rw [entry]
  exact if_pos live

/-- A FREE place, an EXPIRED entry and an orphan go without a trace. -/
theorem State.clearEntry_silent {s : State} {g : BridgeTag} (h : s.liveAt g = none) :
    (s.clearEntry g).near = s.near ∧ (s.clearEntry g).fences = s.fences ∧ (s.clearEntry g).ctr = s.ctr := by
  unfold State.clearEntry
  split
  · exact ⟨rfl, rfl, rfl⟩
  · next o entry =>
    split
    · next live =>
      rw [State.liveAt_some.mpr ⟨entry, live⟩] at h
      cases h
    · exact ⟨rfl, rfl, rfl⟩

theorem State.clearEntry_node (s : State) (g : BridgeTag) : (s.clearEntry g).node = s.node :=
  (congrArg State.node (s.clearEntry_frame g) :)

theorem State.clearEntry_park (s : State) (g : BridgeTag) : (s.clearEntry g).park = s.park :=
  (congrArg State.park (s.clearEntry_frame g) :)

theorem State.clearEntry_liveAt (s : State) {g : BridgeTag} {l : List BridgeTag} (fresh : g ∉ l) :
    l.filterMap (s.clearEntry g).liveAt = l.filterMap s.liveAt := by
  refine List.filterMap_congr fun j hj => ?_
  unfold State.liveAt
  rw [State.clearEntry_outs, if_neg]
  rintro rfl
  exact fresh hj

/-- What the loss of the far link refuses, whatever the fences hold: frames and count. -/
theorem clearFrom_refusals (l : List BridgeTag) (nodup : l.Nodup) (s : State) :
    (∃ near, NearSends s (l.foldl State.clearEntry s) near ∧ near.filter (fun f => f.kind == 3) =
      (l.filterMap s.liveAt).map fun o => nearResponse s.node o.agent o.tag 3 [11, 0]) ∧
    (l.foldl State.clearEntry s).ctr =
      { s.ctr with refusals := s.ctr.refusals + BitVec.ofNat 32 (l.filterMap s.liveAt).length } := by
  induction l generalizing s with
  | nil =>
    refine ⟨⟨[], nearSends_nil rfl, rfl⟩, ?_⟩
    simp
  | cons g l ih =>
    obtain ⟨fresh, nodup⟩ := List.nodup_cons.mp nodup
    obtain ⟨⟨near, hnear, hrefusals⟩, hctr⟩ := ih nodup (s.clearEntry g)
    rw [State.clearEntry_liveAt s fresh] at hrefusals hctr
    rw [State.clearEntry_node] at hrefusals
    rw [List.foldl_cons]
    cases hl : s.liveAt g with
    | none =>
      obtain ⟨hn, -, hc⟩ := State.clearEntry_silent hl
      rw [List.filterMap_cons_none hl, hctr, hc]
      exact ⟨⟨near, nearSends_trans (nearSends_nil hn) hnear, hrefusals⟩, rfl⟩
    | some o =>
      have hclear := State.clearEntry_live hl
      obtain ⟨dones, hdones, hkinds⟩ := ((s.setOut g none).answer o.agent o.tag (.refuse .link 0)).endHold_dones o.held o.agent
      rw [← hclear] at hdones
      have hanswer := (s.setOut g none).answer_nearSends o.agent o.tag (.refuse .link 0)
      have hfirst : NearSends s ((s.setOut g none).answer o.agent o.tag (.refuse .link 0))
        [nearResponse s.node o.agent o.tag 3 [11, 0]] := hanswer
      have hnone : dones.filter (fun f => f.kind == 3) = [] :=
        List.filter_eq_nil_iff.mpr fun f hf => by rw [(hkinds f hf).2.1]; decide
      have hc : (s.clearEntry g).ctr = { s.ctr with refusals := s.ctr.refusals + 1 } := by
        rw [hclear, State.endHold_ctr]
        exact State.sendNear_ctr ..
      rw [List.filterMap_cons_some hl, hctr, hc]
      refine ⟨⟨_, nearSends_trans (nearSends_trans hfirst hdones) hnear, ?_⟩, ?_⟩
      · rw [List.filter_append, List.filter_append, hnone, hrefusals]
        rfl
      · rw [List.length_cons, Nat.add_comm, BitVec.ofNat_add, ← BitVec.add_assoc]
        rfl

/-- Where only live entries of the list hold a fence, what the table holds is what the list's refused entries hold. -/
theorem outsHold_list {s : State} {l : List BridgeTag}
    (live : ∀ (g : BridgeTag) (o : OutEntry), s.outs[g] = some o → o.held = true → o.live = true)
    (within : ∀ (g : BridgeTag) (o : OutEntry), s.outs[g] = some o → g ∈ l) (node : NodeId) (a : Agent) :
    outsHold s.outs a = ((l.filterMap s.liveAt).map (refusedEntry node)).any fun y => y.held && y.agent == a := by
  rw [Bool.eq_iff_iff, List.any_map, List.any_filterMap, outsHold, anyEntry_iff, List.any_eq_true]
  constructor
  · rintro ⟨g, o, ho, hheld⟩
    have hh := (Bool.and_eq_true_iff.mp hheld).1
    refine ⟨g, within g o ho, ?_⟩
    rw [State.liveAt_some.mpr ⟨ho, live g o ho hh⟩]
    exact hheld
  · rintro ⟨g, -, hg⟩
    cases hl : s.liveAt g with
    | none =>
      rw [hl] at hg
      cases hg
    | some o =>
      rw [hl] at hg
      exact ⟨g, o, (State.liveAt_some.mp hl).1, hg⟩

/-- The entries cleared, where only live ones of the list hold a fence (R80, R95). -/
theorem clearFrom_leaves (l : List BridgeTag) (nodup : l.Nodup) (s : State) {stays : Agent → Bool}
    (hstays : ∀ a, stays a = parkHolds s.park a)
    (live : ∀ (g : BridgeTag) (o : OutEntry), s.outs[g] = some o → o.held = true → o.live = true)
    (within : ∀ (g : BridgeTag) (o : OutEntry), s.outs[g] = some o → g ∈ l) :
    Leaves s (l.foldl State.clearEntry s) stays ((l.filterMap s.liveAt).map (refusedEntry s.node)) := by
  induction l generalizing s with
  | nil => exact leaves_nil rfl rfl stays
  | cons g l ih =>
    obtain ⟨fresh, nodup⟩ := List.nodup_cons.mp nodup
    have hget {j : BridgeTag} {o : OutEntry} (ho : (s.clearEntry g).outs[j] = some o) : g ≠ j ∧ s.outs[j] = some o := by
      rw [State.clearEntry_outs] at ho
      split at ho
      · cases ho
      · next hne => exact ⟨hne, ho⟩
    have hlive (j : BridgeTag) (o : OutEntry) (ho : (s.clearEntry g).outs[j] = some o) : o.held = true → o.live = true :=
      live j o (hget ho).2
    have hwithin (j : BridgeTag) (o : OutEntry) (ho : (s.clearEntry g).outs[j] = some o) : j ∈ l :=
      (List.mem_cons.mp (within j o (hget ho).2)).resolve_left fun h => (hget ho).1 h.symm
    have hlater := ih nodup (s.clearEntry g) (by rw [State.clearEntry_park]; exact hstays) hlive hwithin
    rw [State.clearEntry_liveAt s fresh, State.clearEntry_node] at hlater
    rw [List.foldl_cons]
    cases hl : s.liveAt g with
    | none =>
      obtain ⟨hn, hf, -⟩ := State.clearEntry_silent hl
      rw [List.filterMap_cons_none hl, ← List.nil_append (List.map _ _)]
      exact leaves_append (State.clearEntry_node ..) (leaves_nil hn hf _) hlater
    | some o =>
      rw [List.filterMap_cons_some hl, List.map_cons, ← List.singleton_append]
      have hclear := State.clearEntry_live hl
      have hanswer := (s.setOut g none).answer_nearSends o.agent o.tag (.refuse .link 0)
      have houts : (s.clearEntry g).outs = ((s.setOut g none).answer o.agent o.tag (.refuse .link 0)).outs := by
        rw [hclear, State.endHold_outs]
      have hone : Leaves s (((s.setOut g none).answer o.agent o.tag (.refuse .link 0)).endHold o.held o.agent)
          (alsoHeld stays ((l.filterMap s.liveAt).map (refusedEntry s.node))) [refusedEntry s.node o] := by
        refine leaves_one (x := refusedEntry s.node o) hanswer (State.answer_fences ..) (State.answer_node ..) ?_
        rw [heldBy_eq, alsoHeld, hstays, ← houts, outsHold_list hlive hwithin s.node, State.clearEntry_liveAt s fresh,
          State.answer_park]
        rfl
      rw [← hclear] at hone
      exact leaves_append (State.clearEntry_node ..) hone hlater

/-- Parts that end from a state of the same near port, fences and node. -/
theorem leaves_from {s t u : State} {stays : Agent → Bool} {l : List Leaving} (near : t.near = s.near)
    (fences : t.fences = s.fences) (node : t.node = s.node) (h : Leaves t u stays l) : Leaves s u stays l :=
  leaves_append (l := []) node (leaves_nil near fences _) h

/-! ## Far link down -/

theorem State.judgeDrain_down {s : State} (down : s.far.up = false) : s.judgeDrain = { s with bridge := s.judgeDrain.bridge } := by
  unfold State.judgeDrain
  split
  · next q _ =>
    by_cases drained : s.drained = true
    · rw [if_pos drained, State.notice_unsent (.inl (by exact down))]
    · rw [if_neg drained]
  · rfl

/-- The blocks at the loss of the far link: READY records and entries refused and gone (R58, R95). -/
def State.farLost (s : State) : State :=
  ({ s with far := s.far.lost }.sweep (refuseFate ParkRecord.isReady .link 0)).clearEntries

section
variable (s : State)

theorem State.farLost_far : s.farLost.far = s.far.lost := by simp [State.farLost]

theorem State.farLost_park : s.farLost.park = s.park.filter fun r => !r.isReady := by
  rw [State.farLost, State.clearEntries_park, State.sweep_refuse_park]

theorem State.farLost_outs (g : BridgeTag) : s.farLost.outs[g] = none := by
  rw [State.farLost, State.clearEntries_outs]

/-- The live entries that are refused, in ascending bridge tag. -/
theorem farLost_entries : (List.finRange 128).filterMap
    ({ s with far := s.far.lost }.sweep (refuseFate ParkRecord.isReady .link 0)).liveAt =
      (s.outs.toList.filterMap id).filter fun o => o.phase == .waiting && !o.orphan := by
  rw [liveAt_list, State.sweep_outs]

/-- The refusals of the loss of the far link, and their count. -/
theorem State.farLost_refusals : (∃ l, NearSends s s.farLost l ∧ l.filter (fun f => f.kind == 3) =
      ((s.park.filter fun r => r.isReady && r.kind != .post).map fun r => nearResponse s.node r.agent r.tag 3 [11, 0]) ++
        ((s.outs.toList.filterMap id).filter fun o => o.phase == .waiting && !o.orphan).map fun o =>
          nearResponse s.node o.agent o.tag 3 [11, 0]) ∧
    s.farLost.ctr = { s.ctr with
      refusals := s.ctr.refusals + BitVec.ofNat 32 ((s.park.countP fun r => r.isReady && r.kind != .post) +
        (s.outs.toList.filterMap id).countP fun o => o.phase == .waiting && !o.orphan) } := by
  obtain ⟨l, hl, hrefusals, -⟩ := State.sweep_refuse_outputs { s with far := s.far.lost } ParkRecord.isReady .link 0
  have hctr := State.sweep_refuse_ctr { s with far := s.far.lost } ParkRecord.isReady .link 0
  obtain ⟨⟨k, hk, hentries⟩, hctr'⟩ := clearFrom_refusals (List.finRange 128) (List.nodup_finRange 128)
    ({ s with far := s.far.lost }.sweep (refuseFate ParkRecord.isReady .link 0))
  rw [farLost_entries, State.sweep_node] at hentries
  rw [farLost_entries, hctr] at hctr'
  rw [State.farLost]
  refine ⟨⟨l ++ k, nearSends_trans hl hk, ?_⟩, ?_⟩
  · rw [List.filter_append, hrefusals, hentries, List.filter_filter]
    simp only [Bool.and_comm]
    rfl
  · rw [List.countP_eq_length_filter (l := List.filterMap id _), BitVec.ofNat_add, ← BitVec.add_assoc]
    exact hctr'

/-- What the loss of the far link does to the fences and sends on the near port, where only live work is held. -/
theorem State.farLost_leaves (holds : HoldsPending s) {stays : Agent → Bool}
    (hstays : ∀ a, stays a = s.park.any fun r => !r.isReady && r.held && r.agent == a) :
    Leaves s s.farLost stays ((s.park.filter ParkRecord.isReady).map (refusedPart s.node .link 0) ++
      ((s.outs.toList.filterMap id).filter fun o => o.phase == .waiting && !o.orphan).map (refusedEntry s.node)) := by
  obtain ⟨v, hv⟩ : ∃ v, v = { s with far := s.far.lost }.sweep (refuseFate ParkRecord.isReady .link 0) := ⟨_, rfl⟩
  have hpark (a : Agent) : parkHolds (s.park.filter fun r => !r.isReady) a = stays a := by
    rw [hstays, parkHolds, List.any_filter]
    simp only [Bool.and_assoc]
  have live (g : BridgeTag) (o : OutEntry) (ho : v.outs[g] = some o) : o.held = true → o.live = true := by
    rw [hv, State.sweep_outs] at ho
    exact fun hh => (holds.2 g o ho hh).1
  have within (g : BridgeTag) (o : OutEntry) (_ : v.outs[g] = some o) : g ∈ List.finRange 128 := List.mem_finRange g
  have hnode : v.node = s.node := by rw [hv, State.sweep_node]
  have hcleared := clearFrom_leaves (List.finRange 128) (List.nodup_finRange 128) v (stays := stays)
    (fun a => by rw [hv, State.sweep_refuse_park, hpark]) live within
  have hentries : (List.finRange 128).filterMap v.liveAt =
      (s.outs.toList.filterMap id).filter fun o => o.phase == .waiting && !o.orphan := hv ▸ farLost_entries s
  rw [hentries, hnode] at hcleared
  have hswept := State.sweep_outputs (refuseFate_sameHold (p := ParkRecord.isReady) (x := .link) (d := 0))
    { s with far := s.far.lost } (stays := alsoHeld stays
      (((s.outs.toList.filterMap id).filter fun o => o.phase == .waiting && !o.orphan).map (refusedEntry s.node))) fun a => by
    have houts : v.outs = s.outs := by rw [hv, State.sweep_outs]
    rw [refuseFate_kept, hpark, alsoHeld, ← hentries, ← outsHold_list live within, houts]
  rw [refuseFate_leavings, ← hv] at hswept
  rw [State.farLost, ← hv]
  exact leaves_append hnode (leaves_from (t := { s with far := s.far.lost }) rfl rfl rfl hswept) hcleared

/-- The held requests that the loss of the far link ends. -/
theorem farLost_ended (holds : HoldsPending s) (a : Agent) :
    (∃ y ∈ (s.park.filter ParkRecord.isReady).map (refusedPart s.node .link 0) ++
      ((s.outs.toList.filterMap id).filter fun o => o.phase == .waiting && !o.orphan).map (refusedEntry s.node),
        y.agent = a ∧ y.held = true) ↔
      (∃ r ∈ s.park, r.isReady = true ∧ r.held = true ∧ r.agent = a) ∨
        ∃ (g : BridgeTag) (o : OutEntry), s.outs[g] = some o ∧ o.held = true ∧ o.agent = a := by
  rw [← liveAt_list]
  simp only [List.mem_append, List.mem_map, List.mem_filter, List.mem_filterMap, List.mem_finRange, true_and]
  constructor
  · rintro ⟨y, ⟨r, ⟨hr, hready⟩, rfl⟩ | ⟨o, ⟨g, hg⟩, rfl⟩, hya, hh⟩
    · exact .inl ⟨r, hr, hready, hh, hya⟩
    · exact .inr ⟨g, o, (State.liveAt_some.mp hg).1, hh, hya⟩
  · rintro (⟨r, hr, hready, hh, hra⟩ | ⟨g, o, ho, hh, hoa⟩)
    · exact ⟨_, .inl ⟨r, ⟨hr, hready⟩, rfl⟩, hra, hh⟩
    · exact ⟨_, .inr ⟨o, ⟨g, State.liveAt_some.mpr ⟨ho, (holds.2 g o ho hh).1⟩⟩, rfl⟩, hoa, hh⟩

theorem State.farLost_rest : s.farLost.ctxs = s.ctxs ∧ s.farLost.log = s.log ∧ s.farLost.time = s.time ∧
    s.farLost.bridge = s.bridge ∧ s.farLost.chan = s.chan ∧ s.farLost.cache = s.cache ∧ s.farLost.misses = s.misses ∧
    s.farLost.cause = s.cause := by
  simp [State.farLost]

end

/-- While the far link is DOWN, slots and closes end without a notice, and the record and QUIESCED go unsaid (R113, R128). -/
theorem State.farDrained_ends {u : State} (down : u.far.up = false) (w : FaultBody) : ∃ b,
    (u.farDrained.makeFault w).judgeDrain = { u with
      slots := Vector.replicate 4 none
      ctxs := u.ctxs.map CtxRecord.closedIfClosing
      log := u.log.append u.time w
      bridge := b } ∧ BridgeJudged u (u.farDrained.makeFault w).judgeDrain := by
  have hquiet := State.makeFault_quiet (s := u.farDrained) (.inr (.inl down)) w
  refine ⟨(u.farDrained.makeFault w).judgeDrain.bridge, ?_, ?_⟩
  · have hdown : (u.farDrained.makeFault w).far.up = false := by rw [hquiet]; exact down
    refine (State.judgeDrain_down hdown).trans ?_
    exact congrArg (fun v : State => { v with bridge := (u.farDrained.makeFault w).judgeDrain.bridge }) hquiet
  · exact bridgeJudged_at (by rw [hquiet]; rfl) (State.judgeDrain_judged _)

theorem exec_farLinkDown {s : State} (up : s.far.up = true) :
    exec .farLinkDown s = .next (s.farLost.farDrained.makeFault (farDownFault s)).judgeDrain := if_pos up

/-- Settles O7. -/
theorem farLinkDown : Obligations.FarLinkDown := by
  unfold Obligations.FarLinkDown
  refine fun s => ⟨fun down => if_neg (by rw [down]; decide), fun up => ?_⟩
  rw [exec_farLinkDown up]
  have hfar := s.farLost_far
  have hpark := s.farLost_park
  have houts := s.farLost_outs
  obtain ⟨hctxs, hlog, htime, hbridge, hchan, hcache, hmisses, hcause⟩ := s.farLost_rest
  obtain ⟨⟨l, hl, hrefusals⟩, hctr⟩ := s.farLost_refusals
  have hleaves (holds : HoldsPending s) {stays : Agent → Bool} := s.farLost_leaves holds (stays := stays)
  generalize s.farLost = u at *
  obtain ⟨b, hends, hjudged⟩ := State.farDrained_ends (u := u) (by rw [hfar]; rfl) (farDownFault s)
  have hjudged := bridgeJudged_at hbridge hjudged
  rw [hends] at hjudged ⊢
  unfold NearSends at hl
  refine ⟨_, rfl, hfar, hpark, houts, fun k => ?_, fun c => ?_, fun near => ⟨l, hl.trans (if_pos near), hrefusals⟩,
    fun near => hl.trans (if_neg (by rw [near]; decide)), fun holds stays hstays => ?_, ?_, hjudged, ?_, hchan, hcache, hmisses,
    hcause, ?_⟩
  · simp
  · dsimp only
    rw [getElem_map_fin, hctxs]
    exact CtxRecord.closedIfClosing_eq _
  · obtain ⟨hnear, hfences⟩ := hleaves holds hstays
    refine ⟨hnear, fun a => (hfences a).trans (if_congr (and_congr_right fun _ => ?_) rfl rfl)⟩
    exact farLost_ended s holds a
  · rw [hctr]
  · rw [hlog, htime]
    rfl
  · rw [hctr]

end Sys2Proof.Machine
end

section
/-! PROOF. Freed miss entries offered in turn (R48), and what a run of forwards does to fences and slots. -/

namespace Sys2Proof.Machine

open Sys2Proof.Safety

/-! ## Lists related element by element -/

theorem forall₂_mem_right {α β : Type} {R : α → β → Prop} {l : List α} {k : List β} (h : List.Forall₂ R l k) {b : β}
    (hb : b ∈ k) : ∃ a ∈ l, R a b := by
  induction h with
  | nil => cases hb
  | cons hr _ ih =>
    rcases List.mem_cons.mp hb with rfl | hb
    · exact ⟨_, List.mem_cons_self, hr⟩
    · obtain ⟨a, ha, har⟩ := ih hb
      exact ⟨a, List.mem_cons_of_mem _ ha, har⟩

theorem forall₂_trans {α β γ : Type} {R : α → β → Prop} {S : β → γ → Prop} {T : α → γ → Prop}
    (h : ∀ a b c, R a b → S b c → T a c) {l : List α} {m : List β} {k : List γ} (hl : List.Forall₂ R l m)
    (hm : List.Forall₂ S m k) : List.Forall₂ T l k := by
  induction hl generalizing k with
  | nil =>
    cases hm
    exact .nil
  | cons hr _ ih =>
    cases hm with
    | cons hs hm => exact .cons (h _ _ _ hr hs) (ih hm)

theorem filter_of_forall₂ {α : Type} {R : α → α → Prop} {p : α → Bool} (h : ∀ a b, R a b → (p a = true ∨ p b = true) → b = a)
    {l k : List α} (hl : List.Forall₂ R l k) : k.filter p = l.filter p := by
  induction hl with
  | nil => rfl
  | @cons a b l k hab _ ih =>
    by_cases hp : p a = true ∨ p b = true
    · rw [h a b hab hp, List.filter_cons, List.filter_cons, ih]
    · obtain ⟨ha, hb⟩ := not_or.mp hp
      rw [List.filter_cons_of_neg ha, List.filter_cons_of_neg hb, ih]

theorem Counters.hits_of_butNotices {a b : Counters} (h : a.butNotices = b.butNotices) : a.hits = b.hits :=
  (congrArg Counters.hits h :)

/-! ## Offers in turn -/

/-- A record as offers leave it: an UNNOTICED one may wait on an id that one of them gave a new generation. -/
def JoinedBy (s t : State) (ids : List MissId) (q r : ParkRecord) : Prop :=
  r = q ∨ (q.state = .unnoticed ∧ ∃ id ∈ ids, t.misses[id].gen = s.misses[id].gen + 1 ∧ r = { q with state := .waiting id })

/-- Offers of these free ids from `s` to `t`: the copies they send, the records that join, the misses they allocate. -/
structure Offers (s t : State) (ids : List MissId) (copies : List Frame) : Prop where
  sends : FarSends s t copies
  kinds : ∀ f ∈ copies, f.cls = .mgmt ∧ f.kind = 48
  heads : (copies.map fun f => f.body.headD 0).Sublist (ids.map fun id => byteOf id.val)
  park : List.Forall₂ (JoinedBy s t ids) s.park t.park
  others : ∀ id, id ∉ ids → t.misses[id] = s.misses[id]
  offered : ∀ id ∈ ids, t.misses[id] = s.misses[id] ∨ ∃ q ∈ s.park, q.state = .unnoticed ∧ t.misses[id] =
    { gen := s.misses[id].gen + 1, active := some (freshMiss s q.ctx (pageOf q.address) q.kind q.mode) }

theorem Offers.nil (s : State) : Offers s s [] [] where
  sends := farSends_nil rfl rfl
  kinds := nofun
  heads := List.Sublist.slnil
  park := List.forall₂_same.mpr fun _ _ => .inl rfl
  others := fun _ _ => rfl
  offered := nofun

/-- What an offered record's copy is, if it was sent (R43). -/
theorem areNotices_copy {s : State} {fs : List Frame} {b : List Byte} (h : AreNotices s fs [(48, b)]) :
    (∀ f ∈ fs, f.cls = .mgmt ∧ f.kind = 48) ∧ (fs.map fun f => f.body.headD 0).Sublist [b.headD 0] := by
  unfold AreNotices at h
  split at h
  · obtain ⟨f, rfl⟩ := List.length_eq_one_iff.mp (by simpa using congrArg List.length h)
    simp only [List.map_cons, List.map_nil, List.cons.injEq, Prod.mk.injEq, and_true] at h
    obtain ⟨hcls, -, hkind, hbody⟩ := h
    refine ⟨fun g hg => by rw [List.mem_singleton.mp hg]; exact ⟨hcls, hkind⟩, ?_⟩
    rw [List.map_singleton, hbody]
  · rw [List.map_eq_nil_iff.mp h]
    exact ⟨nofun, List.nil_sublist _⟩

/-- One free id offered. -/
theorem State.offer_offers {s : State} {id : MissId} (free : s.misses[id].active = none) :
    ∃ copies, Offers s (s.offer id) [id] copies := by
  rcases s.offer_cases id with ⟨r, -, first, -⟩ | ⟨-, hsame⟩
  · obtain ⟨copies, hsends, hsaid⟩ := State.notice_notifies (s.offered id r) 48 (s.offerCopy id r)
    obtain ⟨hkinds, hheads⟩ := areNotices_copy hsaid
    have hunnoticed := ParkRecord.isUnnoticed_iff.mp (List.find?_some first)
    rw [State.offer_taken free first]
    have hslot : ((s.offered id r).notice 48 (s.offerCopy id r)).misses[id] =
        { gen := s.misses[id].gen + 1, active := some (freshMiss s r.ctx r.page r.kind r.mode) } := by
      rw [State.notice_misses, State.offered_misses_get, if_pos rfl]
    refine ⟨copies, hsends, hkinds, hheads, ?_, fun j hj => ?_, fun j hj => ?_⟩
    · rw [State.notice_park]
      refine List.forall₂_map_right_iff.mpr (List.forall₂_same.mpr fun q _ => ?_)
      rw [joinMiss_eq]
      dsimp only
      split
      · next h => exact .inr ⟨h.1, id, List.mem_singleton_self id, by rw [hslot], rfl⟩
      · exact .inl rfl
    · rw [State.notice_misses, State.offered_misses_get, if_neg fun h => hj (List.mem_singleton.mpr h)]
    · cases List.mem_singleton.mp hj
      exact .inr ⟨r, List.mem_of_find?_eq_some first, hunnoticed, hslot⟩
  · rw [hsame]
    exact ⟨[], farSends_nil rfl rfl, nofun, List.nil_sublist _, List.forall₂_same.mpr fun _ _ => .inl rfl, fun _ _ => rfl,
      fun _ _ => .inl rfl⟩

theorem Offers.mem_unnoticed {s t : State} {ids : List MissId} {copies : List Frame} (h : Offers s t ids copies)
    {r : ParkRecord} (hr : r ∈ t.park) (unnoticed : r.state = .unnoticed) : r ∈ s.park := by
  obtain ⟨q, hq, hjoin⟩ := forall₂_mem_right h.park hr
  rcases hjoin with rfl | ⟨-, id, -, -, rfl⟩
  · exact hq
  · cases unnoticed

theorem freshMiss_same {s t : State} (ht : t.time = s.time) (hp : t.chan.params = s.chan.params) (c : Ctx) (p : Page)
    (k : ReqKind) (m : Mode) : freshMiss t c p k m = freshMiss s c p k m := by
  unfold freshMiss
  rw [ht, hp]

theorem State.offerAll_offers {s : State} {ids : List MissId} (nodup : ids.Nodup)
    (free : ∀ id ∈ ids, s.misses[id].active = none) : ∃ copies, Offers s (s.offerAll ids) ids copies := by
  induction ids generalizing s with
  | nil => exact ⟨[], .nil s⟩
  | cons id ids ih =>
    obtain ⟨fresh, nodup⟩ := List.nodup_cons.mp nodup
    obtain ⟨first, hfirst⟩ := State.offer_offers (free id List.mem_cons_self)
    have hother {j : MissId} (hj : j ∈ ids) : (s.offer id).misses[j] = s.misses[j] :=
      hfirst.others j fun h => fresh (List.mem_singleton.mp h ▸ hj)
    obtain ⟨rest, hrest⟩ := ih (s := s.offer id) nodup fun j hj => by
      rw [hother hj]
      exact free j (List.mem_cons_of_mem _ hj)
    have hall : s.offerAll (id :: ids) = (s.offer id).offerAll ids := rfl
    rw [hall]
    have hid := hrest.others id fresh
    refine ⟨first ++ rest, farSends_trans hfirst.sends hrest.sends,
      fun f hf => (List.mem_append.mp hf).elim (hfirst.kinds f) (hrest.kinds f), ?_, ?_, fun j hj => ?_, fun j hj => ?_⟩
    · rw [List.map_append, List.map_cons, ← List.singleton_append]
      exact hfirst.heads.append hrest.heads
    · refine forall₂_trans (fun q p r hqp hpr => ?_) hfirst.park hrest.park
      rcases hpr with rfl | ⟨hs, j, hj, hgen, rfl⟩
      · refine hqp.imp_right fun ⟨hs, i, hi, hgen, heq⟩ => ⟨hs, i, ?_, ?_, heq⟩
        · rw [List.mem_singleton.mp hi]
          exact List.mem_cons_self
        · rw [← hgen, List.mem_singleton.mp hi, hid]
      · rcases hqp with rfl | ⟨-, i, -, -, rfl⟩
        · exact .inr ⟨hs, j, List.mem_cons_of_mem _ hj, by rw [hgen, hother hj], rfl⟩
        · cases hs
    · rw [hrest.others j fun h => hj (List.mem_cons_of_mem _ h), hfirst.others j fun h => hj (by
        rw [List.mem_singleton.mp h]; exact List.mem_cons_self)]
    · rcases List.mem_cons.mp hj with rfl | hj
      · rw [hid]
        exact hfirst.offered j (List.mem_singleton_self j)
      · rw [← hother hj]
        refine (hrest.offered j hj).imp_right fun ⟨q, hq, hs, hmiss⟩ => ⟨q, hfirst.mem_unnoticed hq hs, hs, ?_⟩
        rw [hmiss, freshMiss_same (State.offer_time ..) (State.offer_chan_params ..)]

/-- A joined record was and is not READY. -/
theorem JoinedBy.isReady {s t : State} {ids : List MissId} {q r : ParkRecord} (h : JoinedBy s t ids q r) :
    q.isReady = r.isReady := by
  rcases h with rfl | ⟨hs, id, -, -, rfl⟩
  · rfl
  · simp [ParkRecord.isReady, hs]

theorem Offers.unready {s t : State} {ids : List MissId} {copies : List Frame} (h : Offers s t ids copies) :
    List.Forall₂ (JoinedBy s t ids) (s.park.filter fun q => !q.isReady) (t.park.filter fun r => !r.isReady) :=
  List.rel_filter (fun {q r} hjoin => by simp only [JoinedBy.isReady hjoin]) h.park

/-- READY records are as they were. -/
theorem Offers.ready {s t : State} {ids : List MissId} {copies : List Frame} (h : Offers s t ids copies) :
    t.park.filter ParkRecord.isReady = s.park.filter ParkRecord.isReady := by
  refine filter_of_forall₂ (fun q r hjoin hready => ?_) h.park
  rcases hjoin with rfl | ⟨hs, id, -, -, rfl⟩
  · rfl
  · simp [ParkRecord.isReady, hs] at hready

theorem State.offer_hits (s : State) (id : MissId) : (s.offer id).ctr.hits = s.ctr.hits := by
  rcases s.offer_cases id with ⟨r, free, first, -⟩ | ⟨-, hsame⟩
  · rw [State.offer_taken free first, Counters.hits_of_butNotices (State.notice_butNotices ..)]
    rfl
  · rw [hsame]

theorem State.offerAll_ctr (s : State) (ids : List MissId) : (s.offerAll ids).ctr.refusals = s.ctr.refusals ∧
    (s.offerAll ids).ctr.hits = s.ctr.hits :=
  ⟨foldl_keeps (fun s : State => s.ctr.refusals) _ State.offer_refusals ids s,
    foldl_keeps (fun s : State => s.ctr.hits) _ State.offer_hits ids s⟩

/-- The ids of a filtered table are offered in ascending order, and so are their copies. -/
theorem Offers.ascending {s t : State} {p : MissId → Bool} {copies : List Frame}
    (h : Offers s t ((List.finRange 16).filter p) copies) : (copies.map fun f => f.body.headD 0).Pairwise (· < ·) := by
  refine List.Pairwise.sublist h.heads ?_
  rw [List.pairwise_map]
  refine List.Pairwise.imp ?_ ((List.pairwise_lt_finRange 16).filter p)
  intro i j hij
  have hbyte (n : MissId) : (byteOf n.val).toNat = n.val := Nat.mod_eq_of_lt (Nat.lt_trans n.isLt (by decide))
  rw [BitVec.lt_def, hbyte, hbyte]
  exact hij

/-! ## Forwards, fences and slots -/

/-- Every near output is the DONE of a fence pending in `s`; no fence comes to be pending. -/
def FenceDones (s t : State) : Prop :=
  (∃ l, NearSends s t l ∧ ∀ f ∈ l, ∃ (a : Agent) (q : NearTag), s.fences[a] = some q ∧ f = nearResponse s.node a q 2 []) ∧
    (∀ (a : Agent) (q : NearTag), t.fences[a] = some q → s.fences[a] = some q) ∧ t.node = s.node

theorem fenceDones_same {s t : State} (hn : t.near = s.near) (hf : t.fences = s.fences) (hd : t.node = s.node) :
    FenceDones s t := ⟨⟨[], nearSends_nil hn, nofun⟩, fun a q h => by rwa [hf] at h, hd⟩

theorem fenceDones_trans {s t u : State} (h : FenceDones s t) (hu : FenceDones t u) : FenceDones s u := by
  obtain ⟨⟨l, hl, hdones⟩, hfences, hnode⟩ := h
  obtain ⟨⟨k, hk, hmore⟩, hfences', hnode'⟩ := hu
  refine ⟨⟨l ++ k, nearSends_trans hl hk, fun f hf => ?_⟩, fun a q hq => hfences a q (hfences' a q hq), hnode'.trans hnode⟩
  rcases List.mem_append.mp hf with hf | hf
  · exact hdones f hf
  · obtain ⟨a, q, hq, heq⟩ := hmore f hf
    exact ⟨a, q, hfences a q hq, by rw [heq, hnode]⟩

theorem State.judgeFence_fenceDones (s : State) (a : Agent) : FenceDones s (s.judgeFence a) := by
  by_cases h : s.fences[a] = none ∨ s.heldBy a = true
  · rw [State.judgeFence_waits h]
    exact fenceDones_same rfl rfl rfl
  · obtain ⟨pending, held⟩ := not_or.mp h
    obtain ⟨q, hq⟩ := Option.ne_none_iff_exists'.mp pending
    rw [State.judgeFence_done hq (Bool.eq_false_iff.mpr held)]
    refine ⟨⟨[nearResponse s.node a q 2 []], ?_, fun f hf => ⟨a, q, hq, List.mem_singleton.mp hf⟩⟩, fun b p hb => ?_, ?_⟩
    · unfold NearSends
      cases s.near.up <;> rfl
    · have hb := (getElem_set_fin ..).symm.trans hb
      split at hb
      · cases hb
      · exact hb
    · cases s.near.up <;> rfl

theorem State.endHold_fenceDones (s : State) (b : Bool) (a : Agent) : FenceDones s (s.endHold b a) := by
  cases b
  · exact fenceDones_same rfl rfl rfl
  · exact s.judgeFence_fenceDones a

theorem State.runArbiter_fenceDones (s : State) : FenceDones s s.runArbiter := by
  refine s.runArbiter_induct (FenceDones s) (fun {t u} leaves ht => fenceDones_trans ht ?_) (fenceDones_same rfl rfl rfl)
  obtain ⟨before, r, x, m, behind, -, -, -, -, ⟨-, rfl⟩ | ⟨g, -, -, rfl⟩⟩ := State.forwardHead_cases leaves
  · refine fenceDones_trans (fenceDones_same ?_ ?_ ?_) (State.endHold_fenceDones _ _ _)
    · rw [State.completeSlots_near, State.sendFar_near]
    · rw [State.completeSlots_fences, State.sendFar_fences]
    · rw [State.completeSlots_node, State.sendFar_node]
  · exact fenceDones_same (State.sendFar_near ..) (State.sendFar_fences ..) (State.sendFar_node ..)

/-- Every slot is as in `base`, or free and without a carrier. -/
def SlotsKept (base s : State) : Prop := ∀ k : SlotId, s.slots[k] = base.slots[k] ∨ (s.slots[k] = none ∧ s.carriers k = 0)

theorem State.runArbiter_slotsKept {base s : State} (h : s.slots = base.slots) : SlotsKept base s.runArbiter := by
  refine s.runArbiter_induct (SlotsKept base) (fun {t u} leaves ht => ?_) fun k => .inl (by rw [h])
  obtain ⟨before, r, x, m, behind, split, state, -, -, ⟨-, rfl⟩ | ⟨g, -, free, rfl⟩⟩ := State.forwardHead_cases leaves
  · intro k
    rw [State.endHold_slots, State.completeSlots_slots_exact, carriers_same (State.endHold_park ..) (State.endHold_outs ..),
      carriers_same (State.completeSlots_park _) (State.completeSlots_outs _), State.sendFar_slots]
    split
    · next hzero => exact .inr ⟨rfl, hzero⟩
    · next hcarried =>
      exact (ht k).imp_right fun ⟨_, hzero⟩ => absurd (carriers_without_head split _ hzero) hcarried
  · intro k
    rw [State.sendFar_slots]
    exact (ht k).imp_right fun ⟨hnone, hzero⟩ => ⟨hnone, (carriers_forwarded split state free _ k).mpr hzero⟩

end Sys2Proof.Machine
end

section
/-! PROOF. What a FILL releases (R46): the entry check of each waiting record, and the sweep it makes. -/

namespace Sys2Proof.Machine

open Sys2Proof.Safety

/-! ## The entry check of a released record -/

theorem releasedBy_eq {e : Entry} (valid : e.valid = true) (r : ParkRecord) : r.releasedBy e = releasedBy e r := by
  have hscope : e.scope.covers r.ctx = (e.scope == .allContexts || e.scope == .context r.ctx) := by
    cases e.scope with
    | allContexts => rfl
    | context d =>
      have hno : (Scope.context d == .allContexts) = false := by simp
      rw [hno, Bool.false_or, Bool.eq_iff_iff]
      simp [Scope.covers]
  rw [ParkRecord.releasedBy, Entry.matchesPair, valid, Bool.true_and, hscope, releasedBy, Bool.and_comm (_ || _),
    ← Bool.and_assoc]
  congr 2
  exact BEq.comm

theorem entryCheck_rights {e : Entry} {r : ParkRecord} {d : Byte} (h : rightsDetail e r = some d) :
    entryCheck e r.kind r.mode = .refuse .rights .rights d := by
  unfold rightsDetail at h
  unfold entryCheck
  rw [grants_accessOf]
  by_cases user : r.mode = .user ∧ e.user = false
  · rw [if_pos user] at h ⊢
    cases h
    rfl
  · rw [if_neg user] at h ⊢
    by_cases access : (if r.kind = .read then e.read else e.write) = false
    · rw [if_pos access] at h ⊢
      cases h
      rfl
    · rw [if_neg access] at h
      cases h

theorem entryCheck_unrefused {e : Entry} {r : ParkRecord} (h : rightsDetail e r = none) :
    entryCheck e r.kind r.mode = match e.action with
      | .guard => .refuse .guard .guard 0
      | .zero => .zero
      | .forward => .forward := by
  unfold rightsDetail at h
  unfold entryCheck
  rw [grants_accessOf]
  by_cases user : r.mode = .user ∧ e.user = false
  · rw [if_pos user] at h
    cases h
  · rw [if_neg user] at h
    by_cases access : (if r.kind = .read then e.read else e.write) = false
    · rw [if_pos access] at h
      cases h
    · exact (if_neg user).trans (if_neg access)

/-- What a released record's check can come to (R7, R8, R46). -/
inductive ReleaseCase (e : Entry) (r : ParkRecord) : Prop where
  | stays (h : releasedBy e r = false)
  | rights (d : Byte) (h : releasedBy e r = true) (hd : rightsDetail e r = some d)
  | guard (h : releasedBy e r = true) (hd : rightsDetail e r = none) (ha : e.action = .guard)
  | zero (h : releasedBy e r = true) (hd : rightsDetail e r = none) (ha : e.action = .zero)
  | forward (h : releasedBy e r = true) (hd : rightsDetail e r = none) (ha : e.action = .forward)

theorem releaseCase (e : Entry) (r : ParkRecord) : ReleaseCase e r := by
  cases h : releasedBy e r with
  | false => exact .stays h
  | true =>
    cases hd : rightsDetail e r with
    | some d => exact .rights d h hd
    | none =>
      cases ha : e.action with
      | guard => exact .guard h hd ha
      | zero => exact .zero h hd ha
      | forward => exact .forward h hd ha

section
variable {e : Entry} (valid : e.valid = true) (r : ParkRecord)
include valid

/-- A released record's fate. -/
theorem releaseFate_eq : releaseFate e r =
    if releasedBy e r then
      match rightsDetail e r with
      | some d => .leave (refusalTo r.kind .rights d)
      | none =>
        match e.action with
        | .guard => .leave (refusalTo r.kind .guard 0)
        | .zero => .leave (zeroAnswer r.kind r.len)
        | .forward => .keep { r with state := .ready (translate e r.address) [] }
    else .keep r := by
  unfold releaseFate
  rw [releasedBy_eq valid]
  cases releaseCase e r with
  | stays h => rw [h]; rfl
  | rights d h hd => rw [h, hd, entryCheck_rights hd]
  | guard h hd ha => rw [h, hd, entryCheck_unrefused hd, ha]
  | zero h hd ha => rw [h, hd, entryCheck_unrefused hd, ha]
  | forward h hd ha => rw [h, hd, entryCheck_unrefused hd, ha]

theorem releaseFault_eq : releaseFault e r = if releasedBy e r then releaseRecord e r else none := by
  unfold releaseFault releaseRecord
  rw [releasedBy_eq valid]
  cases releaseCase e r with
  | stays h => rw [h]; rfl
  | rights d h hd => rw [h, hd, entryCheck_rights hd]; rfl
  | guard h hd ha => rw [h, hd, entryCheck_unrefused hd, ha]; rfl
  | zero h hd ha => rw [h, hd, entryCheck_unrefused hd, ha]; rfl
  | forward h hd ha => rw [h, hd, entryCheck_unrefused hd, ha]; rfl

theorem releaseFate_kept_eq : (releaseFate e r).kept =
    if !releasedBy e r || readiedBy e r then some (afterRelease e r) else none := by
  rw [releaseFate_eq valid]
  unfold afterRelease readiedBy
  cases releaseCase e r with
  | stays h => rw [h]; rfl
  | rights d h hd => rw [h, hd]; rfl
  | guard h hd ha => rw [h, hd, ha]; rfl
  | zero h hd ha => rw [h, hd, ha]; rfl
  | forward h hd ha => rw [h, hd, ha]; rfl

theorem releaseFate_leaving (node : NodeId) : leavingOf node (releaseFate e) r =
    if releasedBy e r && !readiedBy e r then
      some { agent := r.agent, held := r.held, frames := releaseAnswer node e r }
    else none := by
  unfold leavingOf
  rw [releaseFate_eq valid]
  unfold readiedBy releaseAnswer
  cases releaseCase e r with
  | stays h => rw [h]; rfl
  | rights d h hd => rw [h, hd]; cases r.kind <;> rfl
  | guard h hd ha => rw [h, hd, ha]; cases r.kind <;> rfl
  | zero h hd ha => rw [h, hd, ha]; cases r.kind <;> rfl
  | forward h hd ha => rw [h, hd, ha]; rfl

theorem releaseFate_refused : refusedBy (releaseFate e) r =
    (releasedBy e r && r.kind != .post && (releaseRecord e r).isSome) := by
  unfold refusedBy
  rw [releaseFate_eq valid]
  unfold releaseRecord
  cases releaseCase e r with
  | stays h => rw [h]; rfl
  | rights d h hd => rw [h, hd]; cases r.kind <;> rfl
  | guard h hd ha => rw [h, hd, ha]; cases r.kind <;> rfl
  | zero h hd ha => rw [h, hd, ha]; cases r.kind <;> rfl
  | forward h hd ha => rw [h, hd, ha]; cases r.kind <;> rfl

end

theorem afterRelease_unresolved {e : Entry} {r : ParkRecord} (h : (afterRelease e r).isReady = false) :
    afterRelease e r = r ∧ readiedBy e r = false := by
  cases hr : readiedBy e r with
  | false => exact ⟨if_neg (by rw [hr]; decide), rfl⟩
  | true =>
    rw [afterRelease, if_pos hr] at h
    cases h

/-! ## The sweep of a release -/

theorem filterMap_ite {α β : Type} (p : α → Bool) (f : α → β) (l : List α) :
    l.filterMap (fun x => if p x then some (f x) else none) = (l.filter p).map f := by
  induction l with
  | nil => rfl
  | cons x l ih =>
    rw [List.filter_cons]
    cases hp : p x with
    | true => rw [List.filterMap_cons_some (b := f x) (by rw [hp]; rfl), ih]; rfl
    | false => rw [List.filterMap_cons_none (by rw [hp]; rfl), ih]; rfl

section
variable {e : Entry} (valid : e.valid = true) (l : List ParkRecord)
include valid

theorem released_park : (l.filterMap fun r => (releaseFate e r).kept) =
    (l.filter fun r => !releasedBy e r || readiedBy e r).map (afterRelease e) := by
  rw [← filterMap_ite]
  exact List.filterMap_congr fun r _ => releaseFate_kept_eq valid r

theorem released_leavings (node : NodeId) : l.filterMap (leavingOf node (releaseFate e)) =
    (l.filter fun r => releasedBy e r && !readiedBy e r).map fun r =>
      { agent := r.agent, held := r.held, frames := releaseAnswer node e r } := by
  rw [← filterMap_ite]
  exact List.filterMap_congr fun r _ => releaseFate_leaving valid r node

theorem released_faults : l.filterMap (releaseFault e) = (l.filter (releasedBy e)).filterMap (releaseRecord e) := by
  rw [← List.filterMap_eq_filter, List.filterMap_filterMap]
  refine List.filterMap_congr fun r _ => ?_
  rw [releaseFault_eq valid, Option.guard]
  cases releasedBy e r <;> rfl

theorem released_refusals : l.countP (refusedBy (releaseFate e)) =
    l.countP fun r => releasedBy e r && r.kind != .post && (releaseRecord e r).isSome :=
  List.countP_congr fun r _ => by rw [releaseFate_refused valid]

theorem released_count : l.countP (ParkRecord.releasedBy e) = l.countP (releasedBy e) :=
  List.countP_congr fun r _ => by rw [releasedBy_eq valid]

end

end Sys2Proof.Machine
end

section
/-! PROOF. A FILL that passes its checks (O31, O32). -/

namespace Sys2Proof.Machine

open Sys2Proof.Safety

/-! ## A FILL's stages -/

/-- The reply of a FILL that passes its checks. -/
def fillAck (s : State) (a : FillArgs) (w : WayId) : List Byte := 1 :: fillFields s a w

theorem exec_fill_passes {s : State} {h : Header} {body : List Byte} {a : FillArgs} {w : WayId} (hu : UnderE s h body)
    (args : fillArgs body = some a) (judged : judgeFill s a.entry a.way = .ok w) :
    exec (.fill h body) s = .next (fillRecorded (commandFrame .fill h body) a w (farTaken s)).runArbiter.judgeDrain := by
  rw [exec_fill hu args, runFill, show judgeFill (farTaken s) a.entry a.way = .ok w from judged, ← fillWritten_eq]

theorem missesMatched_nodup (s : State) (e : Entry) : (s.missesMatched e).Nodup := (List.nodup_finRange 16).filter _

theorem mem_missesMatched {s : State} {e : Entry} {id : MissId} :
    id ∈ s.missesMatched e ↔ ∃ m, s.misses[id].active = some m ∧ e.matchesPair m.ctx m.page = true := by
  simp [State.missesMatched, Option.any_eq_true]

theorem fillCleared_misses (s : State) (a : FillArgs) (w : WayId) (id : MissId) : (fillCleared s a w).misses[id] =
    if id ∈ s.missesMatched a.entry then { gen := s.misses[id].gen, active := none } else s.misses[id] := by
  rw [fillCleared, State.freeMisses_misses_get, State.sweep_misses]
  rfl

theorem faultsSaid_same {s t : State} (hp : t.chan.params = s.chan.params) (hl : t.log = s.log) (ht : t.time = s.time)
    (ws : List FaultBody) : faultsSaid t ws = faultsSaid s ws := by
  unfold faultsSaid
  rw [hp, hl, ht]

/-- The state of a FILL behind its ACK. -/
def fillAcked (s : State) (h : Header) (body : List Byte) (a : FillArgs) (w : WayId) : State :=
  (fillCleared s a w).ack (commandFrame .fill h body) (fillFields s a w)

section
variable (s : State) (h : Header) (body : List Byte) (a : FillArgs) (w : WayId)

theorem fillRecorded_eq : fillRecorded (commandFrame .fill h body) a w s =
    ((fillAcked s h body a w).offerAll (s.missesMatched a.entry)).makeFaults (s.park.filterMap (releaseFault a.entry)) := rfl

/-- What a FILL's record-making leaves as it was. -/
theorem fillRecorded_rest : (fillRecorded (commandFrame .fill h body) a w s).outs = s.outs ∧
    (fillRecorded (commandFrame .fill h body) a w s).slots = s.slots ∧
    (fillRecorded (commandFrame .fill h body) a w s).ctxs = s.ctxs ∧
    (fillRecorded (commandFrame .fill h body) a w s).bridge = s.bridge ∧
    (fillRecorded (commandFrame .fill h body) a w s).node = s.node ∧
    (fillRecorded (commandFrame .fill h body) a w s).time = s.time ∧
    (fillRecorded (commandFrame .fill h body) a w s).chan.params = s.chan.params ∧
    (fillRecorded (commandFrame .fill h body) a w s).chan.manager = s.chan.manager := by
  simp [fillRecorded, fillCleared, fillInstalled]

theorem fillAcked_misses (id : MissId) : (fillAcked s h body a w).misses[id] =
    if id ∈ s.missesMatched a.entry then { gen := s.misses[id].gen, active := none } else s.misses[id] := by
  rw [fillAcked, State.ack_misses, fillCleared_misses]

theorem fillAcked_time : (fillAcked s h body a w).time = s.time := by simp [fillAcked, fillCleared, fillInstalled]

theorem fillAcked_params : (fillAcked s h body a w).chan.params = s.chan.params := by
  simp [fillAcked, fillCleared, fillInstalled]

theorem fillAcked_log : (fillAcked s h body a w).log = s.log := by simp [fillAcked, fillCleared, fillInstalled]

theorem fillAcked_sends (up : s.far.up = true) : FarSends s (fillAcked s h body a w) [replyTo s h 32 (fillAck s a w)] := by
  have hfar : (fillCleared s a w).far = s.far := by simp [fillCleared, fillInstalled]
  have hchan : (fillCleared s a w).chan = s.chan := by simp [fillCleared, fillInstalled]
  have hnode : (fillCleared s a w).node = s.node := by simp [fillCleared, fillInstalled]
  have hacked := (State.ack_onlySends (s := fillCleared s a w) (by rw [hfar]; exact up) .fill h body (fillFields s a w)).sends
  rw [replyTo_node hnode] at hacked
  unfold FarSends at hacked
  rw [hfar, hchan] at hacked
  exact hacked

theorem fillAcked_stored : (fillAcked s h body a w).chan.stored = some (replyTo s h 32 (fillAck s a w)) := by
  rw [fillAcked, State.ack_stored, replyTo_node (s := s) (by simp [fillCleared, fillInstalled])]
  rfl

theorem fillAcked_expected : (fillAcked s h body a w).chan.expected = s.chan.expected + 1 := by
  rw [fillAcked, State.ack_expected]
  simp [fillCleared, fillInstalled]

theorem fillAcked_hits : (fillAcked s h body a w).ctr.hits = s.ctr.hits := by
  rw [fillAcked, State.ack_ctr, fillCleared, State.freeMisses_ctr, State.sweep_ctr_eq]
  rfl

theorem fillAcked_offers : ∃ copies, Offers (fillAcked s h body a w)
    ((fillAcked s h body a w).offerAll (s.missesMatched a.entry)) (s.missesMatched a.entry) copies :=
  State.offerAll_offers (missesMatched_nodup s a.entry) fun id hid => by rw [fillAcked_misses, if_pos hid]

/-- Behind its offers, a FILL's records are said. -/
theorem fillRecorded_sends (up : s.far.up = true) {copies : List Frame}
    (offers : Offers (fillAcked s h body a w) ((fillAcked s h body a w).offerAll (s.missesMatched a.entry))
      (s.missesMatched a.entry) copies) : ∃ faults,
    FarSends s (fillRecorded (commandFrame .fill h body) a w s) ([replyTo s h 32 (fillAck s a w)] ++ copies ++ faults) ∧
      AreNotices s faults (faultsSaid s (s.park.filterMap (releaseFault a.entry))) := by
  have hsent := farSends_trans (fillAcked_sends s h body a w up) offers.sends
  obtain ⟨faults, hfaults, hsaid⟩ := notifies_after hsent (State.makeFaults_notifies _ (s.park.filterMap (releaseFault a.entry)))
  rw [faultsSaid_same (s := s) (by rw [State.offerAll_chan_params, fillAcked_params])
    (by rw [State.offerAll_log, fillAcked_log]) (by rw [State.offerAll_time, fillAcked_time])] at hsaid
  exact ⟨faults, hfaults, hsaid⟩

end

/-! ## What a FILL installs -/

theorem ticketStatus_eq (s : State) (e : Entry) (ticket : Option Ticket) : ticketStatus s e ticket =
    match ticket with
    | none => 0
    | some k =>
      match s.misses[k.id].active with
      | none => 1
      | some m => if s.misses[k.id].gen ≠ k.gen then 1 else if e.matchesPair m.ctx m.page then 3 else 2 := by
  unfold ticketStatus State.liveMiss
  cases ticket with
  | none => rfl
  | some k =>
    dsimp only
    by_cases live : s.misses[k.id].gen = k.gen
    · rw [if_pos live]
      cases s.misses[k.id].active with
      | none => rfl
      | some m => exact (if_neg (not_not.mpr live)).symm
    · rw [if_neg live]
      cases s.misses[k.id].active with
      | none => rfl
      | some m => exact (if_pos live).symm

/-- A FILL that releases and frees nothing is its installation and its ACK. -/
theorem fillRecorded_quiet {s : State} {h : Header} {body : List Byte} {a : FillArgs} {w : WayId} (empty : s.park = [])
    (none : ∀ (id : MissId) (m : Miss), s.misses[id].active = some m → a.entry.matchesPair m.ctx m.page = false) :
    fillRecorded (commandFrame .fill h body) a w s =
      (fillInstalled s a w).ack (commandFrame .fill h body) (fillFields s a w) := by
  have hmatched : s.missesMatched a.entry = [] := by
    refine List.eq_nil_iff_forall_not_mem.mpr fun id hid => ?_
    obtain ⟨m, hm, hmatch⟩ := mem_missesMatched.mp hid
    rw [none id m hm] at hmatch
    cases hmatch
  rw [fillRecorded_eq, fillAcked, fillCleared, hmatched, State.sweep_nil (by exact empty), empty]
  rfl

/-- Settles O31. -/
theorem fillInstalls : Obligations.FillInstalls := by
  unfold Obligations.FillInstalls
  refine ⟨fun s e choice w target open_ apart room => judgeFill_targetWay target open_ apart room,
    fun s h body a w hu args judged => ?_⟩
  obtain ⟨copies, offers⟩ := fillAcked_offers (farTaken s) h body a w
  obtain ⟨faults, hsends, -⟩ := fillRecorded_sends (farTaken s) h body a w hu.1.1 offers
  obtain ⟨-, -, hctxs, -, -, -, hparams, hmanager⟩ := fillRecorded_rest (farTaken s) h body a w
  obtain ⟨v, hv⟩ : ∃ v, v = fillRecorded (commandFrame .fill h body) a w (farTaken s) := ⟨_, rfl⟩
  have hexec := exec_fill_passes hu args judged
  rw [← hv] at hsends hexec
  obtain ⟨fs, gone, hrun⟩ := v.runArbiter_forwards
  obtain ⟨quiesced, hfar, -, -⟩ := hrun.judged (State.runArbiter_bridge v)
  have hcache : v.cache = (fillInstalled (farTaken s) a w).cache := by rw [hv]; simp [fillRecorded, fillCleared]
  refine ⟨_, fillAck (farTaken s) a w, hexec, ?_, ?_, ?_, ?_, ?_, ?_, ?_, ?_, ?_, fun empty none calm => ?_⟩
  · refine congrArg (fun x => [1, byteOf (setOf a.entry.page).val, byteOf w.val,
      if s.cache[setOf a.entry.page].ways[w].sameKey a.entry then 1 else 0, x,
      byteOf (s.park.countP (ParkRecord.releasedBy a.entry))]) (ticketStatus_eq s a.entry a.ticket)
  · rw [State.judgeDrain_cache, State.runArbiter_cache, hcache]
    rfl
  · rw [hfar, hsends.1]
    refine ⟨copies ++ faults ++ fs ++ quiesced, ?_⟩
    simp only [List.append_assoc]
    rfl
  · rw [State.judgeDrain_chan_stored, State.runArbiter_chan_stored, hv, fillRecorded_eq, State.makeFaults_chan_stored,
      State.offerAll_chan_stored, fillAcked_stored]
    rfl
  · rw [State.judgeDrain_chan_expected, State.runArbiter_chan_expected, hv, fillRecorded_eq, State.makeFaults_chan_expected,
      State.offerAll_chan_expected, fillAcked_expected]
    rfl
  · rw [State.judgeDrain_chan_params, State.runArbiter_chan_params, hv]
    exact hparams
  · rw [State.judgeDrain_chan_manager, State.runArbiter_chan_manager, hv]
    exact hmanager
  · rw [State.judgeDrain_ctxs, State.runArbiter_ctxs, hv]
    exact hctxs
  · rw [Counters.hits_of_butNotices (State.judgeDrain_butNotices _), Counters.hits_of_butNotices (State.runArbiter_butNotices _),
      hv, fillRecorded_eq, Counters.hits_of_butNotices (State.makeFaults_butNotices ..), (State.offerAll_ctr ..).2,
      fillAcked_hits]
    rfl
  · have hquiet : v = answered (fillInstalled s a w) h 32 (fillAck (farTaken s) a w) := by
      rw [hv, fillRecorded_quiet (s := farTaken s) empty none]
      exact State.ack_answered (s := fillInstalled s a w) hu.1.1 .fill h body (fillFields (farTaken s) a w)
    have hready : v.readyExists = false := by
      rw [hquiet]
      exact (congrArg (List.any · ParkRecord.isReady) empty :)
    rw [State.runArbiter_idle hready, State.judgeDrain_idle (by rw [hquiet]; exact calm), hquiet]
    rfl

end Sys2Proof.Machine
end

section
/-! PROOF. The miss side of a FILL (O32). -/

namespace Sys2Proof.Machine

open Sys2Proof.Safety

/-! ## Runs of forwards, seen from a state before them -/

theorem headsForwarded_at {s u v t : State} {fs : List Frame} (houts : v.outs = s.outs) (hnode : v.node = s.node)
    (htime : v.time = s.time) (hparams : v.chan.params = s.chan.params)
    (hready : v.park.filter ParkRecord.isReady = u.park.filter ParkRecord.isReady) (h : HeadsForwarded v v t fs) :
    HeadsForwarded s u t fs := by
  unfold HeadsForwarded at *
  rw [houts, hnode, htime, hparams, hready] at h
  exact h

theorem freeOrForwarded_at {u v t : State} {g : BridgeTag} (htime : v.time = u.time)
    (hready : ∀ r ∈ v.park, r.isReady = true → r ∈ u.park) (h : FreeOrForwarded v t g) : FreeOrForwarded u t g := by
  intro x hx
  obtain ⟨hphase, horphan, hissue, r, hr, hisReady, hsame⟩ := h x hx
  exact ⟨hphase, horphan, hissue.trans htime, r, hready r hr hisReady, hisReady, hsame⟩

theorem leaves_to {s t u : State} {stays : Agent → Bool} {l : List Leaving} (near : u.near = t.near)
    (fences : u.fences = t.fences) (h : Leaves s t stays l) : Leaves s u stays l := by
  unfold Leaves NearSends at *
  rwa [near, fences]

/-! ## The parts of a FILL's release -/

theorem releaseFate_sameHold {e : Entry} (r q : ParkRecord) (h : releaseFate e r = .keep q) : SameHold q r := by
  rcases releaseFate_keep h with rfl | rfl
  · exact ⟨rfl, rfl⟩
  · exact ⟨rfl, rfl⟩

section
variable {s : State} {h : Header} {body : List Byte} {a : FillArgs} {w : WayId}

theorem fillAcked_park_eq (s : State) (h : Header) (body : List Byte) (w : WayId) (valid : a.entry.valid = true) :
    (fillAcked s h body a w).park =
      (s.park.filter fun r => !releasedBy a.entry r || readiedBy a.entry r).map (afterRelease a.entry) := by
  rw [fillAcked, State.ack_park, fillCleared, State.freeMisses_park, State.sweep_park, released_park valid]
  rfl

/-- An UNNOTICED record behind a release was there before it, unreleased. -/
theorem fillAcked_unnoticed {q : ParkRecord} (valid : a.entry.valid = true) (hq : q ∈ (fillAcked s h body a w).park)
    (unnoticed : q.state = .unnoticed) : q ∈ s.park ∧ releasedBy a.entry q = false := by
  rw [fillAcked_park_eq s h body w valid] at hq
  obtain ⟨r, hr, rfl⟩ := List.mem_map.mp hq
  obtain ⟨hr, hstays⟩ := List.mem_filter.mp hr
  have hready : (afterRelease a.entry r).isReady = false := by rw [ParkRecord.isReady, unnoticed]
  obtain ⟨hsame, hnot⟩ := afterRelease_unresolved hready
  rw [hnot, Bool.or_false, Bool.not_eq_true'] at hstays
  rw [hsame]
  exact ⟨hr, hstays⟩

/-- The misses behind a FILL's offers. -/
theorem fillOffered_misses {copies : List Frame} {u : State} (valid : a.entry.valid = true)
    (offers : Offers (fillAcked s h body a w) u (s.missesMatched a.entry) copies) :
    (∀ (id : MissId) (m : Miss), s.misses[id].active = some m → a.entry.matchesPair m.ctx m.page = true →
      u.misses[id] = { gen := s.misses[id].gen, active := none } ∨
        ∃ q ∈ s.park, releasedBy a.entry q = false ∧ q.state = .unnoticed ∧ u.misses[id] =
          { gen := s.misses[id].gen + 1, active := some (freshMiss s q.ctx (pageOf q.address) q.kind q.mode) }) ∧
      ∀ id : MissId, (∀ m : Miss, s.misses[id].active = some m → a.entry.matchesPair m.ctx m.page = false) →
        u.misses[id] = s.misses[id] := by
  constructor
  · intro id m hm hmatch
    have hid := mem_missesMatched.mpr ⟨m, hm, hmatch⟩
    have hslot := (fillAcked_misses s h body a w id).trans (if_pos hid)
    rcases offers.offered id hid with hsame | ⟨q, hq, hs, hmiss⟩
    · exact .inl (hsame.trans hslot)
    · obtain ⟨hq, hstays⟩ := fillAcked_unnoticed valid hq hs
      refine .inr ⟨q, hq, hstays, hs, ?_⟩
      rw [hmiss, hslot, freshMiss_same (fillAcked_time ..) (fillAcked_params ..)]
  · intro id hno
    have hid : id ∉ s.missesMatched a.entry := fun hid => by
      obtain ⟨m, hm, hmatch⟩ := mem_missesMatched.mp hid
      rw [hno m hm] at hmatch
      cases hmatch
    rw [offers.others id hid, fillAcked_misses, if_neg hid]

/-- The unresolved records behind a FILL's offers. -/
theorem fillOffered_unready {copies : List Frame} {u : State}
    (offers : Offers (fillAcked s h body a w) u (s.missesMatched a.entry) copies) :
    List.Forall₂ (fun q r => r = q ∨ (q.state = .unnoticed ∧ ∃ (id : MissId) (m : Miss),
        s.misses[id].active = some m ∧ a.entry.matchesPair m.ctx m.page = true ∧
          u.misses[id].gen = s.misses[id].gen + 1 ∧ r = { q with state := .waiting id }))
      ((fillAcked s h body a w).park.filter fun q => !q.isReady) (u.park.filter fun r => !r.isReady) := by
  refine offers.unready.imp fun q r hjoin => hjoin.imp_right fun ⟨hs, id, hid, hgen, heq⟩ => ?_
  obtain ⟨m, hm, hmatch⟩ := mem_missesMatched.mp hid
  refine ⟨hs, id, m, hm, hmatch, ?_, heq⟩
  rw [hgen, fillAcked_misses, if_pos hid]

/-- The near port and the fences behind the release's sweep. -/
theorem fillAcked_leaves (valid : a.entry.valid = true) : Leaves s (fillAcked s h body a w)
    (fun g => (fillAcked s h body a w).park.any (fun r => r.held && r.agent == g) || s.outs.toList.any fun o => o.any fun x =>
      x.held && x.agent == g)
    ((s.park.filter fun r => releasedBy a.entry r && !readiedBy a.entry r).map fun r =>
      { agent := r.agent, held := r.held, frames := releaseAnswer s.node a.entry r }) := by
  have hswept := State.sweep_outputs (fate := releaseFate a.entry) releaseFate_sameHold (fillInstalled s a w)
    (stays := fun g => (fillAcked s h body a w).park.any (fun r => r.held && r.agent == g) ||
      s.outs.toList.any fun o => o.any fun x => x.held && x.agent == g) fun g => by
    rw [released_park valid, fillAcked_park_eq s h body w valid]
    rfl
  rw [released_leavings valid] at hswept
  refine leaves_to ?_ ?_ (leaves_from (t := fillInstalled s a w) rfl rfl rfl hswept)
  · rw [fillAcked, State.ack_near, fillCleared, State.freeMisses_near]
  · rw [fillAcked, State.ack_fences, fillCleared, State.freeMisses_fences]

theorem fillAcked_refusals (valid : a.entry.valid = true) : (fillAcked s h body a w).ctr.refusals =
    s.ctr.refusals + BitVec.ofNat 32 (s.park.countP fun r =>
      releasedBy a.entry r && r.kind != .post && (releaseRecord a.entry r).isSome) := by
  rw [fillAcked, State.ack_ctr, fillCleared, State.freeMisses_ctr, State.sweep_ctr_eq, released_refusals valid]
  rfl

end

/-- A FILL's release, without what the far frame's arrival counts. -/
theorem fill_releases {s : State} {h : Header} {body : List Byte} {a : FillArgs} {w : WayId} (up : s.far.up = true)
    (valid : a.entry.valid = true) {u : State}
    (hu : u.park = (s.park.filter fun r => !releasedBy a.entry r || readiedBy a.entry r).map (afterRelease a.entry))
    (htime : u.time = s.time) {t : State} (ht : t = (fillRecorded (commandFrame .fill h body) a w s).runArbiter.judgeDrain) :
    ∃ (copies faults forwards quiesced dones : List Frame) (ws : List FaultBody),
      List.Forall₂ (fun q r => r = q ∨ (q.state = .unnoticed ∧ ∃ (id : MissId) (m : Miss),
          s.misses[id].active = some m ∧ a.entry.matchesPair m.ctx m.page = true ∧
            t.misses[id].gen = s.misses[id].gen + 1 ∧ r = { q with state := .waiting id }))
        (u.park.filter fun q => !q.isReady) (t.park.filter fun r => !r.isReady) ∧
      HeadsForwarded s u t forwards ∧
      (∀ (g : BridgeTag) (o : OutEntry), s.outs[g] = some o → t.outs[g] = some o) ∧
      (∀ g : BridgeTag, s.outs[g] = none → FreeOrForwarded u t g) ∧
      ((∀ (id : MissId) (m : Miss), s.misses[id].active = some m → a.entry.matchesPair m.ctx m.page = true →
        t.misses[id] = { gen := s.misses[id].gen, active := none } ∨
          ∃ q ∈ s.park, releasedBy a.entry q = false ∧ q.state = .unnoticed ∧ t.misses[id] =
            { gen := s.misses[id].gen + 1, active := some (freshMiss s q.ctx (pageOf q.address) q.kind q.mode) }) ∧
        ∀ id : MissId, (∀ m : Miss, s.misses[id].active = some m → a.entry.matchesPair m.ctx m.page = false) →
          t.misses[id] = s.misses[id]) ∧
      NearSends s t (nearOutputs s
        (fun g => u.park.any (fun r => r.held && r.agent == g) || s.outs.toList.any fun o => o.any fun x =>
          x.held && x.agent == g)
        ((s.park.filter fun r => releasedBy a.entry r && !readiedBy a.entry r).map fun r =>
          { agent := r.agent, held := r.held, frames := releaseAnswer s.node a.entry r }) ++ dones) ∧
      (∀ f ∈ dones, ∃ (g : Agent) (q : NearTag), s.fences[g] = some q ∧ f = nearResponse s.node g q 2 []) ∧
      t.ctr.refusals = s.ctr.refusals + BitVec.ofNat 32 (s.park.countP fun r =>
        releasedBy a.entry r && r.kind != .post && (releaseRecord a.entry r).isSome) ∧
      ws = (s.park.filter (releasedBy a.entry)).filterMap (releaseRecord a.entry) ∧
      t.log = ws.foldl (fun l x => l.append s.time x) s.log ∧
      t.far = { s.far with queue :=
        s.far.queue ++ [replyTo s h 32 (fillAck s a w)] ++ copies ++ faults ++ forwards ++ quiesced } ∧
      (∀ f ∈ copies, f.cls = .mgmt ∧ f.kind = 48) ∧ (copies.map fun f => f.body.headD 0).Pairwise (· < ·) ∧
      AreNotices s faults (faultsSaid s ws) ∧ AreForwards forwards ∧ AreNotices s quiesced (quiescedSaid s t) ∧
      (∀ k : SlotId, t.slots[k] = s.slots[k] ∨ (t.slots[k] = none ∧ t.carriers k = 0)) ∧ BridgeJudged s t := by
  obtain ⟨copies, offers⟩ := fillAcked_offers s h body a w
  obtain ⟨faults, hsends, hfaults⟩ := fillRecorded_sends s h body a w up offers
  obtain ⟨houts, hslots, -, hbridge, hnode, htime', hparams, hmanager⟩ := fillRecorded_rest s h body a w
  have hleaves := fillAcked_leaves (s := s) (h := h) (body := body) (w := w) valid
  have hpark := fillAcked_park_eq s h body w valid
  rw [← hu] at hpark
  simp only [hpark] at hleaves
  obtain ⟨v, hv⟩ : ∃ v, v = fillRecorded (commandFrame .fill h body) a w s := ⟨_, rfl⟩
  have hvmake := hv.trans (fillRecorded_eq s h body a w)
  rw [← hv] at hsends houts hslots hbridge hnode htime' hparams hmanager ht
  have hvpark : v.park = ((fillAcked s h body a w).offerAll (s.missesMatched a.entry)).park := by
    rw [hvmake, State.makeFaults_park]
  have hvmisses : t.misses = ((fillAcked s h body a w).offerAll (s.missesMatched a.entry)).misses := by
    rw [ht, State.judgeDrain_misses, State.runArbiter_misses, hvmake, State.makeFaults_misses]
  have hready : v.park.filter ParkRecord.isReady = u.park.filter ParkRecord.isReady := by
    rw [hvpark, offers.ready, hpark]
  obtain ⟨fs, gone, hrun⟩ := v.runArbiter_forwards
  obtain ⟨quiesced, hfar, hsaid, hjudged⟩ := hrun.judged (State.runArbiter_bridge v)
  obtain ⟨⟨dones, hdones, hkinds⟩, -, -⟩ := v.runArbiter_fenceDones
  have hvnear : v.near = (fillAcked s h body a w).near := by rw [hvmake, State.makeFaults_near, State.offerAll_near]
  have hvfences : v.fences = (fillAcked s h body a w).fences := by
    rw [hvmake, State.makeFaults_fences, State.offerAll_fences]
  have hswept : Leaves s v _ _ := leaves_to hvnear hvfences hleaves
  have hkept := State.runArbiter_slotsKept (base := s) hslots
  obtain ⟨hfreed, hothers⟩ := fillOffered_misses valid offers
  have hunready := fillOffered_unready offers
  rw [← hvmisses] at hfreed hothers hunready
  refine ⟨copies, faults, fs, quiesced, dones, _, ?_, ?_, fun g o ho => ?_, fun g hg => ?_, ⟨hfreed, hothers⟩, ?_, fun f hf => ?_,
    ?_, rfl, ?_, ?_, offers.kinds, offers.ascending, ?_, hrun.forwards, ?_, fun k => ?_, ?_⟩
  · have hstay : t.park.filter (fun r => !r.isReady) = v.park.filter fun r => !r.isReady := by
      rw [ht, State.judgeDrain_park]
      exact hrun.stay
    rw [hpark, ← hvpark, ← hstay] at hunready
    exact hunready
  · rw [ht]
    exact headsForwarded_at houts hnode htime' hparams hready (hrun.judged_headsForwarded (State.runArbiter_settled v))
  · rw [ht]
    exact hrun.judged_kept (by rw [houts]; exact ho)
  · rw [ht]
    refine freeOrForwarded_at (htime'.trans htime.symm) (fun r hr hrready => ?_)
      (hrun.judged_freeOrForwarded (by rw [houts]; exact hg))
    exact (List.mem_filter.mp (hready ▸ List.mem_filter.mpr ⟨hr, hrready⟩)).1
  · have hnear := nearSends_trans hswept.1 hdones
    unfold NearSends at hnear ⊢
    rw [ht, State.judgeDrain_near]
    exact hnear
  · obtain ⟨g, q, hq, heq⟩ := hkinds f hf
    refine ⟨g, q, ?_, by rw [heq, hnode]⟩
    rw [hswept.2] at hq
    split at hq
    · cases hq
    · exact hq
  · rw [ht, Counters.refusals_of_butNotices (State.judgeDrain_butNotices _),
      Counters.refusals_of_butNotices (State.runArbiter_butNotices _), hvmake,
      Counters.refusals_of_butNotices (State.makeFaults_butNotices ..), (State.offerAll_ctr ..).1, fillAcked_refusals valid]
  · rw [ht, State.judgeDrain_log, State.runArbiter_log, hvmake, State.makeFaults_log_eq, State.offerAll_log,
      State.offerAll_time, fillAcked_log, fillAcked_time, released_faults valid]
  · rw [ht, hfar, hsends.1]
    simp only [List.append_assoc]
  · rw [released_faults valid] at hfaults
    exact hfaults
  · rw [ht]
    have hsaid := areNotices_at (s := s) (by rw [hsends.1]) hsends.2 hsaid
    rw [quiescedSaid_at hbridge] at hsaid
    exact hsaid
  · rw [ht, State.judgeDrain_slots, carriers_same (State.judgeDrain_park _) (State.judgeDrain_outs _)]
    exact hkept k
  · rw [ht]
    exact bridgeJudged_at hbridge hjudged

/-- Settles O32. -/
theorem fillReleases : Obligations.FillReleases := by
  unfold Obligations.FillReleases
  intro s h body a w e u hu args judged he hpark
  subst he
  have valid := fillArgs_valid args
  obtain ⟨copies, faults, forwards, quiesced, dones, ws, hunready, hheads, hkept, hfree, ⟨hfreed, hothers⟩, hnear, hdones,
    hrefusals, hws, hlog, hfar, hkinds, hascending, hfaults, hforwards, hsaid, hslots, hjudged⟩ :=
    fill_releases (s := farTaken s) (h := h) (body := body) (w := w) hu.1.1 valid (u := u) (by rw [hpark]; rfl)
      (by rw [hpark]; rfl) rfl
  refine ⟨_, fillAck (farTaken s) a w, copies, faults, forwards, quiesced, dones, ws, exec_fill_passes hu args judged, ?_,
    hunready, hheads, hkept, hfree, hfreed, hothers, ?_, hdones, hrefusals, hws, hlog, hfar, hkinds, hascending, hfaults,
    hforwards, hsaid, hslots, hjudged⟩
  · exact congrArg (fun n => some (byteOf n)) (released_count valid s.park)
  · rw [nearOutputs_eq (s := s) (t := farTaken s) rfl _ fun _ _ _ => rfl] at hnear
    exact hnear

end Sys2Proof.Machine
end

section
/-! PROOF. CLOSE-CONTEXT (O40): its notes, and the teardown of an OPEN context. -/

namespace Sys2Proof.Machine

open Sys2Proof.Safety

/-! ## The command -/

theorem closeArgs_read (c : Ctx) : closeArgs [byteOf c.val] = some c := by
  unfold closeArgs
  dsimp only
  rw [inRange_byteOf (by decide)]

theorem closeArgs_badContext {x : Byte} (h : 15 < x.toNat) : closeArgs [x] = none := by
  unfold closeArgs
  dsimp only
  rw [inRange_none h]

theorem exec_closeContext {s : State} {h : Header} (hu : UnderE s h []) (c : Ctx) : exec (.closeContext h [byteOf c.val]) s =
    .next (runCloseContext (commandFrame .closeContext h [byteOf c.val]) c (farTaken s)) :=
  exec_command_run (run := runCloseContext (commandFrame .closeContext h [byteOf c.val])) (underE_body hu (by simp))
    .closeContext (closeArgs_read c) rfl

theorem exec_closeContext_open {s : State} {h : Header} (hu : UnderE s h []) {c : Ctx} (opened : s.ctxs[c].state = .opened) :
    exec (.closeContext h [byteOf c.val]) s = .next
      (closeRecorded (commandFrame .closeContext h [byteOf c.val]) c (farTaken s)).runArbiter.judgeDrain := by
  rw [exec_closeContext hu, runCloseContext, show (farTaken s).ctxs[c].state = .opened from opened, ← closeOpen_eq]

/-! ## The stages of a teardown -/

theorem missesOf_nodup (s : State) (c : Ctx) : (s.missesOf c).Nodup := (List.nodup_finRange 16).filter _

theorem mem_missesOf {s : State} {c : Ctx} {id : MissId} :
    id ∈ s.missesOf c ↔ ∃ m, s.misses[id].active = some m ∧ m.ctx = c := by
  simp [State.missesOf, Option.any_eq_true]

/-- Only READY records carry marks. -/
theorem parkMarked_ready (l : List ParkRecord) (k : SlotId) :
    parkMarked (l.filter ParkRecord.isReady) k = parkMarked l k := by
  unfold parkMarked
  rw [List.any_filter]
  congr 1
  funext r
  cases hr : r.isReady with
  | true => rfl
  | false =>
    rw [ParkRecord.marks_of_unready hr]
    rfl

theorem closeSaid_closing {s u : State} {c : Ctx} {q : Byte} (closing : s.ctxs[c].state = .closing q) :
    (closeSaid s u c).toList = if u.ctxWaits c = true then [] else [(51, [byteOf c.val, q])] := by
  unfold closeSaid
  rw [closing]
  dsimp only
  split <;> rfl

/-- The reply of a close that tears its context down. -/
def closeAck (s : State) (c : Ctx) : List Byte := 7 :: closeFields s c

theorem closeAck_eq (s : State) (c : Ctx) : closeAck s c =
    [7, 0] ++ beBytes 2 (countNamed s fun e => e.valid && e.scope == .context c) ++
      [byteOf (s.park.countP fun r => r.ctx == c),
        byteOf ((List.finRange 16).countP fun id => s.misses[id].active.any fun m => m.ctx == c)] := by
  rw [closeAck, closeFields, closeAckFields, countInvalidated_eq, List.countP_eq_length_filter (l := List.finRange 16)]
  rfl

/-- The state of a teardown behind its ACK. -/
def closeAcked (s : State) (h : Header) (body : List Byte) (c : Ctx) : State :=
  (closeCleared (commandFrame .closeContext h body) c s).ack (commandFrame .closeContext h body) (closeFields s c)

/-- The state of a teardown behind its offers (R125). -/
def closeGiven (s : State) (h : Header) (body : List Byte) (c : Ctx) : State :=
  (closeAcked s h body c).offerAll (s.missesOf c)

section
variable (s : State) (h : Header) (body : List Byte) (c : Ctx)

theorem closeRecorded_eq : closeRecorded (commandFrame .closeContext h body) c s =
    ((closeGiven s h body c).completeSlots.completeClose c).makeFaults (s.park.filterMap (closeFault c)) := rfl

theorem closeAcked_park : (closeAcked s h body c).park = s.park.filter fun r => r.ctx != c := by
  rw [closeAcked, State.ack_park, closeCleared, State.freeMisses_park, State.sweep_refuse_park]
  rfl

theorem closeAcked_misses (id : MissId) : (closeAcked s h body c).misses[id] =
    if id ∈ s.missesOf c then { gen := s.misses[id].gen, active := none } else s.misses[id] := by
  rw [closeAcked, State.ack_misses, closeCleared, State.freeMisses_misses_get, State.sweep_misses]
  rfl

/-- What a teardown leaves as it was, behind its ACK. -/
theorem closeAcked_rest : (closeAcked s h body c).outs = s.outs ∧ (closeAcked s h body c).slots = s.slots ∧
    (closeAcked s h body c).bridge = s.bridge ∧ (closeAcked s h body c).node = s.node ∧
    (closeAcked s h body c).time = s.time ∧ (closeAcked s h body c).log = s.log ∧
    (closeAcked s h body c).chan.params = s.chan.params := by
  simp [closeAcked, closeCleared, closeInvalidated]

theorem closeAcked_ctxs : (closeAcked s h body c).ctxs = s.ctxs.set c { s.ctxs[c] with state := .closing h.seq } := by
  simp [closeAcked, closeCleared, closeInvalidated, commandFrame]

theorem closeAcked_cache : (closeAcked s h body c).cache =
    s.cache.map (setInvalidated fun e => e.valid && e.scope == .context c) := by
  rw [closeAcked, State.ack_cache, closeCleared, State.freeMisses_cache, State.sweep_cache, closeInvalidated,
    invalidateCache_eq]
  rfl

theorem closeAcked_near : (closeAcked s h body c).near =
    ((closeInvalidated (commandFrame .closeContext h body) c s).sweep
      (refuseFate (fun r => r.ctx == c) .aborted 0)).near := by
  rw [closeAcked, State.ack_near, closeCleared, State.freeMisses_near]

theorem closeAcked_refusals : (closeAcked s h body c).ctr.refusals =
    s.ctr.refusals + BitVec.ofNat 32 (s.park.countP fun r => r.ctx == c && r.kind != .post) := by
  rw [closeAcked, State.ack_ctr, closeCleared, State.freeMisses_ctr, State.sweep_refuse_ctr]
  rfl

theorem closeAcked_sends (up : s.far.up = true) : FarSends s (closeAcked s h body c) [replyTo s h 32 (closeAck s c)] := by
  have hfar : (closeCleared (commandFrame .closeContext h body) c s).far = s.far := by simp [closeCleared, closeInvalidated]
  have hchan : (closeCleared (commandFrame .closeContext h body) c s).chan = s.chan := by
    simp [closeCleared, closeInvalidated]
  have hnode : (closeCleared (commandFrame .closeContext h body) c s).node = s.node := by
    simp [closeCleared, closeInvalidated]
  have hacked := (State.ack_onlySends (s := closeCleared (commandFrame .closeContext h body) c s) (by rw [hfar]; exact up)
    .closeContext h body (closeFields s c)).sends
  rw [replyTo_node hnode] at hacked
  unfold FarSends at hacked
  rw [hfar, hchan] at hacked
  exact hacked

theorem closeAcked_stored : (closeAcked s h body c).chan.stored = some (replyTo s h 32 (closeAck s c)) := by
  rw [closeAcked, State.ack_stored, replyTo_node (s := s) (by simp [closeCleared, closeInvalidated])]
  rfl

theorem closeAcked_expected : (closeAcked s h body c).chan.expected = s.chan.expected + 1 := by
  rw [closeAcked, State.ack_expected]
  simp [closeCleared, closeInvalidated]

theorem closeGiven_offers : ∃ copies, Offers (closeAcked s h body c) (closeGiven s h body c) (s.missesOf c) copies :=
  State.offerAll_offers (missesOf_nodup s c) fun id hid => by rw [closeAcked_misses, if_pos hid]

/-- What a teardown leaves as it was, behind its offers. -/
theorem closeGiven_rest : (closeGiven s h body c).outs = s.outs ∧ (closeGiven s h body c).slots = s.slots ∧
    (closeGiven s h body c).bridge = s.bridge ∧ (closeGiven s h body c).node = s.node ∧
    (closeGiven s h body c).time = s.time ∧ (closeGiven s h body c).log = s.log ∧
    (closeGiven s h body c).chan.params = s.chan.params ∧
    (closeGiven s h body c).ctxs = s.ctxs.set c { s.ctxs[c] with state := .closing h.seq } := by
  obtain ⟨houts, hslots, hbridge, hnode, htime, hlog, hparams⟩ := closeAcked_rest s h body c
  unfold closeGiven
  rw [State.offerAll_outs, State.offerAll_slots, State.offerAll_bridge, State.offerAll_node, State.offerAll_time,
    State.offerAll_log, State.offerAll_chan_params, State.offerAll_ctxs]
  exact ⟨houts, hslots, hbridge, hnode, htime, hlog, hparams, closeAcked_ctxs s h body c⟩

theorem closeGiven_closing : (closeGiven s h body c).ctxs[c] = { s.ctxs[c] with state := .closing h.seq } := by
  obtain ⟨-, -, -, -, -, -, -, hctxs⟩ := closeGiven_rest s h body c
  rw [hctxs, getElem_set_fin, if_pos rfl]

/-- The records of other contexts carry the same marks before and behind the offers. -/
theorem closeGiven_carriers {k : SlotId} : (closeGiven s h body c).carriers k = 0 ↔
    { s with park := s.park.filter fun r => r.ctx != c }.carriers k = 0 := by
  obtain ⟨copies, offers⟩ := closeGiven_offers s h body c
  obtain ⟨houts, -⟩ := closeGiven_rest s h body c
  have hpark : parkMarked (closeGiven s h body c).park k = parkMarked (s.park.filter fun r => r.ctx != c) k := by
    rw [← parkMarked_ready, offers.ready, closeAcked_park, parkMarked_ready]
  rw [carriers_zero_iff, carriers_zero_iff, State.marked, State.marked, hpark, houts]

/-- The far port behind a teardown's fault records. -/
theorem closeRecorded_sends (up : s.far.up = true) {copies : List Frame}
    (offers : Offers (closeAcked s h body c) (closeGiven s h body c) (s.missesOf c) copies) :
    ∃ purges closes faults : List Frame,
      FarSends s (closeRecorded (commandFrame .closeContext h body) c s)
        ([replyTo s h 32 (closeAck s c)] ++ copies ++ purges ++ closes ++ faults) ∧
      AreNotices s purges (purgesDone s { s with park := s.park.filter fun r => r.ctx != c }) ∧
      AreNotices s closes (if ∃ (g : BridgeTag) (o : OutEntry), s.outs[g] = some o ∧ o.phase = .waiting ∧ o.ctx = c then []
        else [(51, [byteOf c.val, h.seq])]) ∧
      AreNotices s faults (faultsSaid s (s.park.filterMap (closeFault c))) := by
  obtain ⟨houts, hslots, -, -, htime, hlog, hparams, -⟩ := closeGiven_rest s h body c
  have hsent := farSends_trans (closeAcked_sends s h body c up) offers.sends
  obtain ⟨purges, hsent, hpurges⟩ := notifies_after hsent (closeGiven s h body c).completeSlots_notifies
  obtain ⟨closes, hsent, hcloses⟩ := notifies_after hsent ((closeGiven s h body c).completeSlots.completeClose_notifies c)
  obtain ⟨faults, hsent, hfaults⟩ := notifies_after hsent (State.makeFaults_notifies _ (s.park.filterMap (closeFault c)))
  refine ⟨purges, closes, faults, hsent, ?_, ?_, ?_⟩
  · rw [purgesDone_iff hslots fun _ => closeGiven_carriers s h body c] at hpurges
    exact hpurges
  · rw [closeSaid_closing (q := h.seq) (by rw [State.completeSlots_ctxs, closeGiven_closing]),
      ctxWaits_same (s := s) (by rw [State.completeSlots_outs, houts])] at hcloses
    simp only [← ctxWaits_iff]
    exact hcloses
  · rw [faultsSaid_same (s := s) (by simp [hparams]) (by simp [hlog]) (by simp [htime])] at hfaults
    exact hfaults

/-- What a teardown leaves as it was, behind its fault records. -/
theorem closeRecorded_rest : (closeRecorded (commandFrame .closeContext h body) c s).outs = s.outs ∧
    (closeRecorded (commandFrame .closeContext h body) c s).bridge = s.bridge ∧
    (closeRecorded (commandFrame .closeContext h body) c s).time = s.time ∧
    (closeRecorded (commandFrame .closeContext h body) c s).chan.params = s.chan.params := by
  obtain ⟨houts, -, hbridge, -, htime, -, hparams, -⟩ := closeGiven_rest s h body c
  simp [closeRecorded_eq, houts, hbridge, htime, hparams]

theorem closeRecorded_park : (closeRecorded (commandFrame .closeContext h body) c s).park = (closeGiven s h body c).park := by
  simp [closeRecorded_eq]

theorem closeRecorded_misses : (closeRecorded (commandFrame .closeContext h body) c s).misses =
    (closeGiven s h body c).misses := by
  simp [closeRecorded_eq]

theorem closeRecorded_slots : SlotsJudged s (closeRecorded (commandFrame .closeContext h body) c s) := by
  obtain ⟨-, hslots, -⟩ := closeGiven_rest s h body c
  have judged : SlotsJudged s (closeGiven s h body c).completeSlots := State.completeSlots_judged fun k _ => by rw [hslots]
  refine slotsJudged_same judged (by simp [closeRecorded_eq]) fun k => ?_
  rw [carriers_same (s := (closeGiven s h body c).completeSlots) (by simp [closeRecorded_eq]) (by simp [closeRecorded_eq])]

theorem closeRecorded_ctx : (closeRecorded (commandFrame .closeContext h body) c s).ctxs[c] =
    { s.ctxs[c] with state :=
        if ∃ (g : BridgeTag) (o : OutEntry), s.outs[g] = some o ∧ o.phase = .waiting ∧ o.ctx = c then .closing h.seq
        else .closed } := by
  obtain ⟨houts, -⟩ := closeGiven_rest s h body c
  rw [closeRecorded_eq, State.makeFaults_ctxs, State.completeClose_judged, if_pos rfl, State.completeSlots_ctxs,
    closeGiven_closing, ctxWaits_same (s := s) (by rw [State.completeSlots_outs, houts])]
  simp only [← ctxWaits_iff, CtxRecord.judged]
  cases s.ctxWaits c <;> rfl

theorem closeRecorded_ctxs_other {d : Ctx} (hd : d ≠ c) :
    (closeRecorded (commandFrame .closeContext h body) c s).ctxs[d] = s.ctxs[d] := by
  obtain ⟨-, -, -, -, -, -, -, hctxs⟩ := closeGiven_rest s h body c
  rw [closeRecorded_eq, State.makeFaults_ctxs, State.completeClose_ctxs_other _ hd.symm, State.completeSlots_ctxs, hctxs,
    getElem_set_fin, if_neg hd.symm]

theorem closeRecorded_log : (closeRecorded (commandFrame .closeContext h body) c s).log =
    (s.park.filterMap (closeFault c)).foldl (fun l w => l.append s.time w) s.log := by
  obtain ⟨-, -, -, -, htime, hlog, -⟩ := closeGiven_rest s h body c
  rw [closeRecorded_eq, State.makeFaults_log_eq]
  simp [htime, hlog]

theorem closeRecorded_near : (closeRecorded (commandFrame .closeContext h body) c s).near =
    ((closeInvalidated (commandFrame .closeContext h body) c s).sweep
      (refuseFate (fun r => r.ctx == c) .aborted 0)).near := by
  rw [← closeAcked_near]
  simp [closeRecorded_eq, closeGiven]

theorem closeRecorded_refusals : (closeRecorded (commandFrame .closeContext h body) c s).ctr.refusals =
    s.ctr.refusals + BitVec.ofNat 32 (s.park.countP fun r => r.ctx == c && r.kind != .post) := by
  rw [closeRecorded_eq, Counters.refusals_of_butNotices (State.makeFaults_butNotices ..),
    Counters.refusals_of_butNotices (State.completeClose_butNotices ..),
    Counters.refusals_of_butNotices (State.completeSlots_butNotices _), closeGiven, (State.offerAll_ctr ..).1,
    closeAcked_refusals]

theorem closeRecorded_chan : (closeRecorded (commandFrame .closeContext h body) c s).chan.stored =
      some (replyTo s h 32 (closeAck s c)) ∧
    (closeRecorded (commandFrame .closeContext h body) c s).chan.expected = s.chan.expected + 1 := by
  simp [closeRecorded_eq, closeGiven, closeAcked_stored, closeAcked_expected]

theorem closeRecorded_cache : (closeRecorded (commandFrame .closeContext h body) c s).cache =
    s.cache.map (setInvalidated fun e => e.valid && e.scope == .context c) := by
  simp [closeRecorded_eq, closeGiven, closeAcked_cache]

end

/-! ## What the offers of a teardown give -/

section
variable {s : State} {h : Header} {body : List Byte} {c : Ctx} {copies : List Frame}
  (offers : Offers (closeAcked s h body c) (closeGiven s h body c) (s.missesOf c) copies)
include offers

theorem closeGiven_unready : List.Forall₂ (fun q r => r = q ∨ (q.state = .unnoticed ∧ ∃ (id : MissId) (m : Miss),
      s.misses[id].active = some m ∧ m.ctx = c ∧ (closeGiven s h body c).misses[id].gen = s.misses[id].gen + 1 ∧
        r = { q with state := .waiting id }))
    (s.park.filter fun q => q.ctx != c && !q.isReady) ((closeGiven s h body c).park.filter fun r => !r.isReady) := by
  have hunready := offers.unready
  rw [closeAcked_park, List.filter_filter] at hunready
  simp only [Bool.and_comm (_ != _)]
  refine hunready.imp fun q r hjoin => hjoin.imp_right fun ⟨hs, id, hid, hgen, heq⟩ => ?_
  obtain ⟨m, hm, hctx⟩ := mem_missesOf.mp hid
  refine ⟨hs, id, m, hm, hctx, ?_, heq⟩
  rw [hgen, closeAcked_misses, if_pos hid]

theorem closeGiven_freed (id : MissId) (m : Miss) (hm : s.misses[id].active = some m) (hctx : m.ctx = c) :
    (closeGiven s h body c).misses[id] = { gen := s.misses[id].gen, active := none } ∨
      ∃ q ∈ s.park, q.ctx ≠ c ∧ q.state = .unnoticed ∧ (closeGiven s h body c).misses[id] =
        { gen := s.misses[id].gen + 1, active := some (freshMiss s q.ctx (pageOf q.address) q.kind q.mode) } := by
  obtain ⟨-, -, -, -, htime, -, hparams⟩ := closeAcked_rest s h body c
  have hid : id ∈ s.missesOf c := mem_missesOf.mpr ⟨m, hm, hctx⟩
  have hslot := (closeAcked_misses s h body c id).trans (if_pos hid)
  rcases offers.offered id hid with hsame | ⟨q, hq, hs, hmiss⟩
  · exact .inl (hsame.trans hslot)
  · rw [closeAcked_park] at hq
    obtain ⟨hq, hctx⟩ := List.mem_filter.mp hq
    refine .inr ⟨q, hq, bne_iff_ne.mp hctx, hs, ?_⟩
    rw [hmiss, hslot, freshMiss_same htime hparams]

theorem closeGiven_others (id : MissId) (hno : ∀ m : Miss, s.misses[id].active = some m → m.ctx ≠ c) :
    (closeGiven s h body c).misses[id] = s.misses[id] := by
  have hid : id ∉ s.missesOf c := fun hid => by
    obtain ⟨m, hm, hctx⟩ := mem_missesOf.mp hid
    exact hno m hm hctx
  rw [offers.others id hid, closeAcked_misses, if_neg hid]

/-- No miss of the context is active behind the offers. -/
theorem closeGiven_misses (id : MissId) (m : Miss) (hm : (closeGiven s h body c).misses[id].active = some m) : m.ctx ≠ c := by
  by_cases hid : ∃ x, s.misses[id].active = some x ∧ x.ctx = c
  · obtain ⟨x, hx, hctx⟩ := hid
    rcases closeGiven_freed offers id x hx hctx with hfree | ⟨q, -, hq, -, hgiven⟩
    · rw [hfree] at hm
      cases hm
    · rw [hgiven] at hm
      rw [← Option.some.inj hm]
      exact hq
  · have hno (x : Miss) (hx : s.misses[id].active = some x) : x.ctx ≠ c := fun hctx => hid ⟨x, hx, hctx⟩
    rw [closeGiven_others offers id hno] at hm
    exact hno m hm

theorem closeGiven_ready : (closeGiven s h body c).park.filter ParkRecord.isReady =
    s.park.filter fun q => q.ctx != c && q.isReady := by
  rw [offers.ready, closeAcked_park, List.filter_filter]
  simp only [Bool.and_comm]

theorem closeGiven_ctx {r : ParkRecord} (hr : r ∈ (closeGiven s h body c).park) : r.ctx ≠ c := by
  obtain ⟨q, hq, hjoin⟩ := forall₂_mem_right offers.park hr
  rw [closeAcked_park] at hq
  have hctx := bne_iff_ne.mp (List.mem_filter.mp hq).2
  rcases hjoin with rfl | ⟨-, id, -, -, rfl⟩
  · exact hctx
  · exact hctx

end

/-! ## The records of a teardown -/

theorem closeFaults_eq (c : Ctx) (l : List ParkRecord) : l.filterMap (closeFault c) =
    (l.filter fun r => r.ctx == c && r.kind == .post).map fun r =>
      { kind := .postLost, agent := some r.agent, tag := some r.tag, ctx := some r.ctx, page := some (pageOf r.address),
        detail := 9 } := by
  rw [← filterMap_ite]
  refine List.filterMap_congr fun r _ => ?_
  unfold closeFault
  simp only [Bool.and_eq_true, beq_iff_eq]
  rfl

theorem faultsSaid_kinds {s : State} {m : NodeId} (up : s.far.up = true) (manager : s.chan.manager = some m)
    {faults : List Frame} {ws : List FaultBody} (h : AreNotices s faults (faultsSaid s ws)) :
    faults.map Frame.kind = List.replicate (if s.chan.params.faultNotices then ws.length else 0) 49 := by
  unfold AreNotices at h
  rw [up, manager] at h
  have hkinds := congrArg (List.map fun x => x.2.2.1) h
  rw [List.map_map, List.map_map] at hkinds
  refine hkinds.trans ?_
  unfold faultsSaid
  split
  · rw [List.map_map, List.eq_replicate_iff]
    refine ⟨by rw [List.length_map, List.length_zipIdx], fun k hk => ?_⟩
    obtain ⟨x, -, rfl⟩ := List.mem_map.mp hk
    rfl
  · rfl

/-- The near port behind a teardown, its arbiter run included: refusals in park order, and DONEs among them. -/
theorem closeRecorded_nearSends (s : State) (h : Header) (body : List Byte) (c : Ctx) : ∃ l : List Frame,
    NearSends s (closeRecorded (commandFrame .closeContext h body) c s).runArbiter.judgeDrain l ∧
      (∀ f ∈ l, f.kind = 2 ∨ f.kind = 3) ∧
      l.filter (fun f => f.kind == 3) = (s.park.filter fun r => r.ctx == c && r.kind != .post).map fun r =>
        nearResponse s.node r.agent r.tag 3 [9, 0] := by
  obtain ⟨l, hl, hrefused, hkinds⟩ := State.sweep_refuse_outputs
    (closeInvalidated (commandFrame .closeContext h body) c s) (fun r => r.ctx == c) .aborted 0
  obtain ⟨v, hv⟩ : ∃ v, v = closeRecorded (commandFrame .closeContext h body) c s := ⟨_, rfl⟩
  have hswept : NearSends s v l := by
    unfold NearSends at *
    rw [hv, closeRecorded_near, hl]
    rfl
  obtain ⟨fs, gone, hrun⟩ := v.runArbiter_forwards
  obtain ⟨dones, hdones, hdone⟩ := hrun.near
  have hnear := nearSends_trans hswept hdones
  have hnone : dones.filter (fun f => f.kind == 3) = [] := by
    refine List.filter_eq_nil_iff.mpr fun f hf => ?_
    rw [(hdone f hf).2.1]
    decide
  rw [← hv]
  refine ⟨l ++ dones, ?_, fun f hf => ?_, ?_⟩
  · unfold NearSends at hnear ⊢
    rw [State.judgeDrain_near]
    exact hnear
  · exact (List.mem_append.mp hf).elim (hkinds f) fun hf => .inl (hdone f hf).2.1
  · rw [List.filter_append, hnone, List.append_nil, hrefused, List.filter_filter]
    simp only [Bool.and_comm (_ != _)]
    rfl

/-- The teardown of a context, without what the far frame's arrival counts. -/
theorem close_ends {s : State} {h : Header} {body : List Byte} {c : Ctx} {n : NodeId} (up : s.far.up = true)
    (manager : s.chan.manager = some n) {t : State}
    (ht : t = (closeRecorded (commandFrame .closeContext h body) c s).runArbiter.judgeDrain) :
    ∃ copies purges closes faults forwards quiesced : List Frame,
      t.cache = s.cache.map (setInvalidated fun e => e.valid && e.scope == .context c) ∧
      List.Forall₂ (fun q r => r = q ∨ (q.state = .unnoticed ∧ ∃ (id : MissId) (m : Miss),
          s.misses[id].active = some m ∧ m.ctx = c ∧ t.misses[id].gen = s.misses[id].gen + 1 ∧
            r = { q with state := .waiting id }))
        (s.park.filter fun q => q.ctx != c && !q.isReady) (t.park.filter fun r => !r.isReady) ∧
      t.park.filter ParkRecord.isReady <:+ s.park.filter (fun q => q.ctx != c && q.isReady) ∧
      (∀ r ∈ t.park, r.ctx ≠ c) ∧
      (∀ (id : MissId) (m : Miss), t.misses[id].active = some m → m.ctx ≠ c) ∧
      (∀ id : MissId, (∀ m : Miss, s.misses[id].active = some m → m.ctx ≠ c) → t.misses[id] = s.misses[id]) ∧
      (∀ (id : MissId) (m : Miss), s.misses[id].active = some m → m.ctx = c →
        t.misses[id] = { gen := s.misses[id].gen, active := none } ∨
          ∃ q ∈ s.park, q.ctx ≠ c ∧ q.state = .unnoticed ∧ t.misses[id] =
            { gen := s.misses[id].gen + 1, active := some (freshMiss s q.ctx (pageOf q.address) q.kind q.mode) }) ∧
      t.ctxs[c] = { s.ctxs[c] with state :=
        if ∃ (g : BridgeTag) (o : OutEntry), s.outs[g] = some o ∧ o.phase = .waiting ∧ o.ctx = c then .closing h.seq
        else .closed } ∧
      (∀ d : Ctx, d ≠ c → t.ctxs[d] = s.ctxs[d]) ∧
      (∀ (g : BridgeTag) (o : OutEntry), s.outs[g] = some o → t.outs[g] = some o) ∧
      (∀ g : BridgeTag, s.outs[g] = none → FreeOrForwarded s t g) ∧
      (∀ k : SlotId, t.slots[k] = if t.carriers k = 0 then none else s.slots[k]) ∧
      BridgeJudged s t ∧
      t.ctr.refusals = s.ctr.refusals + BitVec.ofNat 32 (s.park.countP fun r => r.ctx == c && r.kind != .post) ∧
      t.log = ((s.park.filter fun r => r.ctx == c && r.kind == .post).map fun r =>
        ({ kind := .postLost, agent := some r.agent, tag := some r.tag, ctx := some r.ctx,
           page := some (pageOf r.address), detail := 9 } : FaultBody)).foldl
          (fun l w => l.append s.time w) s.log ∧
      t.far = { s.far with queue :=
        s.far.queue ++ [replyTo s h 32 (closeAck s c)] ++ copies ++ purges ++ closes ++ faults ++ forwards ++ quiesced } ∧
      (∀ f ∈ copies, f.cls = .mgmt ∧ f.kind = 48) ∧ (copies.map fun f => f.body.headD 0).Pairwise (· < ·) ∧
      AreNotices s purges (purgesDone s { s with park := s.park.filter fun r => r.ctx != c }) ∧
      AreNotices s closes (if ∃ (g : BridgeTag) (o : OutEntry), s.outs[g] = some o ∧ o.phase = .waiting ∧ o.ctx = c then []
        else [(51, [byteOf c.val, h.seq])]) ∧
      faults.map Frame.kind = List.replicate
        (if s.chan.params.faultNotices then s.park.countP fun r => r.ctx == c && r.kind == .post else 0) 49 ∧
      AreForwards forwards ∧ AreNotices s quiesced (quiescedSaid s t) ∧
      t.chan.stored = some (replyTo s h 32 (closeAck s c)) ∧
      t.chan.expected = s.chan.expected + 1 ∧ t.chan.params = s.chan.params := by
  obtain ⟨copies, offers⟩ := closeGiven_offers s h body c
  obtain ⟨purges, closes, faults, hsends, hpurges, hcloses, hfaults⟩ := closeRecorded_sends s h body c up offers
  have hkinds := faultsSaid_kinds up manager hfaults
  have hlog := closeRecorded_log s h body c
  rw [closeFaults_eq] at hkinds hlog
  rw [List.length_map, ← List.countP_eq_length_filter] at hkinds
  obtain ⟨houts, hbridge, htime, hparams⟩ := closeRecorded_rest s h body c
  obtain ⟨hstored, hexpected⟩ := closeRecorded_chan s h body c
  have hpark := closeRecorded_park s h body c
  have hmisses := closeRecorded_misses s h body c
  have hslots := closeRecorded_slots s h body c
  have hctx := closeRecorded_ctx s h body c
  have hothers := fun d => closeRecorded_ctxs_other s h body c (d := d)
  have hrefusals := closeRecorded_refusals s h body c
  have hcache := closeRecorded_cache s h body c
  have hready := closeGiven_ready offers
  have hunready := closeGiven_unready offers
  have hfreed := closeGiven_freed offers
  have hkept := closeGiven_others offers
  have hgone := closeGiven_misses offers
  have hleft := fun r => closeGiven_ctx offers (r := r)
  rw [← hmisses] at hunready hfreed hkept hgone
  rw [← hpark] at hready hunready hleft
  generalize closeRecorded (commandFrame .closeContext h body) c s = v at *
  obtain ⟨fs, gone, hrun⟩ := v.runArbiter_forwards
  obtain ⟨quiesced, hfar, hsaid, hjudged⟩ := hrun.judged (State.runArbiter_bridge v)
  have htmisses : t.misses = v.misses := by rw [ht, State.judgeDrain_misses, State.runArbiter_misses]
  have htctxs : t.ctxs = v.ctxs := by rw [ht, State.judgeDrain_ctxs, State.runArbiter_ctxs]
  have htpark : t.park = v.runArbiter.park := by rw [ht, State.judgeDrain_park]
  rw [htmisses, htctxs]
  refine ⟨copies, purges, closes, faults, fs, quiesced, ?_, ?_, ?_, fun r hr => ?_, hgone, hkept, hfreed, hctx, hothers,
    fun g o ho => ?_, fun g hg => ?_, fun k => ?_, ?_, ?_, ?_, ?_, offers.kinds, offers.ascending, hpurges, hcloses, hkinds,
    hrun.forwards, ?_, ?_, ?_, ?_⟩
  · rw [ht, State.judgeDrain_cache, State.runArbiter_cache, hcache]
  · rw [htpark, hrun.stay]
    exact hunready
  · rw [htpark, ← hready]
    exact ⟨gone, hrun.heads.symm⟩
  · exact hleft r (State.runArbiter_park_subset v (htpark ▸ hr))
  · rw [ht]
    exact hrun.judged_kept (by rw [houts]; exact ho)
  · rw [ht]
    refine freeOrForwarded_at htime (fun r hr hrready => ?_) (hrun.judged_freeOrForwarded (by rw [houts]; exact hg))
    exact (List.mem_filter.mp (hready ▸ List.mem_filter.mpr ⟨hr, hrready⟩)).1
  · rw [ht, State.judgeDrain_slots, carriers_same (State.judgeDrain_park _) (State.judgeDrain_outs _)]
    exact State.runArbiter_slotsJudged hslots k
  · rw [ht]
    exact bridgeJudged_at hbridge hjudged
  · rw [ht, Counters.refusals_of_butNotices (State.judgeDrain_butNotices _),
      Counters.refusals_of_butNotices (State.runArbiter_butNotices _), hrefusals]
  · rw [ht, State.judgeDrain_log, State.runArbiter_log, hlog]
  · rw [ht, hfar, hsends.1]
    simp only [List.append_assoc]
  · rw [ht]
    have hsaid := areNotices_at (s := s) (by rw [hsends.1]) hsends.2 hsaid
    rw [quiescedSaid_at hbridge] at hsaid
    exact hsaid
  · rw [ht, State.judgeDrain_chan_stored, State.runArbiter_chan_stored, hstored]
  · rw [ht, State.judgeDrain_chan_expected, State.runArbiter_chan_expected, hexpected]
  · rw [ht, State.judgeDrain_chan_params, State.runArbiter_chan_params, hparams]

/-- Settles O40. -/
theorem closeContext : Obligations.CloseContext := by
  unfold Obligations.CloseContext
  intro s h c hu
  refine ⟨fun x bad => ?_, fun closed => ?_, fun q closing => ?_, fun opened => ?_⟩
  · exact exec_command_range (run := runCloseContext (commandFrame .closeContext h [x])) (underE_body hu (by simp))
      .closeContext (closeArgs_badContext bad) rfl
  · rw [exec_closeContext hu, runCloseContext, show (farTaken s).ctxs[c].state = .closed from closed]
    exact congrArg Host.Outcome.next (State.ack_answered hu.1.1 .closeContext h _ _)
  · rw [exec_closeContext hu, runCloseContext, show (farTaken s).ctxs[c].state = .closing q from closing]
    exact congrArg Host.Outcome.next (State.ack_answered hu.1.1 .closeContext h _ _)
  · have ⟨⟨up, _⟩, _, manager, _⟩ := hu
    obtain ⟨l, hnear, hkinds, hrefused⟩ := closeRecorded_nearSends (farTaken s) h [byteOf c.val] c
    obtain ⟨copies, purges, closes, faults, forwards, quiesced, hcache, hunready, hready, hleft, hgone, hkept, hfreed, hctx,
      hothers, houts, hfree, hslots, hjudged, hrefusals, hlog, hfar, hcopies, hascending, hpurges, hcloses, hfaults, hforwards,
      hsaid, hstored, hexpected, hparams⟩ :=
      close_ends (s := farTaken s) (h := h) (body := [byteOf c.val]) (c := c) up manager rfl
    refine ⟨_, closeAck (farTaken s) c, copies, purges, closes, faults, forwards, quiesced, exec_closeContext_open hu opened,
      closeAck_eq _ c, hcache, hunready, hready, hleft, hgone, hkept, hfreed, hctx, hothers, houts, hfree, hslots, hjudged,
      fun hup => ⟨l, ?_, hkinds, hrefused⟩, fun hdown => ?_, hrefusals, hlog, hfar, hcopies, hascending, hpurges, hcloses,
      hfaults, hforwards, hsaid, hstored, hexpected, hparams⟩
    · rw [NearSends, show (farTaken s).near.up = true from hup, if_pos rfl] at hnear
      exact hnear
    · rw [NearSends, show (farTaken s).near.up = false from hdown] at hnear
      exact hnear

end Sys2Proof.Machine
end
